-- ==== Sys2Proof/Word.lean ====
section
/-! DEFINITION. The octet, the stream packet as a row of octets, and counting that stops at a top value. -/

namespace Sys2Proof

/-- An octet (00 section 5). -/
abbrev Byte := BitVec 8

/-- A stream packet: 188 octets, the sync octet first (00 section 4, 10 section 10.9). -/
abbrev Packet := List Byte

/-- What an absent field reads as in a 32-bit table value (R31, R34, R69 and others). -/
abbrev absent32 : Nat := 0xFFFFFFFF

/-- The largest value of a 32-bit counter that stops rather than wraps (R15, R33, R55). -/
abbrev top32 : Nat := 0xFFFFFFFF

/-- Adding to a counter that stops at `top` (R15: "stops at 2^32−1 rather than wrapping"). -/
def satAdd (top a b : Nat) : Nat := min top (a + b)

end Sys2Proof
end

