-- ==== Sys2Proof/Syntax.lean ====
section
/-! DEFINITION. The commands the part takes: one constructor of `Instr` for each row of spec/opcode_table.json,
with the records that the arrivals between blocks carry. -/

namespace Sys2Proof

/-- The class sequence checking gives a packet (R25). -/
inductive PacketClass
  | damaged | noPayload | resumed | duplicate | inOrder | gap
  deriving DecidableEq, Repr

/-- The cause of a switch request (section 6.1). -/
inductive SwitchCause
  | first | challenge | urgent | pin
  deriving DecidableEq, Repr

/-- How a cut was made (R102). -/
inductive CutKind
  | clean | forced | immediate
  deriving DecidableEq, Repr

/-- Why a candidate is in quarantine (R34 field 17). -/
inductive QuarantineReason
  | flap | directory | manual
  deriving DecidableEq, Repr

/-- The last outcome of a Sweep List entry (R117 field 8). -/
inductive VisitOutcome
  | notVisited | graded | noAck | noLock | aborted
  deriving DecidableEq, Repr

/-- Why a posted change failed (section 10.9, notice 12). -/
inductive FailReason
  | noOwner | listFull | laneConflict | mapFull | outputConflict | notEmpty | stateMismatch
  deriving DecidableEq, Repr

/-- How a tap ended (R156). -/
inductive TapEnd
  | complete | stopped
  deriving DecidableEq, Repr

/-- The interval clock of R60: the interval number in progress and the ms since that interval began. -/
structure IntervalStamp where
  number : BitVec 32
  time : Nat
  deriving DecidableEq, Repr

/-- A notice: its kind and the fields of that kind (section 10.9). A service is followed by its broadcast
service number. -/
inductive Notice
  | switched (service broadcast : Nat) (old : Option Nat) (new : Nat) (kind : CutKind) (cause : SwitchCause)
  | switchAbandoned (service broadcast target attempts : Nat)
  | dark (service broadcast : Nat)
  | restored (service broadcast : Nat)
  | quarantined (candidate : Nat) (reason : QuarantineReason)
  | quarantineEnded (candidate : Nat)
  | advisory (service broadcast candidate entry grade : Nat) (best : Option Nat)
  | portOutage (port : Nat)
  | portRestored (port length : Nat)
  | visitFailed (entry port : Nat) (outcome : VisitOutcome)
  | discovery (count : Nat)
  | changeFailed (tag : BitVec 16) (table index : Nat) (reason : FailReason)
  | tapEnded (made skipped : Nat) (how : TapEnd)
  | saveDone (ok : Bool) (generation : BitVec 32)
  | fault (kind : Nat)
  deriving DecidableEq, Repr

/-- A fault as its finder records it: the kind and the details the kind carries (R174). -/
inductive FaultReport
  | tunerLink (port entry : Nat)
  | changeFailed (tag : BitVec 16) (table index : Nat)
  | switchAbandoned (service candidate : Nat)
  | outputOverrun (service : Nat)
  | commandOverflow
  | noticeOverflow
  | storeInvalid
  | storeWrite
  deriving DecidableEq, Repr

/-- The margin readings of a port (section 1.6). Margin seen is "lowest is present". -/
structure MarginReadings where
  lowest : Option Int
  corrected : Nat
  uncorrected : Nat
  belowFull : Bool
  deriving DecidableEq, Repr

/-- The readings after clearing (section 1.6). -/
def MarginReadings.cleared : MarginReadings := ⟨none, 0, 0, false⟩

/-- The dwell-end arrival of R72: the entry, the sweep port and the moment of expiry, with the interval number in
progress at dwell expiry (R69 field 15) and the margin inputs of the sweep port as they stand then (R66; log 16). -/
structure DwellEnd where
  entry : Nat
  port : Nat
  moment : Nat
  interval : BitVec 32
  readings : MarginReadings
  marginLane : Bool
  deriving DecidableEq, Repr

/-- What the Classifier hands the Quality Monitor for a hit (R27). -/
structure Measured where
  candidate : Nat
  slot : Nat
  cls : PacketClass
  gap : Nat
  start : Bool
  time : Nat
  deriving DecidableEq, Repr

/-- A command record that has passed its CRC and code checks: tag, origin level and body octets (section 10.9). -/
structure Cmd where
  tag : BitVec 16
  level : Nat
  body : List Byte
  deriving DecidableEq, Repr

/-- A command record as it stands in a command packet: its code, whether check 1 of R160 holds of it, and the rest. -/
structure CommandRecord where
  code : Byte
  checkGood : Bool
  cmd : Cmd
  deriving DecidableEq, Repr

/-- The commands of the part, one for each row of spec/opcode_table.json, in its order. `time` is the reading of
the millisecond time base at which an event of a link takes place (log 2). `run` says whether a table write comes
as LOAD RUN (true) or WRITE ENTRY (false). -/
inductive Instr
  | powerOn
  | resetLine
  | restartTakesEffect (time : Nat)
  | syncSearchOctet (port : Nat) (octet : Byte) (time : Nat)
  | confirmBoundaryOctet (port : Nat) (octet : Byte) (time : Nat)
  | lockedBoundaryOctet (port : Nat) (octet : Byte) (time : Nat)
  | starvationTimerExpiry (port : Nat)
  | holdoverTimerExpiry (port : Nat)
  | packetAccepted (port : Nat) (packet : Packet) (time : Nat)
  | retuneRequest (port : Nat)
  | classifyPacket (port : Nat) (source : Option Nat) (time : Nat) (packet : Packet)
  | classifierLeftLocked (port : Nat)
  | directoryLeftLocked (port : Nat)
  | measurementArrival (m : Measured)
  | forwardAdmission (service slot : Nat) (advance : Bool) (packet : Packet)
  | tapOffer (port : Nat) (packet : Packet)
  | outputSlot (time : Nat)
  | replyPlacement
  | reportPlacement
  | noticePost (notice : Notice) (stamp : IntervalStamp)
  | faultRecord (fault : FaultReport)
  | gradingTimerExpiry
  | serviceGraded (service : Nat) (interval : BitVec 32)
  | surveyGraded (service entry : Nat)
  | targetGraded (service : Nat)
  | rankingOutageArrival (port : Nat)
  | switchOutageArrival (port : Nat)
  | sweepOutageArrival (port : Nat)
  | rankingRestorationArrival (port : Nat)
  | switchRestorationArrival (port : Nat)
  | darkArrival (service : Nat)
  | directoryQuarantineRequest (candidate : Nat)
  | switchRequest (service target : Nat) (cause : SwitchCause)
  | pinnedWithoutSelection (service : Nat)
  | waitTimerExpiry (service : Nat)
  | leftArmedArrival (service : Nat)
  | applyChange
  | controlPacket (packet : Packet)
  | identify (c : Cmd)
  | readEntry (c : Cmd)
  | writeEntry (c : Cmd)
  | loadRun (c : Cmd)
  | settingsWrite (run : Bool) (c : Cmd)
  | portWrite (run : Bool) (c : Cmd)
  | weightWrite (run : Bool) (c : Cmd)
  | sweepWrite (run : Bool) (c : Cmd)
  | serviceWrite (run : Bool) (c : Cmd)
  | candidateWrite (run : Bool) (c : Cmd)
  | countersWrite (run : Bool) (c : Cmd)
  | probeAccess (c : Cmd)
  | closeInterval (c : Cmd)
  | pin (c : Cmd)
  | releasePin (c : Cmd)
  | quarantine (c : Cmd)
  | liftQuarantine (c : Cmd)
  | sweepHold (c : Cmd)
  | sweepResume (c : Cmd)
  | visitNow (c : Cmd)
  | takeDiscoveries (c : Cmd)
  | clearDiscoveries (c : Cmd)
  | readFaults (c : Cmd)
  | clearFaults (c : Cmd)
  | startTap (c : Cmd)
  | extendTap (c : Cmd)
  | stopTap (c : Cmd)
  | saveSettings (c : Cmd)
  | saveWriteDone (good : Bool) (time : Nat)
  | softRestart (c : Cmd)
  | hardRestart (c : Cmd)
  | tunerAttemptDone (port : Nat) (acknowledged : Bool) (time : Nat)
  | attemptLimitExpiry (port : Nat)
  | retryGapExpiry (port : Nat)
  | sweepMarginArrival (port lock : Nat)
  | settleTimerExpiry (port : Nat)
  | dwellTimerExpiry (port : Nat)
  | surveyGrading (d : DwellEnd)
  | surveyGradingComplete (port : Nat)
  | directoryPacket (port source : Nat) (packet : Packet)
  | lossOfPower
  | startCompletion
  | commissionLineChange (asserted : Bool) (time : Nat)
  | unknownCommand (r : CommandRecord)
  deriving DecidableEq, Repr

end Sys2Proof
end

