-- ==== Sys2Proof/Decode.lean ====
section
/-! DEFINITION. The command a word spells. The opcode table gives no row bits: the rows are events and command records,
so no word spells one. -/

namespace Sys2Proof

/-- The command that a word spells by the table's bits: none, since every row's "fields" is empty. -/
def decodeTableWord (nbits w : Nat) : Option Instr :=
  match nbits, w with
  | _, _ => none

end Sys2Proof
end

