-- ==== Sys2Proof/Machine/Table.lean ====
section
/-! DEFINITION. A table of the part as plain data: the list of (index, record) pairs that differ from the table's
default record, with rising indices. -/

namespace Sys2Proof.Machine

/-- A table: only the entries that differ from their default are listed. -/
abbrev Table (α : Type) := List (Nat × α)

namespace Table

variable {α : Type}

/-- Entry `k`, where `d` gives the default record of each index. -/
def get (d : Nat → α) : Table α → Nat → α
  | [], k => d k
  | (j, v) :: t, k => if j = k then v else get d t k

/-- The table without an entry for `k`. -/
def erase (t : Table α) (k : Nat) : Table α := t.filter fun e => e.1 != k

/-- The table with an entry put in its place by index. -/
def insert (k : Nat) (v : α) : Table α → Table α
  | [] => [(k, v)]
  | (j, w) :: t => if j < k then (j, w) :: insert k v t else (k, v) :: (j, w) :: t

/-- Entry `k` becomes `v`; a default record is not listed. -/
def set [DecidableEq α] (d : Nat → α) (t : Table α) (k : Nat) (v : α) : Table α :=
  if v = d k then erase t k else insert k v (erase t k)

/-- Every listed entry passed through `f`; entries that become default leave the list. `d` is the default of the
resulting table. -/
def remap {β : Type} [DecidableEq β] (d : Nat → β) (f : Nat → α → β) (t : Table α) : Table β :=
  t.filterMap fun e => if f e.1 e.2 = d e.1 then none else some (e.1, f e.1 e.2)

/-- The listed indices, lowest first. -/
def keys (t : Table α) : List Nat := t.map Prod.fst

/-- The canonical form: rising indices and no default record listed. -/
abbrev wf [DecidableEq α] (d : Nat → α) (t : Table α) : Prop :=
  (t.map Prod.fst).Pairwise (· < ·) ∧ ∀ e ∈ t, e.2 ≠ d e.1

end Table

end Sys2Proof.Machine
end

