-- ==== Sys2Proof/Machine/Types.lean ====
section
/-! DEFINITION. The records that the state of the part is made of. A timer is the time at which it expires, or none
when it does not run. -/

namespace Sys2Proof.Machine

/-- Whether the part is without power, between the taking of a start and its completion, or running (R157, R170). -/
inductive Phase
  | off | starting | running
  deriving DecidableEq, Repr

/-! ### Ports (01) -/

inductive PortState
  | disabled | seeking | confirming | locked | holdover
  deriving DecidableEq, Repr

/-- PORT fields 1 to 5 (section 1.2). -/
structure PortConfig where
  enable : Bool
  marginLane : Option Nat
  holdover : Nat
  dirCheck : Bool
  tunerAddr : Nat
  deriving DecidableEq, Repr

/-- COUNTERS fields 1 to 8 of a port (R15). -/
structure PortCounters where
  accepted : Nat
  syncLosses : Nat
  blips : Nat
  outages : Nat
  unclaimed : Nat
  badMargin : Nat
  crcFailures : Nat
  discards : Nat
  deriving DecidableEq, Repr

/-- A PORT write held behind a visit: its fields, and the tag of the write that supplied the margin lane (R3). -/
structure HeldPortWrite where
  fields : List (Nat × Nat)
  marginTag : Option (BitVec 16)
  deriving DecidableEq, Repr

structure Port where
  cfg : PortConfig
  state : PortState
  /-- Good sync octets of the confirmation in progress; 0 when none is (R5, R8). -/
  confirm : Nat
  badSync : Nat
  starvation : Option Nat
  holdoverTimer : Option Nat
  outage : Bool
  lossStart : Option Nat
  readings : MarginReadings
  lastMarginSeq : Option Nat
  counters : PortCounters
  held : Option HeldPortWrite
  /-- The Sweep List entry whose source a sweep port gives (R1). -/
  given : Option Nat
  deriving DecidableEq, Repr

/-! ### The Lane Map (02) -/

structure LaneEntry where
  source : Nat
  lane : Nat
  candidate : Nat
  slot : Nat
  lastSeq : Option Nat
  deriving DecidableEq, Repr

/-! ### Services and candidates (03 to 06) -/

inductive ServiceState
  | unused | defined | active
  deriving DecidableEq, Repr

inductive SwitchPolicy
  | clean | cleanOrForce | immediate
  deriving DecidableEq, Repr

/-- SERVICE fields 1 to 10 (R31). -/
structure ServiceConfig where
  state : ServiceState
  base : Nat
  policy : SwitchPolicy
  hysteresis : Nat
  confirm : Nat
  minGrade : Nat
  cleanWait : Nat
  retryLimit : Nat
  guardLevel : Nat
  broadcast : Nat
  deriving DecidableEq, Repr

/-- A switch in progress: present exactly while the switch state is ARMED (R97). -/
structure Armed where
  target : Nat
  cause : SwitchCause
  timer : Nat
  deriving DecidableEq, Repr

structure Service where
  cfg : ServiceConfig
  rank : List Nat
  challenger : Option Nat
  streak : Nat
  dark : Bool
  /-- The advisory candidate; the advisory flag is set exactly when it is present (R131). -/
  advisory : Option Nat
  selected : Option Nat
  pinned : Option Nat
  armed : Option Armed
  attempts : Nat
  switches : Nat
  forcedCuts : Nat
  abandoned : Nat
  forwardDrops : Nat
  /-- The output sequence counters of the 8 slots (R148). -/
  slotCounters : List (BitVec 4)
  deriving DecidableEq, Repr

/-- The states a posted change can give (R34). A QUARANTINED candidate is one with a quarantine record; its
return state is the state held here. -/
inductive CandidateState
  | free | ready | survey | barred
  deriving DecidableEq, Repr

/-- CANDIDATE fields 1 to 14 (R34). -/
structure CandidateConfig where
  state : CandidateState
  owner : Option Nat
  source : Option Nat
  lanes : List Nat
  expected : Option Nat
  weightSet : Nat
  deriving DecidableEq, Repr

structure QuarantineRecord where
  reason : QuarantineReason
  remaining : Nat
  deriving DecidableEq, Repr

inductive DirectoryStatus
  | unchecked | confirmed | missing
  deriving DecidableEq, Repr

/-- The measurement record (R55). -/
structure Measurement where
  packets : Nat
  damaged : Nat
  gaps : Nat
  duplicates : Nat
  silence : Nat
  lastReference : Nat
  deriving DecidableEq, Repr

/-- The grade record (R69); `survey` holds the survey age and the sweep entry of a survey grade. -/
structure GradeRecord where
  grade : Nat
  silent : Bool
  unlocked : Bool
  marginAbsent : Bool
  damagePenalty : Nat
  gapPenalty : Nat
  marginPenalty : Nat
  uncorrectedPenalty : Nat
  correctedPenalty : Nat
  packets : Nat
  damaged : Nat
  gaps : Nat
  silence : Nat
  duplicates : Nat
  interval : BitVec 32
  weightSet : Nat
  survey : Option (Nat × Nat)
  deriving DecidableEq, Repr

structure Candidate where
  cfg : CandidateConfig
  flaps : Nat
  decay : Nat
  demoted : Bool
  quarantine : Option QuarantineRecord
  directory : DirectoryStatus
  misses : Nat
  measured : Measurement
  grade : Option GradeRecord
  /-- The discard mark of R73, by the dwells it stands for, of port 12 and of port 13; it is gone when it stands for none. -/
  discard12 : Bool
  discard13 : Bool
  deriving DecidableEq, Repr

/-- A posted change (R35). `service` is true for the SERVICE table and false for the CANDIDATE table. -/
structure Change where
  tag : BitVec 16
  level : Nat
  service : Bool
  index : Nat
  fields : List (Nat × Nat)
  deriving DecidableEq, Repr

/-! ### Weights (04) -/

structure WeightSet where
  damage : Nat
  gap : Nat
  floor : Int
  margin : Nat
  absent : Nat
  uncorrected : Nat
  corrected : Nat
  silenceLimit : Nat
  deriving DecidableEq, Repr

/-! ### The sweep (07) -/

inductive EntryState
  | unused | enabled | disabled
  deriving DecidableEq, Repr

inductive Affinity
  | any | sp0 | sp1
  deriving DecidableEq, Repr

/-- SWEEP fields 1 to 6 (R117). -/
structure SweepConfig where
  state : EntryState
  frequency : Nat
  profile : Nat
  affinity : Affinity
  dwell : Nat
  settle : Nat
  deriving DecidableEq, Repr

structure SweepEntry where
  cfg : SweepConfig
  lastVisit : Option (BitVec 32)
  lastOutcome : VisitOutcome
  held : Option (List (Nat × Nat))
  deriving DecidableEq, Repr

/-- Where a tuner transaction stands: an attempt on the link, with the octets it writes and its 2 ms limit, or the
10 ms gap before the next attempt (R123). -/
inductive TunerStep
  | attempt (octets : List Byte) (limit : Nat)
  | gap (timer : Nat)
  deriving DecidableEq, Repr

/-- The phase of a visit (section 7.4). `grading` is DWELLING after dwell expiry, with the survey grading in hand (R126). -/
inductive VisitPhase
  | tuning (attempt : Nat) (step : TunerStep)
  | settling (timer : Nat)
  | dwelling (timer : Nat)
  | grading
  deriving DecidableEq, Repr

structure Visit where
  entry : Nat
  fromQueue : Bool
  phase : VisitPhase
  deriving DecidableEq, Repr

/-- A sweep port machine: IDLE exactly when it has no visit (section 7.4). -/
structure SweepPort where
  visit : Option Visit
  cursor : Nat
  held : Bool
  deriving DecidableEq, Repr

/-! ### Directory Watch (08) -/

/-- The section in hand: none, the octets received so far, or a section passed over with the octets still to
come (R134, R137). -/
inductive SectionInHand
  | none
  | receiving (octets : List Byte)
  | passingOver (left : Nat)
  deriving DecidableEq, Repr

/-- What identifies a set: stream identifier, version, last section number (R134). -/
structure SetIdentity where
  stream : Nat
  version : Nat
  last : Nat
  deriving DecidableEq, Repr

/-- The set in progress: its identity once its first section is taken, and the sections held (R134). -/
structure SetInProgress where
  identity : Option SetIdentity
  held : List (Nat × List (Nat × Nat))
  deriving DecidableEq, Repr

/-- An assembly context: IDLE exactly when it has no source (R134). -/
structure DirContext where
  source : Option Nat
  lastSeq : Option Nat
  section_ : SectionInHand
  set : SetInProgress
  deriving DecidableEq, Repr

structure Snapshot where
  stream : Nat
  version : Nat
  offered : Nat
  entries : List (Nat × Nat)
  interval : BitVec 32
  completions : BitVec 32
  deriving DecidableEq, Repr

structure Discovery where
  source : Nat
  number : Nat
  mapLane : Nat
  firstSeen : BitVec 32
  lastSeen : BitVec 32
  times : Nat
  deriving DecidableEq, Repr

/-! ### Output (09) -/

inductive InsertKind
  | reply
  /-- The reply to HARD RESTART or SOFT RESTART, whose sending is the restart (R170, R171). -/
  | restartReply
  | report
  | tap
  deriving DecidableEq, Repr

structure Insert where
  packet : Packet
  kind : InsertKind
  age : Nat
  deriving DecidableEq, Repr

/-- The Probe Tap (R153); `lane` is none for ALL. -/
structure Tap where
  running : Bool
  port : Nat
  lane : Option Nat
  stop : Nat
  made : Nat
  skipped : Nat
  deriving DecidableEq, Repr

/-! ### Management (10) -/

/-- SETTINGS fields 1 to 12 (R166). -/
structure Settings where
  controlLane : Nat
  reportLane : Nat
  tapLane : Nat
  gradingInterval : Nat
  urgentWait : Nat
  flapLimit : Nat
  flapDecay : Nat
  quarantineDuration : Nat
  stalenessLimit : Nat
  advisoryMargin : Nat
  correctedCounting : Bool
  noticeEnable : BitVec 32
  deriving DecidableEq, Repr

/-- What the Settings Store image holds of a service (R168). -/
structure ServiceSaved where
  cfg : ServiceConfig
  pinned : Option Nat
  deriving DecidableEq, Repr

/-- The Settings Store image (R168). -/
structure Image where
  generation : BitVec 32
  settings : Settings
  ports : Table PortConfig
  weights : Table WeightSet
  sweep : Table SweepConfig
  services : Table ServiceSaved
  candidates : Table CandidateConfig
  deriving DecidableEq, Repr

/-- The Settings Store: the image, its CRC-32, and whether its last write ended with a successful read-back (R168,
R169). Whether the image is valid is computed from the three (`Store.valid`). -/
structure Store where
  readBack : Bool
  image : Image
  crc : BitVec 32
  deriving DecidableEq, Repr

/-- The refusal reasons of R160; `none` in a reply that refuses nothing. -/
inductive Reason
  | none | badCheck | unknown | badLength | level | range | state | busy | full
  deriving DecidableEq, Repr

inductive ReplyOutcome
  | done | accepted | refused
  deriving DecidableEq, Repr

/-- A reply record (R162). -/
structure Reply where
  tag : BitVec 16
  code : Byte
  outcome : ReplyOutcome
  reason : Reason
  body : List Byte
  deriving DecidableEq, Repr

inductive RestartKind
  | hard | soft
  deriving DecidableEq, Repr

/-! ### Notices and faults (11) -/

structure NoticeRecord where
  notice : Notice
  stamp : IntervalStamp
  deriving DecidableEq, Repr

structure FaultEntry where
  fault : FaultReport
  interval : BitVec 32
  deriving DecidableEq, Repr

/-- The Fault Record; `entry` is none when it has never been filled since the start (R174, R175). -/
structure FaultRecord where
  locked : Bool
  lost : Bool
  entry : Option FaultEntry
  deriving DecidableEq, Repr

end Sys2Proof.Machine
end

