-- ==== Sys2Proof/Machine/Defaults.lean ====
section
/-! DEFINITION. Default records, the records that a start leaves, and the null packet. -/

namespace Sys2Proof.Machine

/-- The defaults of section 1.2. -/
def PortConfig.default (p : Nat) : PortConfig where
  enable := true
  marginLane := if p < 14 then some 8190 else none
  holdover := 150
  dirCheck := p < 14
  tunerAddr := if p = 12 then 0x60 else if p = 13 then 0x61 else 0

def PortCounters.zero : PortCounters := ⟨0, 0, 0, 0, 0, 0, 0, 0⟩

/-- A port with the given configuration as a start leaves it (R16). -/
def Port.started (cfg : PortConfig) : Port where
  cfg := cfg
  state := if cfg.enable then .seeking else .disabled
  confirm := 0
  badSync := 0
  starvation := none
  holdoverTimer := none
  outage := false
  lossStart := none
  readings := .cleared
  lastMarginSeq := none
  counters := .zero
  held := none
  given := none

def Port.default (p : Nat) : Port := Port.started (PortConfig.default p)

/-- The defaults of R31. -/
def ServiceConfig.default (k : Nat) : ServiceConfig where
  state := .unused
  base := 32 + 8 * k
  policy := .cleanOrForce
  hysteresis := 50
  confirm := 3
  minGrade := 300
  cleanWait := 400
  retryLimit := 3
  guardLevel := 1
  broadcast := 0

/-- A service with the given configuration, rank order and pin as a start leaves it (R53, R96, R116). -/
def Service.started (cfg : ServiceConfig) (rank : List Nat) (pinned : Option Nat) : Service where
  cfg := cfg
  rank := rank
  challenger := none
  streak := 0
  dark := false
  advisory := none
  selected := none
  pinned := pinned
  armed := none
  attempts := 0
  switches := 0
  forcedCuts := 0
  abandoned := 0
  forwardDrops := 0
  slotCounters := List.replicate 8 0

def Service.default (k : Nat) : Service := Service.started (ServiceConfig.default k) [] none

/-- The FREE values of R34. -/
def CandidateConfig.free : CandidateConfig := ⟨.free, none, none, [], none, 0⟩

/-- A record opened at time `t` (R55). -/
def Measurement.opened (t : Nat) : Measurement := ⟨0, 0, 0, 0, 0, t⟩

/-- A candidate with the given configuration and a record opened at `t`, as a start or a joining leaves it (R45, R53). -/
def Candidate.fresh (cfg : CandidateConfig) (t : Nat) : Candidate where
  cfg := cfg
  flaps := 0
  decay := 0
  demoted := false
  quarantine := none
  directory := .unchecked
  misses := 0
  measured := .opened t
  grade := none
  discard12 := false
  discard13 := false

def Candidate.default (_ : Nat) : Candidate := Candidate.fresh CandidateConfig.free 0

/-- The defaults of R64. -/
def WeightSet.default (_ : Nat) : WeightSet := ⟨16, 20, 100, 4, 200, 8, 1, 300⟩

/-- The defaults of R117. -/
def SweepConfig.default (_ : Nat) : SweepConfig := ⟨.unused, 40000, 0, .any, 2000, 800⟩

def SweepEntry.started (cfg : SweepConfig) : SweepEntry := ⟨cfg, none, .notVisited, none⟩

def SweepEntry.default (e : Nat) : SweepEntry := SweepEntry.started (SweepConfig.default e)

def SweepPort.default (_ : Nat) : SweepPort := ⟨none, 0, false⟩

def SetInProgress.none : SetInProgress := ⟨.none, []⟩

/-- A context COLLECTING for `x` and empty, or IDLE (R134). -/
def DirContext.empty (x : Option Nat) : DirContext := ⟨x, none, .none, .none⟩

def DirContext.default (p : Nat) : DirContext :=
  DirContext.empty (if p < 12 then some p else none)

def Tap.started : Tap := ⟨false, 0, none, 1, 0, 0⟩

/-- The defaults of R166. -/
def Settings.default : Settings :=
  ⟨8160, 8161, 8162, 1000, 60, 4, 60, 300, 900, 100, false, 0x0000FFFE⟩

def ServiceSaved.default (k : Nat) : ServiceSaved := ⟨ServiceConfig.default k, none⟩

/-- Every table at its defaults: what a start from an invalid image loads (R170). -/
def Image.defaults : Image := ⟨0, Settings.default, [], [], [], [], []⟩

/-- The null packet of R152: lane 8191, payload only, counter 0, 184 octets of 0xFF. -/
def nullPacket : Packet := [0x47, 0xFF, 0xF8, 0x04] ++ List.replicate 184 0xFF

end Sys2Proof.Machine
end

