-- ==== Sys2Proof/Machine/State.lean ====
section
/-! DEFINITION. The state of the part: every register, table, queue, timer and line the spec names, as plain data,
the state right after reset, and the two kinds of stop. -/

namespace Sys2Proof.Machine


/-- Why the model stops. Each is raised by a command that names what the part does not have; the part itself never
stops (log 7). All are safe. -/
inductive Fault
  /-- A row that acts on a port was given a port above 14 (00 section 5 numbers ports 0 to 14). Safe. -/
  | noSuchPort
  /-- A row of the Sweep Controller or RETUNE_REQUEST was given a port other than 12 and 13. Safe. -/
  | noSuchSweepPort
  /-- A row that acts on a service was given a service above 511. Safe. -/
  | noSuchService
  /-- A row that acts on a candidate was given a candidate above 2,047. Safe. -/
  | noSuchCandidate
  /-- SURVEY_GRADED or SURVEY_GRADING was given a Sweep List entry above 63. Safe. -/
  | noSuchSweepEntry
  /-- MEASUREMENT_ARRIVAL or FORWARD_ADMISSION was given a component slot above 7 (00 section 5). Safe. -/
  | noSuchSlot
  /-- A row that carries a packet was given a row of octets that is not 188 octets long. Safe. -/
  | notAPacket
  deriving DecidableEq, Repr

/-- Why the model gives a command no meaning. -/
inductive Refusal
  /-- Raised by an arm of exec for a row of the opcode table that has no meaning yet. Safe. -/
  | notModelled (mnemonic : String)
  deriving DecidableEq, Repr

/-! ### The whole part -/

structure State where
  /-- Commands waiting, first in first out: the model's own queue. -/
  pending : List Instr
  /-- Arrivals, requests, notices and faults sent by one block and not yet taken by another (log 4). -/
  inFlight : List Instr
  now : Nat
  phase : Phase
  commission : Bool
  outputLink : Packet
  ports : Table Port
  laneMap : Table (Option LaneEntry)
  services : Table Service
  candidates : Table Candidate
  changes : List Change
  headHeld : Bool
  weights : Table WeightSet
  intervalNumber : BitVec 32
  intervalStart : Nat
  intervalLength : Nat
  gradingTimer : Option Nat
  sweepList : Table SweepEntry
  visitQueue : List Nat
  sweepPorts : Table SweepPort
  contexts : Table DirContext
  snapshots : Table (Option Snapshot)
  discoveries : List Discovery
  discoveryOverflow : Nat
  forwardQueue : List Packet
  insertQueue : List Insert
  reportCounter : BitVec 4
  tapCounter : BitVec 4
  tap : Tap
  settings : Settings
  generation : BitVec 32
  store : Store
  save : Option Image
  commandQueue : List CommandRecord
  replyInHand : Option Reply
  restart : Option RestartKind
  malformedControl : Nat
  commandOverflow : Nat
  noticeQueue : List NoticeRecord
  noticeLoss : Nat
  faultSummary : BitVec 8
  faultRecord : FaultRecord
  deriving DecidableEq, Repr

/-- The part right after reset: a start from an invalid Settings Store image that has completed at time 0
(R16, R30, R53, R77, R96, R116, R133, R145, R157, R158, R170, R177; log 1, log 22). -/
def State.reset : State where
  pending := []
  inFlight := []
  now := 0
  phase := .running
  commission := false
  outputLink := nullPacket
  ports := []
  laneMap := []
  services := []
  candidates := []
  changes := []
  headHeld := false
  weights := []
  intervalNumber := 0
  intervalStart := 0
  intervalLength := 1000
  gradingTimer := some 1000
  sweepList := []
  visitQueue := []
  sweepPorts := []
  contexts := []
  snapshots := []
  discoveries := []
  discoveryOverflow := 0
  forwardQueue := []
  insertQueue := []
  reportCounter := 0
  tapCounter := 0
  tap := Tap.started
  settings := Settings.default
  generation := 0
  store := ⟨false, Image.defaults, 0⟩
  save := none
  commandQueue := []
  replyInHand := none
  restart := none
  malformedControl := 0
  commandOverflow := 0
  noticeQueue := [⟨.fault 6, ⟨0, 0⟩⟩]
  noticeLoss := 0
  faultSummary := 0x40
  faultRecord := ⟨true, false, some ⟨.storeInvalid, 0⟩⟩

end Sys2Proof.Machine
end

