-- ==== Sys2Proof/Machine/Ops.lean ====
section
/-! DEFINITION. The named operations every family of commands is written with: the records of the tables, the arrivals
in flight, the clocks, the judgement of eligibility, and the shape of a step. -/

namespace Sys2Proof.Machine

/-- What a command answers. -/
abbrev Answer := Host.Outcome State Fault Refusal

/-! ### The records of the tables -/

namespace State

def port (s : State) (p : Nat) : Port := Table.get Port.default s.ports p
def lanePlace (s : State) (i : Nat) : Option LaneEntry := Table.get (fun _ => none) s.laneMap i
def service (s : State) (k : Nat) : Service := Table.get Service.default s.services k
def candidate (s : State) (c : Nat) : Candidate := Table.get Candidate.default s.candidates c
def weightSet (s : State) (w : Nat) : WeightSet := Table.get WeightSet.default s.weights w
def sweepEntry (s : State) (e : Nat) : SweepEntry := Table.get SweepEntry.default s.sweepList e
def sweepPort (s : State) (p : Nat) : SweepPort := Table.get SweepPort.default s.sweepPorts p
def dirContext (s : State) (p : Nat) : DirContext := Table.get DirContext.default s.contexts p
def snapshot (s : State) (x : Nat) : Option Snapshot := Table.get (fun _ => none) s.snapshots x

def setPort (s : State) (p : Nat) (v : Port) : State := { s with ports := Table.set Port.default s.ports p v }
def setLanePlace (s : State) (i : Nat) (v : Option LaneEntry) : State :=
  { s with laneMap := Table.set (fun _ => none) s.laneMap i v }
def setService (s : State) (k : Nat) (v : Service) : State :=
  { s with services := Table.set Service.default s.services k v }
def setCandidate (s : State) (c : Nat) (v : Candidate) : State :=
  { s with candidates := Table.set Candidate.default s.candidates c v }
def setWeightSet (s : State) (w : Nat) (v : WeightSet) : State :=
  { s with weights := Table.set WeightSet.default s.weights w v }
def setSweepEntry (s : State) (e : Nat) (v : SweepEntry) : State :=
  { s with sweepList := Table.set SweepEntry.default s.sweepList e v }
def setSweepPort (s : State) (p : Nat) (v : SweepPort) : State :=
  { s with sweepPorts := Table.set SweepPort.default s.sweepPorts p v }
def setDirContext (s : State) (p : Nat) (v : DirContext) : State :=
  { s with contexts := Table.set DirContext.default s.contexts p v }
def setSnapshot (s : State) (x : Nat) (v : Option Snapshot) : State :=
  { s with snapshots := Table.set (fun _ => none) s.snapshots x v }

/-- The services that are not at their default, lowest first. Every service that is DEFINED or ACTIVE is one. -/
def serviceIndices (s : State) : List Nat := Table.keys s.services

/-- The candidates that are not at their default, lowest first. Every candidate that is not FREE is one. -/
def candidateIndices (s : State) : List Nat := Table.keys s.candidates

/-! ### Arrivals, notices and faults in flight -/

/-- Arrivals leave for the blocks that take them, in the order given (00 section 3, log 4). -/
def send (s : State) (l : List Instr) : State := { s with inFlight := s.inFlight ++ l }

/-- An arrival is taken: it is no longer in flight. -/
def take (s : State) (i : Instr) : State := { s with inFlight := s.inFlight.erase i }

/-- The interval clock of R60. The time stays below the interval's length (log 26). -/
def clock (s : State) : IntervalStamp := ⟨s.intervalNumber, min (s.now - s.intervalStart) (s.intervalLength - 1)⟩

/-- A notice is posted, stamped with the interval clock at this moment (R60, R172). -/
def post (s : State) (n : Notice) : State := s.send [.noticePost n s.clock]

/-- A fault is sent to the Report Unit (R174). -/
def raise (s : State) (f : FaultReport) : State := s.send [.faultRecord f]

/-! ### Time -/

/-- The time base stands at `t` or later (log 2). -/
def atTime (s : State) (t : Nat) : State := { s with now := max s.now t }

/-! ### Sources, visits and eligibility -/

/-- The source a port gives its packets (R1). -/
def sourceOfPort (s : State) (p : Nat) : Option Nat :=
  if p = 12 ∨ p = 13 then (s.port p).given.map (64 + ·) else some p

/-- The ports a margin lane of source `x` is read on: the feed port, or either sweep port for a sweep source. -/
def portsOfSource (x : Nat) : List Nat := if 64 ≤ x then [12, 13] else if x < 12 then [x] else []

/-- The entry a sweep port has under visit. -/
def visiting (s : State) (p : Nat) : Option Nat := (s.sweepPort p).visit.map Visit.entry

/-- Whether an entry is under visit on either sweep port (R117). -/
def underVisit (s : State) (e : Nat) : Bool := s.visiting 12 == some e || s.visiting 13 == some e

/-- Whether sweep port `p` has source `x` in DWELLING (R49, R73). -/
def dwellsOn (s : State) (p x : Nat) : Bool :=
  match (s.sweepPort p).visit with
  | some ⟨e, _, .dwelling _⟩ => x == 64 + e
  | some ⟨e, _, .grading⟩ => x == 64 + e
  | _ => false

/-- The outage flag of a candidate's port, the port of its source number (R75). -/
def inOutage (s : State) (c : Nat) : Bool :=
  match (s.candidate c).cfg.source with
  | some x => (s.port x).outage
  | none => false

/-- State READY, and so not QUARANTINED (R34). -/
def isReady (s : State) (c : Nat) : Bool :=
  (s.candidate c).cfg.state == .ready && (s.candidate c).quarantine.isNone

/-- The minimum grade of a candidate's owner service. -/
def minimumGrade (s : State) (c : Nat) : Nat :=
  match (s.candidate c).cfg.owner with
  | some k => (s.service k).cfg.minGrade
  | none => 0

/-- The grade, 0 when absent; used only of candidates whose grade is present. -/
def gradeOf (s : State) (c : Nat) : Nat :=
  match (s.candidate c).grade with
  | some g => g.grade
  | none => 0

/-- Tests 2 and 3 of R75: the grade record is present, its grade reaches the minimum grade, and neither SILENT nor
UNLOCKED is set. -/
def gradePasses (s : State) (c : Nat) : Bool :=
  match (s.candidate c).grade with
  | some g => decide (s.minimumGrade c ≤ g.grade) && !g.silent && !g.unlocked
  | none => false

/-- Eligibility (R75). -/
def eligible (s : State) (c : Nat) : Bool := s.isReady c && s.gradePasses c && !s.inOutage c

/-- The first eligible member of a rank order, other than those excluded. -/
def firstEligible (s : State) (order except : List Nat) : Option Nat :=
  order.find? fun c => s.eligible c && !except.contains c

/-- The test of PIN and of an armed PIN switch: a member of the rank order, READY, its port not in outage (R107, R111). -/
def pinFit (s : State) (k c : Nat) : Bool :=
  (s.service k).rank.contains c && s.isReady c && !s.inOutage c

end State

/-! ### The shape of a step -/

/-- A step of the running part. An event of a part that is not running changes nothing (R157, R170, log 5). -/
def whenRunning (s : State) (f : State → State) : Answer :=
  .next (if s.phase = .running then f s else s)

/-- A row that acts on a port. -/
def onPort (p : Nat) (a : Answer) : Answer := if p < 15 then a else .fault .noSuchPort

/-- A row that acts on a sweep port. -/
def onSweepPort (p : Nat) (a : Answer) : Answer := if p = 12 ∨ p = 13 then a else .fault .noSuchSweepPort

/-- A row that acts on a service. -/
def onService (k : Nat) (a : Answer) : Answer := if k < 512 then a else .fault .noSuchService

/-- A row that acts on a candidate. -/
def onCandidate (c : Nat) (a : Answer) : Answer := if c < 2048 then a else .fault .noSuchCandidate

/-- A row that acts on a Sweep List entry. -/
def onEntry (e : Nat) (a : Answer) : Answer := if e < 64 then a else .fault .noSuchSweepEntry

/-- A row that names a component slot. -/
def onSlot (k : Nat) (a : Answer) : Answer := if k < 8 then a else .fault .noSuchSlot

/-- A row that carries a packet. -/
def onPacket (p : Packet) (a : Answer) : Answer := if p.length = 188 then a else .fault .notAPacket

end Sys2Proof.Machine
end

