-- ==== Sys2Proof/Config.lean ====
section
/-! DEFINITION. What the spec leaves open as a value: constants with no body, so that no proof can see them. -/

namespace Sys2Proof

/-- The major revision number that IDENTIFY returns. R167 gives no value (log 8). -/
opaque Config.revisionMajor : Byte

/-- The minor revision number that IDENTIFY returns. R167 gives no value (log 8). -/
opaque Config.revisionMinor : Byte

/-- Octet `i` of a margin packet's layout when the payload of the packet ends before it. Section 10.9 lays
out 9 octets and no rule says what is read beyond a shorter payload (log 9). -/
opaque Config.absentOctet : Nat → Byte

/-- The settings generation that follows 2^32−1. R169 says it rises by 1, R166 that it is at most 2^32−1 (log 10). -/
opaque Config.generationAfterLast : BitVec 32

end Sys2Proof
end

