-- ==== Sys2Proof/Machine/Wire.lean ====
section
/-! DEFINITION. The wire formats of section 10.9: packet headers, margin packets, command records, replies, notice
records and report packets, with the two CRCs. -/

namespace Sys2Proof.Machine

/-! ### Octets and numbers -/

/-- Octet `i` of a row, as a number. -/
def octetAt (l : List Byte) (i : Nat) : Nat := (l.getD i 0).toNat

/-- One octet, two octets, four octets: most significant octet first (section 10.9). -/
def be8 (n : Nat) : List Byte := [BitVec.ofNat 8 n]
def be16 (n : Nat) : List Byte := [BitVec.ofNat 8 (n / 256), BitVec.ofNat 8 n]
def be32 (n : Nat) : List Byte :=
  [BitVec.ofNat 8 (n / 16777216), BitVec.ofNat 8 (n / 65536), BitVec.ofNat 8 (n / 256), BitVec.ofNat 8 n]

/-- An optional field of one or two octets: absent is 0xFF or 0xFFFF (section 10.9). -/
def opt8 (o : Option Nat) : List Byte := be8 (o.getD 0xFF)
def opt16 (o : Option Nat) : List Byte := be16 (o.getD 0xFFFF)

/-- A flag as an octet. -/
def flag8 (b : Bool) : List Byte := be8 b.toNat

/-- The number carried by the `n` octets from `i`, most significant first. -/
def beAt (l : List Byte) (i n : Nat) : Nat := ((l.drop i).take n).foldl (fun a b => a * 256 + b.toNat) 0

/-- Two's complement of width `w` read as a signed number. -/
def signedOf (w n : Nat) : Int := (BitVec.ofNat w n).toInt

/-- A signed number as a 32-bit value in two's complement. -/
def unsigned32 (i : Int) : Nat := (BitVec.ofInt 32 i).toNat

/-- An optional number as a 32-bit table value. -/
def val32 (o : Option Nat) : Nat := o.getD absent32

/-! ### The packet header -/

/-- The lane: bits 12 to 5 in octet 1, bits 4 to 0 in octet 2. -/
def laneOf (p : Packet) : Nat := octetAt p 1 * 32 + octetAt p 2 / 8

def isDamaged (p : Packet) : Bool := (p.getD 2 0).getLsbD 2
def isStart (p : Packet) : Bool := (p.getD 2 0).getLsbD 1
def seqOf (p : Packet) : Nat := octetAt p 3 / 16
def adaptationOf (p : Packet) : Nat := octetAt p 3 / 4 % 4

/-- The adaptation field's length, the number of octets that follow it in the field. -/
def adaptationLength (p : Packet) : Nat := octetAt p 4

/-- "The adaptation control says no payload" (R25, section 10.9). -/
def saysNoPayload (p : Packet) : Bool :=
  adaptationOf p == 0 || adaptationOf p == 2 || (adaptationOf p == 3 && decide (188 ≤ 5 + adaptationLength p))

/-- The discontinuity flag, read only when an adaptation field of at least one octet is present (R25). -/
def isDiscontinuous (p : Packet) : Bool :=
  (adaptationOf p == 2 || adaptationOf p == 3) && decide (1 ≤ adaptationLength p) && (p.getD 5 0).getLsbD 7

/-- The payload octets. -/
def payloadOf (p : Packet) : List Byte :=
  if saysNoPayload p then [] else if adaptationOf p = 1 then p.drop 4 else p.drop (5 + adaptationLength p)

/-- The packet with another lane; the other bits of octet 2 stay. -/
def setLane (lane : Nat) (p : Packet) : Packet :=
  (p.set 1 (BitVec.ofNat 8 (lane / 32))).set 2
    (BitVec.ofNat 8 (lane % 32) <<< 3 ||| (p.getD 2 0 &&& 0x07))

/-- The packet with another sequence counter; the other bits of octet 3 stay. -/
def setSeq (n : BitVec 4) (p : Packet) : Packet :=
  p.set 3 (n.zeroExtend 8 <<< 4 ||| (p.getD 3 0 &&& 0x0F))

/-- A packet made by the part for the report lane: start flag set, adaptation control 01, octets beyond the record
0xFF (R151, section 10.9). The damage flag, the priority bit and the scramble control are sent 0 (log 34). -/
def insertPacket (lane : Nat) (n : BitVec 4) (record : List Byte) : Packet :=
  setSeq n (setLane lane ([0x47, 0, 0x02, 0x04] ++ record ++ List.replicate (184 - record.length) 0xFF))

/-! ### CRCs -/

/-- `n` shifts of a CRC of width `w` with polynomial `poly`, without reflection. -/
def crcShift {w : Nat} (poly : BitVec w) : Nat → BitVec w → BitVec w
  | 0, c => c
  | n + 1, c => crcShift poly n (if c.msb then (c <<< 1) ^^^ poly else c <<< 1)

/-- A CRC carried over octets, from the register's value before them. The register goes on as a number at each octet, so
that the kernel evaluates it there and not as one deep term at the end. -/
def crcOver {w : Nat} (poly : BitVec w) : List Byte → BitVec w → BitVec w
  | [], c => c
  | b :: l, c =>
    match (crcShift poly 8 (c ^^^ (b.zeroExtend w).shiftLeft (w - 8))).toNat with
    | 0 => crcOver poly l 0
    | n + 1 => crcOver poly l (BitVec.ofNat w (n + 1))

/-- The CRC-16 of command, reply and report records: polynomial 0x1021, initial value 0xFFFF. -/
def crc16 (l : List Byte) : BitVec 16 := crcOver 0x1021 l 0xFFFF

/-- The CRC-32 of directory sections: polynomial 0x04C11DB7, initial value all ones (R138). -/
def crc32 (l : List Byte) : BitVec 32 := crcOver 0x04C11DB7 l 0xFFFFFFFF

/-- A record closed by its CRC-16. -/
def sealed16 (l : List Byte) : List Byte := l ++ be16 (crc16 l).toNat

/-! ### Margin packets -/

/-- The fields of a margin packet payload. -/
structure MarginFields where
  tag : Nat
  lock : Nat
  margin : Int
  corrected : Nat
  uncorrected : Nat
  seq : Nat
  deriving DecidableEq, Repr

/-- The 9 octets of the margin layout; octets beyond a shorter payload are free values (log 9). -/
def marginFields (p : Packet) : MarginFields :=
  let o := fun i => ((payloadOf p).getD i (Config.absentOctet i)).toNat
  { tag := o 0, lock := o 1, margin := signedOf 16 (o 2 * 256 + o 3), corrected := o 4 * 256 + o 5,
    uncorrected := o 6 * 256 + o 7, seq := o 8 }

/-! ### Command records -/

/-- The command record in the payload of a command packet. A body length above 176 leaves the CRC without a place,
so check 1 fails and no body is read (R160). -/
def commandRecord (p : Packet) : CommandRecord :=
  let l := payloadOf p
  let b := octetAt l 4
  let good := decide (b ≤ 176) && decide ((crc16 (l.take (5 + b))).toNat = beAt l (5 + b) 2)
  { code := l.getD 0 0, checkGood := good,
    cmd := { tag := BitVec.ofNat 16 (beAt l 2 2), level := octetAt l 1,
             body := if b ≤ 176 then (l.drop 5).take b else [] } }

/-! ### Codes -/

def entryStateCode : EntryState → Nat
  | .unused => 0 | .enabled => 1 | .disabled => 2

def affinityCode : Affinity → Nat
  | .any => 0 | .sp0 => 1 | .sp1 => 2

def serviceStateCode : ServiceState → Nat
  | .unused => 0 | .defined => 1 | .active => 2

def policyCode : SwitchPolicy → Nat
  | .clean => 0 | .cleanOrForce => 1 | .immediate => 2

def candidateStateCode : CandidateState → Nat
  | .free => 0 | .ready => 1 | .survey => 2 | .barred => 4

def causeCode : SwitchCause → Nat
  | .first => 0 | .challenge => 1 | .urgent => 2 | .pin => 3

def cutCode : CutKind → Nat
  | .clean => 0 | .forced => 1 | .immediate => 2

def quarantineCode : QuarantineReason → Nat
  | .flap => 0 | .directory => 1 | .manual => 2

def outcomeCode : VisitOutcome → Nat
  | .notVisited => 0 | .graded => 1 | .noAck => 2 | .noLock => 3 | .aborted => 4

def failCode : FailReason → Nat
  | .noOwner => 1 | .listFull => 2 | .laneConflict => 3 | .mapFull => 4 | .outputConflict => 5 | .notEmpty => 6
  | .stateMismatch => 7

def tapEndCode : TapEnd → Nat
  | .complete => 0 | .stopped => 1

def reasonCode : Reason → Nat
  | .none => 0 | .badCheck => 1 | .unknown => 2 | .badLength => 3 | .level => 4 | .range => 5 | .state => 6
  | .busy => 7 | .full => 8

def replyCode : ReplyOutcome → Nat
  | .done => 0 | .accepted => 1 | .refused => 2

/-- Fault kinds, coded 0 to 7 (R174). -/
def faultCode : FaultReport → Nat
  | .tunerLink _ _ => 0 | .changeFailed _ _ _ => 1 | .switchAbandoned _ _ => 2 | .outputOverrun _ => 3
  | .commandOverflow => 4 | .noticeOverflow => 5 | .storeInvalid => 6 | .storeWrite => 7

/-- Notice kinds, coded 1 to 15 (section 11.1). -/
def noticeCode : Notice → Nat
  | .switched .. => 1 | .switchAbandoned .. => 2 | .dark .. => 3 | .restored .. => 4 | .quarantined .. => 5
  | .quarantineEnded .. => 6 | .advisory .. => 7 | .portOutage .. => 8 | .portRestored .. => 9 | .visitFailed .. => 10
  | .discovery .. => 11 | .changeFailed .. => 12 | .tapEnded .. => 13 | .saveDone .. => 14 | .fault .. => 15

/-! ### Records sent -/

/-- The fields of a notice, in the order of section 10.9. -/
def noticeFields : Notice → List Byte
  | .switched k b old new kind cause =>
      be16 k ++ be16 b ++ opt16 old ++ be16 new ++ be8 (cutCode kind) ++ be8 (causeCode cause)
  | .switchAbandoned k b t n => be16 k ++ be16 b ++ be16 t ++ be8 n
  | .dark k b => be16 k ++ be16 b
  | .restored k b => be16 k ++ be16 b
  | .quarantined c r => be16 c ++ be8 (quarantineCode r)
  | .quarantineEnded c => be16 c
  | .advisory k b c e g best => be16 k ++ be16 b ++ be16 c ++ be8 e ++ be16 g ++ opt16 best
  | .portOutage p => be8 p
  | .portRestored p n => be8 p ++ be32 n
  | .visitFailed e p o => be8 e ++ be8 p ++ be8 (outcomeCode o)
  | .discovery n => be8 n
  | .changeFailed tag t i r => be16 tag.toNat ++ be8 t ++ be16 i ++ be8 (failCode r)
  | .tapEnded m n how => be16 m ++ be16 n ++ be8 (tapEndCode how)
  | .saveDone ok g => be8 (if ok then 0 else 1) ++ be32 g.toNat
  | .fault k => be8 k

/-- A notice record of 22 octets; octets the kind does not use are 0xFF (section 10.9, log 29). -/
def noticeOctets (r : NoticeRecord) : List Byte :=
  let l := be8 (noticeCode r.notice) ++ be32 r.stamp.number.toNat ++ be16 r.stamp.time ++ noticeFields r.notice
  l ++ List.replicate (22 - l.length) 0xFF

/-- A report record of 1 to 8 notice records (section 10.9). -/
def reportOctets (l : List NoticeRecord) : List Byte :=
  sealed16 (be8 0x02 ++ be8 l.length ++ l.flatMap noticeOctets)

/-- A reply record (section 10.9). -/
def replyOctets (r : Reply) : List Byte :=
  sealed16 (be8 0x01 ++ be16 r.tag.toNat ++ [r.code] ++ be8 (replyCode r.outcome) ++ be8 (reasonCode r.reason) ++
    be8 r.body.length ++ r.body)

end Sys2Proof.Machine
end

