-- ==== Sys2Proof/Machine/Ports.lean ====
section
/-! DEFINITION. The Port Acquisition Units (01): sync, blips and outages, accepted packets, margin readings, and the
applied PORT write. -/

namespace Sys2Proof.Machine

/-- A counter of a port rises by 1, stopping at 2^32−1 (R15). -/
def bump (n : Nat) : Nat := satAdd top32 n 1

/-- Whether a port is one of the two sweep ports. -/
def isSweepPort (p : Nat) : Bool := p == 12 || p == 13

/-! ### Restart and loss of sync -/

/-- The left-LOCKED arrival, to the Classifier and to Directory Watch (R6). -/
def sendLeftLocked (p : Nat) (s : State) : State := s.send [.classifierLeftLocked p, .directoryLeftLocked p]

/-- A port's fields after a restart (R4). The loss start time is kept only for an outage in force (log 27). -/
def Port.restarted (v : Port) : Port :=
  { v with
    state := if v.cfg.enable then .seeking else .disabled
    confirm := 0, badSync := 0, starvation := none, holdoverTimer := none
    lossStart := if v.outage then v.lossStart else none
    readings := .cleared, lastMarginSeq := none }

/-- Whether a port is LOCKED or in HOLDOVER, the two states whose leaving by a restart sends left-LOCKED (R4). -/
def Port.tracksSync (v : Port) : Bool := v.state == .locked || v.state == .holdover

/-- A restart (R4). -/
def restartPort (p : Nat) (s : State) : State :=
  let t := s.setPort p (s.port p).restarted
  if (s.port p).tracksSync then sendLeftLocked p t else t

/-- The loss becomes an outage (R9, R11): SEEKING, the flag set, and the arrivals of a feed port or of a sweep port. -/
def declareOutage (p : Nat) (s : State) : State :=
  let v := s.port p
  let t := s.setPort p
    { v with state := .seeking, confirm := 0, starvation := none, holdoverTimer := none, outage := true,
             counters := { v.counters with outages := bump v.counters.outages } }
  if isSweepPort p then t.send [.sweepOutageArrival p]
  else (t.send [.rankingOutageArrival p, .switchOutageArrival p]).post (.portOutage p)

/-- A loss of sync in LOCKED (R6). -/
def loseSync (p : Nat) (s : State) : State :=
  let v := s.port p
  let lost : Port :=
    { v with confirm := 0, badSync := 0, starvation := none, lossStart := some s.now,
             counters := { v.counters with syncLosses := bump v.counters.syncLosses } }
  if v.cfg.holdover = 0 then declareOutage p (sendLeftLocked p (s.setPort p lost))
  else sendLeftLocked p
    (s.setPort p { lost with state := .holdover, holdoverTimer := some (s.now + v.cfg.holdover) })

/-- The length of the outage that ends now, saturating at 2^32−1 (R10). -/
def outageLength (v : Port) (now : Nat) : Nat := min (now - v.lossStart.getD now) top32

/-- A port enters LOCKED; an outage in force ends (R5, R10, R11). R5 does not say whether the starvation timer is restarted
at the third good sync octet; that it is, as at every boundary examined in LOCKED (R6), is the model's choice (log 38). -/
def enterLocked (p : Nat) (s : State) : State :=
  let v := s.port p
  let t := s.setPort p
    { v with state := .locked, confirm := 0, badSync := 0, starvation := some (s.now + 10), holdoverTimer := none,
             outage := false, lossStart := none }
  if v.outage && !isSweepPort p then
    (t.send [.rankingRestorationArrival p, .switchRestorationArrival p]).post
      (.portRestored p (outageLength v s.now))
  else t

/-! ### Octets at boundaries -/

/-- Whether the port is searching every octet: SEEKING, or hunting in HOLDOVER without a confirmation (R5, R8). -/
def Port.searching (v : Port) : Bool := v.state == .seeking || (v.state == .holdover && v.confirm == 0)

/-- Whether a confirmation is in progress (R5, R8). -/
def Port.confirming (v : Port) : Bool := v.state == .confirming || (v.state == .holdover && v.confirm != 0)

/-- An octet of the search (R5, R8). -/
def searchOctet (p : Nat) (octet : Byte) (s : State) : State :=
  let v := s.port p
  if v.searching && octet == 0x47 then
    s.setPort p { v with state := if v.state = .seeking then .confirming else v.state, confirm := 1,
                         starvation := some (s.now + 10) }
  else s

/-- A confirmation ends without lock: back to searching (R5, R8). -/
def dropConfirmation (p : Nat) (s : State) : State :=
  let v := s.port p
  s.setPort p { v with state := if v.state = .confirming then .seeking else v.state, confirm := 0, starvation := none }

/-- A blip is counted when the hunt of HOLDOVER completes (R8). -/
def countBlip (p : Nat) (s : State) : State :=
  let v := s.port p
  if v.state = .holdover then s.setPort p { v with counters := { v.counters with blips := bump v.counters.blips } }
  else s

/-- The octet at the expected boundary of a confirmation (R5, R8). -/
def confirmOctet (p : Nat) (octet : Byte) (s : State) : State :=
  let v := s.port p
  if !v.confirming then s
  else if octet ≠ 0x47 then dropConfirmation p s
  else if v.confirm = 1 then s.setPort p { v with confirm := 2, starvation := some (s.now + 10) }
  else enterLocked p (countBlip p s)

/-- The octet at a packet boundary in LOCKED (R6). -/
def lockedOctet (p : Nat) (octet : Byte) (s : State) : State :=
  let v := s.port p
  if v.state ≠ .locked then s
  else if octet = 0x47 then s.setPort p { v with badSync := 0, starvation := some (s.now + 10) }
  else if v.badSync + 1 < 3 then
    s.setPort p { v with badSync := v.badSync + 1, starvation := some (s.now + 10) }
  else loseSync p s

/-- The starvation timer expires (R5, R6, R8). A stopped timer does not expire. -/
def starve (p : Nat) (s : State) : State :=
  match (s.port p).starvation with
  | none => s
  | some d =>
    let t := s.atTime d
    if (s.port p).state = .locked then loseSync p t else dropConfirmation p t

/-- The holdover timer expires (R9). A stopped timer does not expire. -/
def holdoverExpires (p : Nat) (s : State) : State :=
  match (s.port p).holdoverTimer with
  | none => s
  | some d => declareOutage p (s.atTime d)

/-! ### Margin packets (section 1.5) -/

/-- The readings after a valid margin packet (R13). -/
def updateReadings (r : MarginReadings) (f : MarginFields) : MarginReadings where
  lowest := some (match r.lowest with | none => f.margin | some m => min m f.margin)
  corrected := satAdd top32 r.corrected f.corrected
  uncorrected := satAdd top32 r.uncorrected f.uncorrected
  belowFull := r.belowFull || decide (f.lock < 2)

/-- A packet accepted on the margin lane (R12). -/
def readMargin (p : Nat) (packet : Packet) (s : State) : State :=
  let v := s.port p
  let f := marginFields packet
  if isDamaged packet || saysNoPayload packet then s
  else if f.tag ≠ 0xA5 ∨ 2 < f.lock then
    s.setPort p { v with counters := { v.counters with badMargin := bump v.counters.badMargin } }
  else if v.lastMarginSeq = some f.seq then s
  else
    let t := s.setPort p { v with lastMarginSeq := some f.seq, readings := updateReadings v.readings f }
    if isSweepPort p then t.send [.sweepMarginArrival p f.lock] else t

/-! ### Accepted packets (R7) -/

/-- The port counts the packet as accepted. -/
def countAccepted (p : Nat) (s : State) : State :=
  let v := s.port p
  s.setPort p { v with counters := { v.counters with accepted := bump v.counters.accepted } }

/-- The packet is offered to the tap if a tap is running on this port (R7 step 2, R154). -/
def offerToTap (p : Nat) (packet : Packet) (s : State) : State :=
  if s.tap.running && s.tap.port == p then s.send [.tapOffer p packet] else s

/-- A whole packet received in LOCKED that began at a good sync octet (R7). A null packet is discarded. -/
def acceptPacket (p : Nat) (packet : Packet) (s : State) : State :=
  if (s.port p).state = .locked ∧ (s.port p).badSync = 0 ∧ laneOf packet ≠ 8191 then
    let t := offerToTap p packet (countAccepted p s)
    if (s.port p).cfg.marginLane = some (laneOf packet) then readMargin p packet t
    else t.send [.classifyPacket p (s.sourceOfPort p) s.now packet]
  else s

/-- The retune request: a restart that also clears the outage flag and forgets the loss start time (R11). -/
def retunePort (p : Nat) (s : State) : State :=
  let t := restartPort p s
  t.setPort p { t.port p with outage := false, lossStart := none }

/-- The margin readings of a port are cleared (R14). -/
def clearReadings (p : Nat) (s : State) : State := s.setPort p { s.port p with readings := .cleared }

/-! ### The applied PORT write (R2, R3) -/

/-- One field of a PORT write, written into the configuration (section 1.2). -/
def PortConfig.write (c : PortConfig) (fv : Nat × Nat) : PortConfig :=
  match fv.1 with
  | 1 => { c with enable := fv.2 == 1 }
  | 2 => { c with marginLane := if fv.2 = absent32 then none else some fv.2 }
  | 3 => { c with holdover := fv.2 }
  | 4 => { c with dirCheck := fv.2 == 1 }
  | 5 => { c with tunerAddr := fv.2 }
  | _ => c

/-- The directory context of a feed port follows its directory check (R134). -/
def followDirCheck (p : Nat) (before after : Bool) (s : State) : State :=
  if p < 12 ∧ before ≠ after then s.setDirContext p (DirContext.empty (if after then some p else none)) else s

/-- A PORT write is applied: the fields take their values; a changed enable or margin lane restarts the port (R2). -/
def applyPortWrite (p : Nat) (fields : List (Nat × Nat)) (s : State) : State :=
  let old := (s.port p).cfg
  let new := fields.foldl PortConfig.write old
  let t := s.setPort p { s.port p with cfg := new }
  let t := if new.enable ≠ old.enable ∨ new.marginLane ≠ old.marginLane then restartPort p t else t
  followDirCheck p old.dirCheck new.dirCheck t

/-- Whether a Lane Map entry stands on a lane of a source. -/
def mapHolds (s : State) (source lane : Nat) : Bool :=
  s.laneMap.any fun e => e.2.any fun v => v.source == source && v.lane == lane

/-- Whether a margin lane meets a Lane Map entry of the port's own source; for a sweep port, of any sweep source (R2). -/
def marginConflict (s : State) (p : Nat) (lane : Nat) : Bool :=
  s.laneMap.any fun e => e.2.any fun v =>
    v.lane == lane && (if isSweepPort p then decide (64 ≤ v.source) else v.source == p)

/-- The margin lane a field selection gives, if it gives one. -/
def selectedMargin (fields : List (Nat × Nat)) : Option Nat :=
  (fields.find? fun fv => fv.1 == 2).bind fun fv => if fv.2 = absent32 then none else some fv.2

/-- A write merged into a held one: each field it selects replaces the held value (R3). -/
def mergeFields (held new : List (Nat × Nat)) : List (Nat × Nat) :=
  held.filter (fun fv => !(new.map Prod.fst).contains fv.1) ++ new

/-- A PORT write is held behind the visit in progress (R3). -/
def holdPortWrite (p : Nat) (tag : BitVec 16) (fields : List (Nat × Nat)) (s : State) : State :=
  let v := s.port p
  let givesMargin := fields.any fun fv => fv.1 == 2
  let h : HeldPortWrite :=
    match v.held with
    | none => ⟨fields, if givesMargin then some tag else none⟩
    | some h => ⟨mergeFields h.fields fields, if givesMargin then some tag else h.marginTag⟩
  s.setPort p { v with held := some h }

/-- The held PORT write is applied at the end of the visit; a margin lane that now conflicts is left out, with fault
and notice CHANGE FAILED (R3). Table PORT has code 1 (R163). -/
def applyHeldPortWrite (p : Nat) (s : State) : State :=
  match (s.port p).held with
  | none => s
  | some h =>
    let t := s.setPort p { s.port p with held := none }
    match selectedMargin h.fields with
    | none => applyPortWrite p h.fields t
    | some lane =>
      if marginConflict s p lane then
        let tag := h.marginTag.getD 0
        ((applyPortWrite p (h.fields.filter fun fv => fv.1 != 2) t).raise (.changeFailed tag 1 p)).post
          (.changeFailed tag 1 p .laneConflict)
      else applyPortWrite p h.fields t

/-! ### The meanings -/

/-- SYNC_SEARCH_OCTET (R5, R8). -/
def execSyncSearchOctet (p : Nat) (octet : Byte) (time : Nat) (s : State) : Answer :=
  onPort p (whenRunning s fun s => searchOctet p octet (s.atTime time))

/-- CONFIRM_BOUNDARY_OCTET (R5, R8, R10). -/
def execConfirmBoundaryOctet (p : Nat) (octet : Byte) (time : Nat) (s : State) : Answer :=
  onPort p (whenRunning s fun s => confirmOctet p octet (s.atTime time))

/-- LOCKED_BOUNDARY_OCTET (R6). -/
def execLockedBoundaryOctet (p : Nat) (octet : Byte) (time : Nat) (s : State) : Answer :=
  onPort p (whenRunning s fun s => lockedOctet p octet (s.atTime time))

/-- STARVATION_TIMER_EXPIRY (R5, R6, R8). -/
def execStarvationTimerExpiry (p : Nat) (s : State) : Answer := onPort p (whenRunning s (starve p))

/-- HOLDOVER_TIMER_EXPIRY (R9, R11). -/
def execHoldoverTimerExpiry (p : Nat) (s : State) : Answer := onPort p (whenRunning s (holdoverExpires p))

/-- PACKET_ACCEPTED (R7, R12, R13). -/
def execPacketAccepted (p : Nat) (packet : Packet) (time : Nat) (s : State) : Answer :=
  onPort p (onPacket packet (whenRunning s fun s => acceptPacket p packet (s.atTime time)))

/-- RETUNE_REQUEST (R4, R11). -/
def execRetuneRequest (p : Nat) (s : State) : Answer :=
  onSweepPort p (whenRunning s fun s => retunePort p (s.take (.retuneRequest p)))

end Sys2Proof.Machine
end

