-- ==== Sys2Proof/Machine/Directory.lean ====
section
/-! DEFINITION. Directory Watch (08): the assembly of sections, the set in progress, snapshots, candidate checks and
the Discovery Log. -/

namespace Sys2Proof.Machine

/-! ### From packets to sections (R135 to R137) -/

/-- What the reading of payload octets brings about, in order: a discard of the section in hand, a section dropped
for its length together with the set in progress, a section received whole. -/
inductive DirItem
  | discard
  | badLength
  | complete (octets : List Byte)
  deriving DecidableEq, Repr

/-- The section length in bits 9 to 0 of octets 1 and 2 (section 10.9). -/
def sectionLength (l : List Byte) : Nat := beAt l 1 2 % 1024

/-- What an octet added to a section being received leads to (R137). -/
inductive OctetResult
  | more
  | skip (left : Nat)
  | bad
  | done
  deriving DecidableEq, Repr

/-- The section octets after one more, judged: at three octets the tag and length decide; later the section is
complete when its length plus 3 octets are held (R136, R137). -/
def judgeOctets (l : List Byte) : OctetResult :=
  let n := sectionLength l
  if l.length < 3 then .more
  else if l.length = 3 then
    if octetAt l 0 ≠ 0 then .skip n
    else if n < 9 ∨ 1021 < n ∨ (n - 9) % 4 ≠ 0 then .bad
    else .more
  else if l.length < n + 3 then .more
  else .done

/-- What is in hand after a section ended, before the octets `rest`: another section begins there unless the octet
is 0xFF, where the packet lets sections follow one another (R136). -/
def nextSection (chain : Bool) (rest : List Byte) : SectionInHand :=
  match rest with
  | [] => .none
  | o :: _ => if chain && o != 0xFF then .receiving [] else .none

/-- The payload octets taken one by one into the section in hand (R136, R137). `chain` says whether another section
may begin where one ends; before a pointer's target none may (log 36). -/
def feed (chain : Bool) : SectionInHand → List Byte → SectionInHand × List DirItem
  | h, [] => (h, [])
  | .none, _ :: _ => (.none, [])
  | .passingOver n, _ :: rest =>
    if n ≤ 1 then feed chain (nextSection chain rest) rest else feed chain (.passingOver (n - 1)) rest
  | .receiving l, o :: rest =>
    let l' := l ++ [o]
    match judgeOctets l' with
    | .more => feed chain (.receiving l') rest
    | .skip n =>
      if n = 0 then feed chain (nextSection chain rest) rest else feed chain (.passingOver n) rest
    | .bad => (.none, [.badLength])
    | .done =>
      let r := feed chain (nextSection chain rest) rest
      (r.1, .complete l' :: r.2)

/-- Dropping what is in hand counts a discard when a section was in hand; a section passed over is not counted
(R137 "no count", log 14). -/
def dropItems : SectionInHand → List DirItem
  | .receiving _ => [.discard]
  | .none | .passingOver _ => []

/-- The reading of the payload of one packet whose octets are used (R136). Two points that R136 leaves open are the
model's choice: octets left before the pointer's target, after the section in hand has completed there, are passed over
(log 36), and a start packet whose adaptation field leaves no pointer octet changes nothing of the section in hand
(log 37). -/
def readPayload (h : SectionInHand) (start : Bool) (payload : List Byte) : SectionInHand × List DirItem :=
  if !start then feed true h payload
  else match payload with
    | [] => (h, [])
    | pointer :: rest =>
      if rest.length ≤ pointer.toNat then (.none, dropItems h)
      else
        let before := feed false h (rest.take pointer.toNat)
        let after := feed true (.receiving []) (rest.drop pointer.toNat)
        (after.1, before.2 ++ dropItems before.1 ++ after.2)

/-- The sequence check of R135: whether the section in hand is dropped, the counter after, whether the octets are used. -/
def checkSequence (last : Option Nat) (p : Packet) : Bool × Option Nat × Bool :=
  let n := seqOf p
  if saysNoPayload p then (false, last, false)
  else if isDiscontinuous p then (true, some n, true)
  else match last with
    | none => (false, some n, true)
    | some l =>
      if n = l then (false, some l, false)
      else if n = (l + 1) % 16 then (false, some n, true)
      else (true, some n, true)

/-! ### Counters -/

def countDiscard (p : Nat) (s : State) : State :=
  let v := s.port p
  s.setPort p { v with counters := { v.counters with discards := bump v.counters.discards } }

def countCrcFailure (p : Nat) (s : State) : State :=
  let v := s.port p
  s.setPort p { v with counters := { v.counters with crcFailures := bump v.counters.crcFailures } }

/-! ### A complete directory (R139 to R142) -/

/-- The entries offered: those of the held sections, in section order (R140). -/
def offeredEntries (i : SetIdentity) (held : List (Nat × List (Nat × Nat))) : List (Nat × Nat) :=
  (List.range (i.last + 1)).flatMap fun n =>
    match held.find? fun h => h.1 == n with
    | some h => h.2
    | none => []

/-- The snapshot of a source is replaced (R140). -/
def replaceSnapshot (x : Nat) (i : SetIdentity) (entries : List (Nat × Nat)) (s : State) : State :=
  let count : BitVec 32 := match s.snapshot x with | none => 0 | some w => w.completions
  s.setSnapshot x (some ⟨i.stream, i.version, entries.length, entries.take 64, s.intervalNumber, count + 1⟩)

/-- Whether the checks of R141 cover a candidate, and its expected number. -/
def expectedFrom (x : Nat) (v : Candidate) : Option Nat :=
  if v.cfg.state ≠ .free ∧ v.cfg.source = some x then v.cfg.expected else none

/-- The check of one candidate against the entries offered (R141). -/
def checkedCandidate (x : Nat) (entries : List (Nat × Nat)) (v : Candidate) : Candidate :=
  match expectedFrom x v with
  | none => v
  | some n =>
    if entries.any fun e => e.1 == n then { v with directory := .confirmed, misses := 0 }
    else { v with directory := .missing, misses := if v.misses = 0 then 1 else 0 }

/-- Whether the check of a candidate sends a quarantine request (R141). -/
def missesTwice (x : Nat) (entries : List (Nat × Nat)) (v : Candidate) : Bool :=
  match expectedFrom x v with
  | none => false
  | some n => !(entries.any fun e => e.1 == n) && v.misses != 0

/-- The service numbers no candidate of the source expects, each with the map lane of its first entry, in section
order (R142). -/
def discoveriesIn (s : State) (x : Nat) (entries : List (Nat × Nat)) : List (Nat × Nat) :=
  (entries.foldl (fun l e => if l.any fun d => d.1 == e.1 then l else l ++ [e]) []).filter fun e =>
    !(s.candidates.any fun c => expectedFrom x c.2 == some e.1)

/-- One discovery is taken into the log by its key (R142). -/
def logDiscovery (x : Nat) (s : State) (d : Nat × Nat) : State :=
  if s.discoveries.any fun e => e.source == x && e.number == d.1 then
    { s with
      discoveries := s.discoveries.map fun e =>
        if e.source = x ∧ e.number = d.1 then
          { e with lastSeen := s.intervalNumber, mapLane := d.2, times := satAdd 255 e.times 1 }
        else e }
  else if s.discoveries.length < 128 then
    { s with discoveries := s.discoveries ++ [⟨x, d.1, d.2, s.intervalNumber, s.intervalNumber, 1⟩] }
  else { s with discoveryOverflow := satAdd top32 s.discoveryOverflow 1 }

/-- A complete directory of source `x`, taken in one step in the order of R139: snapshot, candidate checks,
discoveries, and as the last part the quarantine requests and the DISCOVERY notice. -/
def completeDirectory (x : Nat) (i : SetIdentity) (entries : List (Nat × Nat)) (s : State) : State :=
  let requests := (s.candidateIndices.filter fun c => missesTwice x entries (s.candidate c)).map
    Instr.directoryQuarantineRequest
  let s1 := replaceSnapshot x i entries s
  let s2 := { s1 with candidates := Table.remap Candidate.default (fun _ v => checkedCandidate x entries v) s1.candidates }
  let s3 := ((discoveriesIn s2 x entries).foldl (logDiscovery x) s2).send requests
  if s.discoveries.isEmpty && !s3.discoveries.isEmpty then s3.post (.discovery s3.discoveries.length) else s3

/-! ### A section received whole (R138) -/

/-- The entries of a section, 4 octets each, service number and map lane (section 10.9). -/
def sectionEntries : Nat → List Byte → List (Nat × Nat)
  | 0, _ => []
  | n + 1, l => (beAt l 0 2, beAt l 2 2 % 8192) :: sectionEntries n (l.drop 4)

/-- The set in progress of a port's context is abandoned (R137, R138). -/
def abandonSet (p : Nat) (s : State) : State := s.setDirContext p { s.dirContext p with set := .none }

/-- The sections 0 to the last section number are all held (R138). -/
def setComplete (i : SetIdentity) (held : List (Nat × List (Nat × Nat))) : Bool :=
  (List.range (i.last + 1)).all fun n => held.any fun h => h.1 == n

/-- A section is held in a set; the set that then holds every section is taken as a complete directory (R138, R139). -/
def holdSection (p : Nat) (i : SetIdentity) (n : Nat) (entries : List (Nat × Nat))
    (held : List (Nat × List (Nat × Nat))) (s : State) : State :=
  let all := held ++ [(n, entries)]
  if setComplete i all then
    match (s.dirContext p).source with
    | some x => completeDirectory x i (offeredEntries i all) (abandonSet p s)
    | none => s
  else s.setDirContext p { s.dirContext p with set := ⟨some i, all⟩ }

/-- A good section is taken by the first row of R138 that fits. -/
def takeGoodSection (p : Nat) (l : List Byte) (s : State) : State :=
  let i : SetIdentity := ⟨beAt l 3 2, octetAt l 5 % 32, octetAt l 7⟩
  let n := octetAt l 6
  let entries := sectionEntries ((sectionLength l - 9) / 4) (l.drop 8)
  let set := (s.dirContext p).set
  if octetAt l 5 < 128 then s
  else if 3 < i.last ∨ i.last < n then countDiscard p (abandonSet p s)
  else match set.identity with
    | none => holdSection p i n entries set.held s
    | some j =>
      if j ≠ i then
        holdSection p i n entries [] (if set.held.isEmpty then s else countDiscard p s)
      else if set.held.any fun h => h.1 == n then s
      else holdSection p i n entries set.held s

/-- What each item of the reading brings about (R136 to R138). -/
def takeItem (p : Nat) (s : State) (item : DirItem) : State :=
  match item with
  | .discard => countDiscard p s
  | .badLength => countDiscard p (abandonSet p s)
  | .complete l => if crc32 l = 0 then takeGoodSection p l s else countCrcFailure p s

/-! ### Arrivals -/

/-- A lane-0 packet taken by a COLLECTING context (R135, R136). An IDLE context discards it (R134), and so does one
that collects for another source (log 15). -/
def directoryPacket (p source : Nat) (packet : Packet) (s : State) : State :=
  let c := s.dirContext p
  if c.source ≠ some source then s
  else
    let q := checkSequence c.lastSeq packet
    let dropped := if q.1 then dropItems c.section_ else []
    let hand := if q.1 then SectionInHand.none else c.section_
    let r := if q.2.2 then readPayload hand (isStart packet) (payloadOf packet) else (hand, [])
    (dropped ++ r.2).foldl (takeItem p) (s.setDirContext p { c with lastSeq := q.2.1, section_ := r.1 })

/-- A left-LOCKED arrival: the section in hand is dropped and the lane-0 counter set to "none"; the set in progress
is kept. An IDLE context ignores it (R134). -/
def directoryLeftLocked (p : Nat) (s : State) : State :=
  let c := s.dirContext p
  if c.source = none then s
  else (dropItems c.section_).foldl (takeItem p) (s.setDirContext p { c with lastSeq := none, section_ := .none })

/-! ### The meanings -/

/-- DIRECTORY_PACKET (R134 to R142). -/
def execDirectoryPacket (p source : Nat) (packet : Packet) (s : State) : Answer :=
  onPort p (onPacket packet (whenRunning s fun s =>
    directoryPacket p source packet (s.take (.directoryPacket p source packet))))

/-- DIRECTORY_LEFT_LOCKED (R134). -/
def execDirectoryLeftLocked (p : Nat) (s : State) : Answer :=
  onPort p (whenRunning s fun s => directoryLeftLocked p (s.take (.directoryLeftLocked p)))

end Sys2Proof.Machine
end

