-- ==== Sys2Proof/Machine/Flags.lean ====
section
/-! DEFINITION. The Report Unit (11): the Notice Queue, the Fault Summary, the Fault Record and ALERT, with the
meanings of NOTICE_POST and FAULT_RECORD. -/

namespace Sys2Proof.Machine

/-- ALERT is asserted while the Fault Summary holds at least one kind (R176). -/
def State.alert (s : State) : Bool := s.faultSummary != 0

/-- Whether the notice enable set names the kind of a notice (R172). -/
def noticeEnabled (s : State) (n : Notice) : Bool := s.settings.noticeEnable.getLsbD (noticeCode n)

/-- A notice joins the Notice Queue (R172). -/
def queueNotice (r : NoticeRecord) (s : State) : State := { s with noticeQueue := s.noticeQueue ++ [r] }

/-- A notice is dropped and counted (R172). -/
def loseNotice (s : State) : State := { s with noticeLoss := satAdd 65535 s.noticeLoss 1 }

/-- Steps 1 to 3 of R174: the kind enters the Fault Summary; the Fault Record is filled and locked, or its lost flag set. -/
def enterFault (f : FaultReport) (s : State) : State :=
  { s with
    faultSummary := s.faultSummary ||| (1 <<< faultCode f)
    faultRecord :=
      if s.faultRecord.locked then { s.faultRecord with lost := true }
      else ⟨true, false, some ⟨f, s.intervalNumber⟩⟩ }

/-- Whether a kind is in the Fault Summary. -/
def inSummary (s : State) (f : FaultReport) : Bool := s.faultSummary.getLsbD (faultCode f)

/-- The FAULT notice of NOTICE OVERFLOW newly in the Summary: queued if a place is free; dropped at a full queue
with the loss counted and no further fault (R172). -/
def overflowNotice (s : State) : State :=
  let n := Notice.fault (faultCode .noticeOverflow)
  if !noticeEnabled s n then s
  else if s.noticeQueue.length < 64 then queueNotice ⟨n, s.clock⟩ s
  else loseNotice s

/-- The recording of NOTICE OVERFLOW by a drop (R172, R174). -/
def recordOverflow (s : State) : State :=
  let new := !inSummary s .noticeOverflow
  let t := enterFault .noticeOverflow s
  if new then overflowNotice t else t

/-- The Report Unit takes a notice (R172). -/
def takeNotice (r : NoticeRecord) (s : State) : State :=
  if !noticeEnabled s r.notice then s
  else if s.noticeQueue.length < 64 then queueNotice r s
  else recordOverflow (loseNotice s)

/-- The Report Unit records a fault (R174). -/
def recordFault (f : FaultReport) (s : State) : State :=
  let new := !inSummary s f
  let t := enterFault f s
  if !new then t
  else if f = .noticeOverflow then overflowNotice t
  else takeNotice ⟨.fault (faultCode f), t.clock⟩ t

/-- NOTICE_POST: the Report Unit takes a posted notice with the stamp of its posting (R60, R172). -/
def execNoticePost (n : Notice) (stamp : IntervalStamp) (s : State) : Answer :=
  whenRunning s fun s => takeNotice ⟨n, stamp⟩ (s.take (.noticePost n stamp))

/-- FAULT_RECORD (R174). -/
def execFaultRecord (f : FaultReport) (s : State) : Answer :=
  whenRunning s fun s => recordFault f (s.take (.faultRecord f))

end Sys2Proof.Machine
end

