-- ==== Sys2Proof/Machine/Output.lean ====
section
/-! DEFINITION. The Output Composer and the Probe Tap (09): admission, placement, the arbiter, the tap. OUTPUT_SLOT's
meaning, which may restart the part, stands in Start.lean. -/

namespace Sys2Proof.Machine

/-! ### The Forward Queue (R146, R148, R149) -/

/-- The counter of a slot of a service (R148). -/
def slotCounter (v : Service) (k : Nat) : BitVec 4 := v.slotCounters.getD k 0

/-- A packet handed over by the Classifier is given its lane and counter and queued, or dropped (R146, R148, R149). -/
def admitForward (k slot : Nat) (advance : Bool) (packet : Packet) (s : State) : State :=
  let v := s.service k
  if s.forwardQueue.length < 256 then
    let n := if advance then slotCounter v slot + 1 else slotCounter v slot
    let t := s.setService k { v with slotCounters := v.slotCounters.set slot n }
    { t with forwardQueue := t.forwardQueue ++ [setSeq n (setLane (v.cfg.base + slot) packet)] }
  else
    (s.setService k { v with forwardDrops := satAdd top32 v.forwardDrops 1 }).raise (.outputOverrun k)

/-! ### The Insert Queue (R150, R151) -/

/-- The tap copies the Insert Queue holds. -/
def tapCopies (s : State) : Nat := (s.insertQueue.filter fun i => i.kind == .tap).length

/-- Free places of the Insert Queue. -/
def freeInserts (s : State) : Nat := 16 - s.insertQueue.length

/-- An insert packet of the report lane is placed with the next report lane counter (R151). -/
def placeOnReportLane (kind : InsertKind) (record : List Byte) (s : State) : State :=
  let n := s.reportCounter + 1
  { s with
    reportCounter := n
    insertQueue := s.insertQueue ++ [⟨insertPacket s.settings.reportLane n record, kind, 0⟩] }

/-- The waiting reply is placed once a place is free (R150, R159). The reply to a restart command is marked. -/
def placeReply (s : State) : State :=
  match s.replyInHand with
  | none => s
  | some r =>
    if 0 < freeInserts s then
      let kind := if s.restart.isSome then InsertKind.restartReply else .reply
      placeOnReportLane kind (replyOctets r) { s with replyInHand := none }
    else s

/-- A report packet of up to 8 oldest notices is placed, where a free place is left by a waiting reply (R150, R173). -/
def placeReport (s : State) : State :=
  let kept := if s.replyInHand.isSome then 1 else 0
  if s.noticeQueue ≠ [] ∧ kept < freeInserts s then
    placeOnReportLane .report (reportOctets (s.noticeQueue.take 8)) { s with noticeQueue := s.noticeQueue.drop 8 }
  else s

/-! ### The Probe Tap (section 9.8) -/

/-- Whether the tap copies packets of a lane (R154). -/
def Tap.covers (t : Tap) (lane : Nat) : Bool :=
  match t.lane with
  | none => true
  | some l => l == lane

/-- A copy is placed on the tap lane (R151, R154). -/
def placeCopy (packet : Packet) (s : State) : State :=
  let n := if saysNoPayload packet then s.tapCounter else s.tapCounter + 1
  { s with
    tapCounter := n
    insertQueue := s.insertQueue ++ [⟨setSeq n (setLane s.settings.tapLane packet), .tap, 0⟩]
    tap := { s.tap with made := s.tap.made + 1 } }

/-- The tap ends with a reason; its settings and counts stay (R156). -/
def endTap (how : TapEnd) (s : State) : State :=
  ({ s with tap := { s.tap with running := false } }).post (.tapEnded s.tap.made s.tap.skipped how)

/-- The running tap takes an offered packet (R154). -/
def offerTap (p : Nat) (packet : Packet) (s : State) : State :=
  if !(s.tap.running && s.tap.port == p && s.tap.covers (laneOf packet)) then s
  else if 0 < freeInserts s ∧ tapCopies s < 12 then
    let t := placeCopy packet s
    if t.tap.stop ≤ t.tap.made then endTap .complete t else t
  else { s with tap := { s.tap with skipped := satAdd 65535 s.tap.skipped 1 } }

/-! ### The arbiter (R152) -/

/-- What the arbiter chooses at a slot. -/
inductive Choice
  | insert (i : Insert) (rest : List Insert)
  | forward (p : Packet) (rest : List Packet)
  | null
  deriving DecidableEq, Repr

/-- The arbiter's choice: an aged insert, a forwarded packet, an insert, a null packet (R152). -/
def choose (s : State) : Choice :=
  match s.insertQueue, s.forwardQueue with
  | i :: rest, p :: more => if 32 ≤ i.age then .insert i rest else .forward p more
  | i :: rest, [] => .insert i rest
  | [], p :: more => .forward p more
  | [], [] => .null

/-- The inserts that remain after a slot are aged (R152). -/
def ageInserts (l : List Insert) : List Insert := l.map fun i => { i with age := i.age + 1 }

/-- One output slot of the running part (R152). -/
def sendChoice (s : State) : State :=
  match choose s with
  | .insert i rest => { s with outputLink := i.packet, insertQueue := ageInserts rest }
  | .forward p rest => { s with outputLink := p, forwardQueue := rest, insertQueue := ageInserts s.insertQueue }
  | .null => { s with outputLink := nullPacket, insertQueue := ageInserts s.insertQueue }

/-- Whether the packet the arbiter chooses is the reply to a restart command (R170, R171). -/
def choosesRestartReply (s : State) : Bool :=
  match choose s with
  | .insert i _ => i.kind == .restartReply
  | _ => false

/-! ### The meanings -/

/-- FORWARD_ADMISSION (R146, R148, R149). -/
def execForwardAdmission (k slot : Nat) (advance : Bool) (packet : Packet) (s : State) : Answer :=
  onService k (onSlot slot (onPacket packet (whenRunning s fun s =>
    admitForward k slot advance packet (s.take (.forwardAdmission k slot advance packet)))))

/-- TAP_OFFER (R151, R154, R156). -/
def execTapOffer (p : Nat) (packet : Packet) (s : State) : Answer :=
  onPort p (onPacket packet (whenRunning s fun s => offerTap p packet (s.take (.tapOffer p packet))))

/-- REPLY_PLACEMENT (R150, R151, R159). -/
def execReplyPlacement (s : State) : Answer := whenRunning s placeReply

/-- REPORT_PLACEMENT (R150, R151, R173). -/
def execReportPlacement (s : State) : Answer := whenRunning s placeReport

end Sys2Proof.Machine
end

