-- ==== Sys2Proof/Machine/Switching.lean ====
section
/-! DEFINITION. The Switch Controller (06): arming, clean points, cuts, wait expiry, cancellation and pins. -/

namespace Sys2Proof.Machine

/-- The challenger is cleared with its streak, and with them the attempt count (R84, R110). -/
def Service.clearChallenge (v : Service) : Service := { v with challenger := none, streak := 0, attempts := 0 }

/-- A service in STEADY, with pending target, arm cause and timer cleared (R97). -/
def Service.steady (v : Service) : Service := { v with armed := none }

/-- The Table Unit is told that a service has left ARMED (R97). -/
def tellLeftArmed (k : Nat) (s : State) : State := s.send [.leftArmedArrival k]

/-! ### Arming -/

/-- The length of the wait timer (R99). -/
def waitLength (s : State) (k : Nat) (cause : SwitchCause) : Nat :=
  let c := (s.service k).cfg
  match cause with
  | .first | .urgent => if c.policy = .immediate then c.cleanWait else s.settings.urgentWait
  | .challenge | .pin => c.cleanWait

/-- A switch is armed, or an armed one retargeted with a fresh wait (R99, R106). The attempt count is kept only by
an arming for a CHALLENGE. -/
def armSwitch (k target : Nat) (cause : SwitchCause) (s : State) : State :=
  let v := s.service k
  s.setService k
    { v with armed := some ⟨target, cause, s.now + waitLength s k cause⟩,
             attempts := if cause = .challenge then v.attempts else 0 }

/-- A different target: the armed switch is retargeted and the attempt count becomes 0 whatever the cause (R106, R110). -/
def retargetSwitch (k target : Nat) (cause : SwitchCause) (s : State) : State :=
  let t := armSwitch k target cause s
  t.setService k { t.service k with attempts := 0 }

/-- The same target: the cause becomes URGENT, and under a policy other than IMMEDIATE a longer wait is cut to the
urgent wait (R106). -/
def escalateSwitch (k : Nat) (a : Armed) (s : State) : State :=
  let v := s.service k
  let shorten := v.cfg.policy ≠ .immediate ∧ s.settings.urgentWait < a.timer - s.now
  s.setService k
    { v with armed := some { a with cause := .urgent, timer := if shorten then s.now + s.settings.urgentWait else a.timer } }

/-! ### The cut -/

/-- A cut of service `k` toward its pending target (R102). -/
def makeCut (k : Nat) (a : Armed) (kind : CutKind) (s : State) : State :=
  let v := s.service k
  let t := s.setService k
    { v.clearChallenge.steady with
      selected := some a.target
      switches := satAdd top32 v.switches 1
      forcedCuts := if kind = .forced then satAdd top32 v.forcedCuts 1 else v.forcedCuts }
  tellLeftArmed k (t.post (.switched k v.cfg.broadcast v.selected a.target kind a.cause))

/-- Whether an offered packet of the pending target makes the cut, and how (R100, R101). -/
def offerCut (policy : SwitchPolicy) (cause : SwitchCause) (slot : Nat) (cls : PacketClass) (start : Bool) : Option CutKind :=
  if policy = .immediate ∧ cause ≠ .pin then some .immediate
  else if slot = 0 ∧ start ∧ (cls = .inOrder ∨ cls = .resumed ∨ cls = .gap) then some .clean
  else none

/-- The exchange of R28: a packet of candidate `c` is offered when `c` is the pending target of its armed service. -/
def offerPacket (k c slot : Nat) (cls : PacketClass) (start : Bool) (s : State) : State :=
  match (s.service k).armed with
  | none => s
  | some a =>
    if a.target ≠ c then s
    else match offerCut (s.service k).cfg.policy a.cause slot cls start with
      | none => s
      | some kind => makeCut k a kind s

/-! ### Wait expiry -/

/-- A timed-out CLEAN challenge is retried (R104). -/
def retrySwitch (k : Nat) (s : State) : State :=
  let v := s.service k
  tellLeftArmed k (s.setService k { v.steady with attempts := v.attempts + 1 })

/-- A timed-out CLEAN challenge is abandoned (R105). -/
def abandonSwitch (k : Nat) (a : Armed) (s : State) : State :=
  let v := s.service k
  let t := s.setService k
    { v.steady with attempts := 0, streak := 0, abandoned := satAdd top32 v.abandoned 1 }
  tellLeftArmed k ((t.raise (.switchAbandoned k a.target)).post
    (.switchAbandoned k v.cfg.broadcast a.target (v.attempts + 1)))

/-- The wait of an armed switch expires (R103, R104, R105). A stopped timer does not expire. -/
def waitExpires (k : Nat) (s : State) : State :=
  match (s.service k).armed with
  | none => s
  | some a =>
    let t := s.atTime a.timer
    let v := s.service k
    if a.cause = .challenge ∧ v.cfg.policy = .clean then
      if v.attempts + 1 < v.cfg.retryLimit then retrySwitch k t else abandonSwitch k a t
    else makeCut k a .forced t

/-! ### Cancellation -/

/-- A cancellation without an URGENT search and without touching the pin (R111, R112). -/
def dropSwitch (k : Nat) (s : State) : State :=
  let v := s.service k
  tellLeftArmed k (s.setService k { v.steady with attempts := 0 })

/-- A cancellation (R109). -/
def cancelSwitch (k : Nat) (s : State) : State :=
  let v := s.service k
  match v.armed with
  | none => s
  | some a =>
    let t := s.setService k { v.steady with attempts := 0 }
    match a.cause with
    | .urgent =>
      match t.firstEligible v.rank (a.target :: v.selected.toList) with
      | some c => armSwitch k c .urgent t
      | none => tellLeftArmed k t
    | .pin => tellLeftArmed k (t.setService k { t.service k with pinned := none })
    | .first | .challenge => tellLeftArmed k t

/-! ### Requests -/

/-- Whether a request is discarded (R98). -/
def discardsRequest (s : State) (k target : Nat) (cause : SwitchCause) : Bool :=
  let v := s.service k
  v.cfg.state != .active || (v.pinned.isSome && cause != .pin) || !v.rank.contains target || !s.isReady target ||
    v.selected == some target || s.inOutage target

/-- A request that is not discarded is taken: armed in STEADY, escalated or retargeted in ARMED; a request of cause
PIN replaces the switch in progress as R111 gives (R99, R106, R111). -/
def takeRequest (k target : Nat) (cause : SwitchCause) (s : State) : State :=
  match (s.service k).armed with
  | none => armSwitch k target cause s
  | some a =>
    if cause = .pin then armSwitch k target .pin s
    else if a.target = target then escalateSwitch k a s
    else retargetSwitch k target cause s

/-- The Switch Controller takes a request (R98). -/
def switchRequest (k target : Nat) (cause : SwitchCause) (s : State) : State :=
  let v := s.service k
  if !discardsRequest s k target cause then takeRequest k target cause s
  else if cause = .urgent ∧ v.cfg.state = .active ∧ v.pinned = none then
    match s.firstEligible v.rank (target :: v.selected.toList) with
    | some c => takeRequest k c .urgent s
    | none => s
  else s

/-- The pending target is judged against the grade just recorded (R107). -/
def targetGraded (k : Nat) (s : State) : State :=
  match (s.service k).armed with
  | none => s
  | some a =>
    let fit := if a.cause = .pin then s.pinFit k a.target else s.eligible a.target
    if fit then s else cancelSwitch k s

/-- The services in ARMED whose pending target has source `p`, lowest first (R108). -/
def armedOnPort (s : State) (p : Nat) : List Nat :=
  s.serviceIndices.filter fun k =>
    match (s.service k).armed with
    | some a => (s.candidate a.target).cfg.source == some p
    | none => false

/-- An ACTIVE service that is pinned, STEADY and without a selection is taken up (R113). -/
def takeUpPinned (k : Nat) (s : State) : State :=
  let v := s.service k
  if v.cfg.state = .active ∧ v.armed = none ∧ v.selected = none then
    match v.pinned with
    | none => s
    | some c =>
      if s.pinFit k c then armSwitch k c .pin s
      else s.setService k { v with pinned := none }
  else s

/-- A PIN that has passed its checks (R111). -/
def setPin (k c : Nat) (s : State) : State :=
  let v := s.service k
  let t := s.setService k { v with pinned := some c }
  if v.cfg.state ≠ .active then t
  else if v.selected = some c then (if v.armed = none then t else dropSwitch k t)
  else armSwitch k c .pin t

/-- A pin is released by command (R112). -/
def releasePin (k : Nat) (s : State) : State :=
  let v := s.service k
  let t := s.setService k { v with pinned := none }
  match v.armed with
  | some a => if a.cause = .pin then dropSwitch k t else t
  | none => t

/-! ### The meanings -/

/-- SWITCH_REQUEST (R98, R99, R106). -/
def execSwitchRequest (k target : Nat) (cause : SwitchCause) (s : State) : Answer :=
  onService k (onCandidate target
    (whenRunning s fun s => switchRequest k target cause (s.take (.switchRequest k target cause))))

/-- TARGET_GRADED (R107, R109). -/
def execTargetGraded (k : Nat) (s : State) : Answer :=
  onService k (whenRunning s fun s => targetGraded k (s.take (.targetGraded k)))

/-- SWITCH_OUTAGE_ARRIVAL (R108). -/
def execSwitchOutageArrival (p : Nat) (s : State) : Answer :=
  onPort p (whenRunning s fun s =>
    (armedOnPort s p).foldl (fun t k => cancelSwitch k t) (s.take (.switchOutageArrival p)))

/-- SWITCH_RESTORATION_ARRIVAL: no cut is made and no switch is armed (R10). -/
def execSwitchRestorationArrival (p : Nat) (s : State) : Answer :=
  onPort p (whenRunning s fun s => s.take (.switchRestorationArrival p))

/-- PINNED_WITHOUT_SELECTION (R113). -/
def execPinnedWithoutSelection (k : Nat) (s : State) : Answer :=
  onService k (whenRunning s fun s => takeUpPinned k (s.take (.pinnedWithoutSelection k)))

/-- WAIT_TIMER_EXPIRY (R103, R104, R105). -/
def execWaitTimerExpiry (k : Nat) (s : State) : Answer := onService k (whenRunning s (waitExpires k))

end Sys2Proof.Machine
end

