-- ==== Sys2Proof/Machine/Classifier.lean ====
section
/-! DEFINITION. The Classifier (02): lookup, sequence checking, routing, and the places of the Lane Map. -/

namespace Sys2Proof.Machine

/-! ### The Lane Map (section 2.3) -/

/-- The place whose entry has the key (source, lane), with that entry. -/
def lookupLane (s : State) (source lane : Nat) : Option (Nat × LaneEntry) :=
  s.laneMap.findSome? fun e => match e.2 with
    | some v => if v.source = source ∧ v.lane = lane then some (e.1, v) else none
    | none => none

/-- The lowest free place at or above `i`, given the occupied places from there on, lowest first (R23). -/
def freePlace (i : Nat) : List Nat → Nat
  | [] => i
  | j :: l => if j = i then freePlace (i + 1) l else i

/-- One entry is added at the lowest-numbered free place (R23). -/
def addLane (s : State) (v : LaneEntry) : State := s.setLanePlace (freePlace 0 (Table.keys s.laneMap)) (some v)

/-- The entries of a candidate's lane list, in slot order, with last sequence counter "none" (R22, R24). -/
def laneEntries (c : Nat) (cfg : CandidateConfig) : List LaneEntry :=
  match cfg.source with
  | none => []
  | some x => cfg.lanes.zipIdx.map fun l => ⟨x, l.1, c, l.2, none⟩

/-- A candidate's entries are added (R23, R24). -/
def addCandidateLanes (c : Nat) (cfg : CandidateConfig) (s : State) : State := (laneEntries c cfg).foldl addLane s

/-- Whether a place holds an entry of candidate `c`. -/
def placeOf (c : Nat) (v : Option LaneEntry) : Bool := v.any fun e => e.candidate == c

/-- A candidate's entries are removed and their places freed (R24). -/
def removeCandidateLanes (c : Nat) (s : State) : State :=
  { s with laneMap := s.laneMap.filter fun e => !placeOf c e.2 }

/-- The last sequence counter of every entry of a source is set to "none" (R26). -/
def forgetSequence (x : Nat) (s : State) : State :=
  { s with
    laneMap := Table.remap (fun _ => none)
      (fun _ v => v.map fun e => if e.source = x then { e with lastSeq := none } else e) s.laneMap }

/-! ### Sequence checking (R25) -/

/-- The class of a packet against the last sequence counter, what that counter becomes, and the gap added (R25). -/
def classify (last : Option Nat) (p : Packet) : PacketClass × Option Nat × Nat :=
  let n := seqOf p
  if isDamaged p then (.damaged, none, 0)
  else if saysNoPayload p then (.noPayload, last, 0)
  else if isDiscontinuous p then (.resumed, some n, 0)
  else match last with
    | none => (.resumed, some n, 0)
    | some l =>
      if n = l then (.duplicate, some l, 0)
      else if n = (l + 1) % 16 then (.inOrder, some n, 0)
      else (.gap, some n, (n + 32 - (l + 1)) % 16)

/-! ### Routing (R17) -/

/-- A packet that belongs to nothing is counted against its port (R18, R20, R21). -/
def countUnclaimed (p : Nat) (s : State) : State :=
  let v := s.port p
  s.setPort p { v with counters := { v.counters with unclaimed := bump v.counters.unclaimed } }

/-- Whether a hit on candidate `c` is forwarded: `c` is the selected candidate of its ACTIVE owner (R29). -/
def forwards (s : State) (c : Nat) : Option Nat :=
  (s.candidate c).cfg.owner.filter fun k =>
    (s.service k).cfg.state == .active && (s.service k).selected == some c

/-- The forwarding decision, after any offer (R29). The indication says whether the output counter advances (R148). -/
def forwardHit (e : LaneEntry) (cls : PacketClass) (packet : Packet) (s : State) : State :=
  match forwards s e.candidate with
  | some k =>
    s.send [.forwardAdmission k e.slot (decide (cls ≠ .duplicate ∧ cls ≠ .noPayload)) packet]
  | none => s

/-- The clean-point offer of a hit to its owner's armed switch (R28). -/
def offerHit (e : LaneEntry) (cls : PacketClass) (start : Bool) (s : State) : State :=
  match (s.candidate e.candidate).cfg.owner with
  | some k => offerPacket k e.candidate e.slot cls start s
  | none => s

/-- A hit: sequence check, measurement, offer, forwarding (R25, R27 to R29). -/
def hit (place : Nat) (e : LaneEntry) (time : Nat) (packet : Packet) (s : State) : State :=
  let r := classify e.lastSeq packet
  let t := (s.setLanePlace place (some { e with lastSeq := r.2.1 })).send
    [.measurementArrival ⟨e.candidate, e.slot, r.1, r.2.2, isStart packet, time⟩]
  forwardHit e r.1 packet (offerHit e r.1 (isStart packet) t)

/-- A lane-0 packet (R20). -/
def routeDirectory (port source : Nat) (packet : Packet) (s : State) : State :=
  if source = 14 ∨ (s.port port).cfg.dirCheck = false then countUnclaimed port s
  else if isDamaged packet then s
  else s.send [.directoryPacket port source packet]

/-- Routing by the first test met (R17). -/
def routePacket (port : Nat) (source : Option Nat) (time : Nat) (packet : Packet) (s : State) : State :=
  match source with
  | none => countUnclaimed port s
  | some x =>
    if x = 14 ∧ laneOf packet = s.settings.controlLane then s.send [.controlPacket packet]
    else if laneOf packet = 0 then routeDirectory port x packet s
    else match lookupLane s x (laneOf packet) with
      | some (i, e) => hit i e time packet s
      | none => countUnclaimed port s

/-! ### The meanings -/

/-- CLASSIFY_PACKET (R17 to R21, R25, R27 to R29, R100 to R102, R114). -/
def execClassifyPacket (port : Nat) (source : Option Nat) (time : Nat) (packet : Packet) (s : State) : Answer :=
  onPort port (onPacket packet (whenRunning s fun s =>
    routePacket port source time packet (s.take (.classifyPacket port source time packet))))

/-- CLASSIFIER_LEFT_LOCKED (R26): the entries of the source the port gives when the arrival is taken. -/
def execClassifierLeftLocked (p : Nat) (s : State) : Answer :=
  onPort p (whenRunning s fun s =>
    let t := s.take (.classifierLeftLocked p)
    match t.sourceOfPort p with
    | some x => forgetSequence x t
    | none => t)

end Sys2Proof.Machine
end

