-- ==== Sys2Proof/Machine/Measurement.lean ====
section
/-! DEFINITION. The Quality Monitor (04): measurement records, the grade arithmetic, the interval grading and the survey
grading. -/

namespace Sys2Proof.Machine

/-! ### The measurement record (section 4.2) -/

/-- A reference-lane span, taken as 10,000 ms at most (R57, R58). -/
def silenceSpan (from_ to_ : Nat) : Nat := min 10000 (to_ - from_)

/-- A reference-lane arrival at time `t` (R57). An earlier time is taken as equal to the last reference arrival. -/
def Measurement.reference (m : Measurement) (t : Nat) : Measurement :=
  let u := max t m.lastReference
  { m with silence := max m.silence (silenceSpan m.lastReference u), lastReference := u }

/-- The counts of one arrival by its class (R56). -/
def Measurement.count (m : Measurement) (cls : PacketClass) (gap : Nat) : Measurement :=
  match cls with
  | .inOrder | .resumed | .noPayload => { m with packets := bump m.packets }
  | .damaged => { m with packets := bump m.packets, damaged := bump m.damaged }
  | .gap => { m with packets := bump m.packets, gaps := satAdd top32 m.gaps gap }
  | .duplicate => { m with duplicates := bump m.duplicates }

/-- The record after a measurement arrival (R56, R57). -/
def Measurement.arrive (m : Measurement) (a : Measured) : Measurement :=
  let n := m.count a.cls a.gap
  if a.slot = 0 then n.reference a.time else n

/-- The record closed at time `t`, with its final span (R58). -/
def Measurement.close (m : Measurement) (t : Nat) : Measurement :=
  { m with silence := max m.silence (silenceSpan m.lastReference t) }

/-- The Quality Monitor takes a measurement arrival; one for a FREE candidate is discarded (R56). -/
def measure (a : Measured) (s : State) : State :=
  let x := s.candidate a.candidate
  if x.cfg.state = .free then s
  else s.setCandidate a.candidate { x with measured := x.measured.arrive a }

/-! ### The grade arithmetic (section 4.7) -/

/-- The damage penalty (R67). -/
def damagePenalty (w : WeightSet) (m : Measurement) : Nat :=
  if m.packets = 0 then 0 else min 1000 (m.damaged * 10000 / m.packets * w.damage / 16)

/-- The gap penalty (R67). -/
def gapPenalty (w : WeightSet) (m : Measurement) : Nat := min 1000 (m.gaps * w.gap)

/-- The margin penalty for the lowest margin read, if any (R67). -/
def marginPenalty (w : WeightSet) (hasLane : Bool) (lowest : Option Int) : Nat :=
  if !hasLane then 0
  else match lowest with
    | some m => min 1000 ((w.floor - m).toNat * w.margin)
    | none => w.absent

/-- The uncorrected penalty (R67). -/
def uncorrectedPenalty (w : WeightSet) (r : MarginReadings) : Nat := min 1000 (r.uncorrected * w.uncorrected / 4)

/-- The corrected penalty (R67). -/
def correctedPenalty (w : WeightSet) (on : Bool) (r : MarginReadings) : Nat :=
  if on then min 1000 (r.corrected / 256 * w.corrected) else 0

/-- The grade record computed from a closed measurement record, the margin inputs and the weight set (R66 to R69). -/
def gradeRecord (w : WeightSet) (weightSet : Nat) (counting hasLane : Bool) (r : MarginReadings) (m : Measurement)
    (interval : BitVec 32) (survey : Option (Nat × Nat)) : GradeRecord :=
  let silent := decide (m.packets = 0 ∨ w.silenceLimit < m.silence)
  let sum := damagePenalty w m + gapPenalty w m + marginPenalty w hasLane r.lowest + uncorrectedPenalty w r +
    correctedPenalty w counting r
  { grade := if silent || r.belowFull then 0 else 1000 - sum
    silent := silent
    unlocked := r.belowFull
    marginAbsent := hasLane && r.lowest.isNone
    damagePenalty := damagePenalty w m
    gapPenalty := gapPenalty w m
    marginPenalty := marginPenalty w hasLane r.lowest
    uncorrectedPenalty := uncorrectedPenalty w r
    correctedPenalty := correctedPenalty w counting r
    packets := m.packets
    damaged := m.damaged
    gaps := m.gaps
    silence := m.silence
    duplicates := m.duplicates
    interval := interval
    weightSet := weightSet
    survey := survey }

/-! ### The interval grading (R61) -/

/-- Whether an interval grading grades a candidate: not FREE, with a feed port or the Control Port as source. The
state READY, QUARANTINED or BARRED of R61 is the same for these sources (R34). -/
def gradedAtInterval (x : Candidate) : Bool :=
  x.cfg.state != .free && x.cfg.state != .survey && (x.cfg.source.any fun p => p < 12 || p == 14)

/-- Steps 1 to 3 of R61 for one candidate: closed, graded with its port's readings, and its record cleared. -/
def gradeAtInterval (s : State) (x : Candidate) : Candidate :=
  let p := s.port (x.cfg.source.getD 14)
  { x with
    grade := some (gradeRecord (s.weightSet x.cfg.weightSet) x.cfg.weightSet s.settings.correctedCounting
      p.cfg.marginLane.isSome p.readings (x.measured.close s.now) s.intervalNumber none)
    measured := .opened s.now }

/-- Step 5 of R61 for one candidate: a survey grade ages, and becomes absent past the staleness limit (R74). -/
def ageSurvey (limit : Nat) (x : Candidate) : Candidate :=
  match x.grade with
  | none => x
  | some g =>
    match g.survey with
    | none => x
    | some (age, e) =>
      { x with grade := if limit < age + 1 then none else some { g with survey := some (age + 1, e) } }

/-- Steps 1 to 3 and 5 of R61 for one candidate. -/
def intervalCandidate (s : State) (x : Candidate) : Candidate :=
  if gradedAtInterval x then gradeAtInterval s x else ageSurvey s.settings.stalenessLimit x

/-- Step 4 of R61 for one port. -/
def intervalPort (p : Nat) (v : Port) : Port := if p < 12 then { v with readings := .cleared } else v

/-- The next interval begins now (R59). -/
def beginInterval (n : BitVec 32) (s : State) : State :=
  { s with
    intervalNumber := n
    intervalStart := s.now
    intervalLength := s.settings.gradingInterval
    gradingTimer := some (s.now + s.settings.gradingInterval) }

/-- The arrivals of step 7 of R61: "service graded" for each DEFINED or ACTIVE service, "target graded" for each
service in ARMED. -/
def gradedArrivals (s : State) : List Instr :=
  ((s.serviceIndices.filter fun k => (s.service k).cfg.state != .unused).map fun k =>
      .serviceGraded k s.intervalNumber) ++
    (s.serviceIndices.filter fun k => (s.service k).armed.isSome).map .targetGraded

/-- The interval grading, made at an expiry or at CLOSE INTERVAL (R59, R61). -/
def intervalGrading (s : State) : State :=
  let t := { s with
    candidates := Table.remap Candidate.default (fun _ x => intervalCandidate s x) s.candidates
    ports := Table.remap Port.default intervalPort s.ports }
  (beginInterval (s.intervalNumber + 1) t).send (gradedArrivals s)

/-- The grading timer expires (R59). -/
def gradingExpires (s : State) : State :=
  match s.gradingTimer with
  | none => s
  | some d => intervalGrading (s.atTime d)

/-! ### Survey grading (section 4.10) -/

/-- Whether a candidate bears a discard mark, whichever dwell it was set for: R72 and R126 leave out each candidate that
bears one, and a mark of both dwells stands until the later of them ends (R73, log 17). -/
def Candidate.discarded (x : Candidate) : Bool := x.discard12 || x.discard13

/-- Whether a survey grading of an entry grades a candidate: SURVEY, or QUARANTINED with return state SURVEY, of the
entry's source and without a discard mark (R72). -/
def gradedAtDwell (d : DwellEnd) (x : Candidate) : Bool :=
  x.cfg.state == .survey && x.cfg.source == some (64 + d.entry) && !x.discarded

/-- A candidate graded on a dwell (R72), under the interval number of the dwell expiry (R69 field 15). -/
def gradeAtDwell (s : State) (d : DwellEnd) (x : Candidate) : Candidate :=
  { x with
    grade := some (gradeRecord (s.weightSet x.cfg.weightSet) x.cfg.weightSet s.settings.correctedCounting
      d.marginLane d.readings (x.measured.close d.moment) d.interval (some (0, d.entry)))
    measured := .opened s.now }

/-- The discard mark of a port's dwell is cleared (R73). -/
def Candidate.clearDiscard (p : Nat) (x : Candidate) : Candidate :=
  if p = 12 then { x with discard12 := false } else { x with discard13 := false }

/-- The discard marks of a port's dwell are cleared (R73). -/
def clearDiscards (p : Nat) (s : State) : State :=
  { s with candidates := Table.remap Candidate.default (fun _ x => x.clearDiscard p) s.candidates }

/-- The DEFINED and ACTIVE services that own a candidate graded on a dwell, lowest first (R72). -/
def surveyedServices (s : State) (d : DwellEnd) : List Nat :=
  s.serviceIndices.filter fun k =>
    (s.service k).cfg.state != .unused &&
      s.candidates.any fun e => gradedAtDwell d e.2 && e.2.cfg.owner == some k

/-- The survey grading (R72). -/
def surveyGrading (d : DwellEnd) (s : State) : State :=
  let t := { s with
    candidates := Table.remap Candidate.default
      (fun _ x => (if gradedAtDwell d x then gradeAtDwell s d x else x).clearDiscard d.port) s.candidates }
  t.send ((surveyedServices s d).map (fun k => .surveyGraded k d.entry) ++ [.surveyGradingComplete d.port])

/-- At a dwell start the measurement record of every candidate of the entry is cleared (R71). -/
def clearDwellRecords (e : Nat) (s : State) : State :=
  { s with
    candidates := Table.remap Candidate.default
      (fun _ x => if x.cfg.source = some (64 + e) then { x with measured := .opened s.now } else x) s.candidates }

/-! ### The meanings -/

/-- MEASUREMENT_ARRIVAL (R55 to R57). -/
def execMeasurementArrival (a : Measured) (s : State) : Answer :=
  onCandidate a.candidate (onSlot a.slot (whenRunning s fun s => measure a (s.take (.measurementArrival a))))

/-- GRADING_TIMER_EXPIRY (R59, R61). -/
def execGradingTimerExpiry (s : State) : Answer := whenRunning s gradingExpires

/-- SURVEY_GRADING (R72). -/
def execSurveyGrading (d : DwellEnd) (s : State) : Answer :=
  onSweepPort d.port (onEntry d.entry (whenRunning s fun s => surveyGrading d (s.take (.surveyGrading d))))

end Sys2Proof.Machine
end

