-- ==== Sys2Proof/Machine/Ranking.lean ====
section
/-! DEFINITION. The Ranking Unit (05, and the advisory check of 07): the ranking of a service, flaps, outages,
quarantine and advisories. -/

namespace Sys2Proof.Machine

/-! ### Dark handling and flags of a service -/

/-- The challenger is cleared with its streak if it is `c` (R46, R50, R90). -/
def Service.dropChallenger (c : Nat) (v : Service) : Service := if v.challenger = some c then v.clearChallenge else v

/-- The advisory is cleared if its candidate is `c` (R46, R90). -/
def Service.dropAdvisory (c : Nat) (v : Service) : Service := if v.advisory = some c then { v with advisory := none } else v

/-- Dark handling for a service found without an eligible candidate: the flag is set, with DARK when it was clear (R82). -/
def goDark (k : Nat) (s : State) : State :=
  let v := s.service k
  if v.cfg.state = .active ∧ v.dark = false then
    (s.setService k { v with dark := true }).post (.dark k v.cfg.broadcast)
  else s

/-! ### Quarantine (section 5.6) -/

/-- What the quarantine of `c` does to switching (R91). `request` is false for a quarantine by the flap limit, whose
move is made by the request of R83 or R88. -/
def quarantineSwitching (k c : Nat) (request : Bool) (s : State) : State :=
  let s1 := if ((s.service k).armed.map Armed.target) = some c then cancelSwitch k s else s
  let v := s1.service k
  let s2 := if v.pinned = some c then s1.setService k { v with pinned := none } else s1
  let w := s2.service k
  if request ∧ w.selected = some c ∧ w.cfg.state = .active ∧ w.pinned = none then
    match s2.firstEligible w.rank [c] with
    | some t => s2.send [.switchRequest k t .urgent]
    | none => goDark k s2
  else s2

/-- A candidate that is READY or SURVEY enters quarantine (R90). -/
def enterQuarantine (c : Nat) (reason : QuarantineReason) (duration : Nat) (request : Bool) (s : State) : State :=
  let x := s.candidate c
  let t := s.setCandidate c
    { x with quarantine := some ⟨reason, duration⟩, flaps := 0, decay := 0, demoted := false }
  match x.cfg.owner with
  | none => t.post (.quarantined c reason)
  | some k =>
    quarantineSwitching k c request
      ((t.setService k (((t.service k).dropChallenger c).dropAdvisory c)).post (.quarantined c reason))

/-- A further quarantine of a QUARANTINED candidate: the greater count is kept, with its reason (R90). -/
def QuarantineRecord.further (q : QuarantineRecord) (reason : QuarantineReason) (duration : Nat) : QuarantineRecord :=
  if q.remaining < duration then ⟨reason, duration⟩ else q

/-- A quarantine by request or command. A candidate that is FREE or BARRED is not quarantined (R90, R92). -/
def quarantineCandidate (c : Nat) (reason : QuarantineReason) (duration : Nat) (s : State) : State :=
  let x := s.candidate c
  match x.quarantine with
  | some q => s.setCandidate c { x with quarantine := some (q.further reason duration) }
  | none =>
    if x.cfg.state = .ready ∨ x.cfg.state = .survey then enterQuarantine c reason duration true s else s

/-- A quarantine ended by countdown or by LIFT QUARANTINE (R79, R94). -/
def endQuarantine (c : Nat) (s : State) : State :=
  (s.setCandidate c { s.candidate c with quarantine := none, flaps := 0, decay := 0 }).post (.quarantineEnded c)

/-! ### The ranking of a service (section 5.2) -/

/-- Step 1 for one member (R79). -/
def countDown (s : State) (c : Nat) : State :=
  let x := s.candidate c
  match x.quarantine with
  | none => s
  | some q =>
    if q.remaining ≤ 1 then endQuarantine c s
    else s.setCandidate c { x with quarantine := some { q with remaining := q.remaining - 1 } }

/-- The decay of a candidate's flaps at a ranking (R80). -/
def Candidate.decayed (limit : Nat) (x : Candidate) : Candidate :=
  if x.demoted then { x with demoted := false }
  else if x.flaps = 0 then x
  else if limit ≤ x.decay + 1 then { x with flaps := x.flaps - 1, decay := 0 }
  else { x with decay := x.decay + 1 }

/-- Step 2 for one member (R80). -/
def decayFlaps (s : State) (c : Nat) : State :=
  s.setCandidate c ((s.candidate c).decayed s.settings.flapDecay)

/-- A member put before those of lower or equal grade: the members are put in from the last, so members of equal
grade keep their order (R81). -/
def insertByGrade (grade : Nat → Nat) (c : Nat) : List Nat → List Nat
  | [] => [c]
  | d :: l => if grade d ≤ grade c then c :: d :: l else d :: insertByGrade grade c l

/-- The rebuilt order: eligible members by grade from highest to lowest, then the others, each group stable (R81). -/
def rankedOrder (s : State) (members : List Nat) : List Nat :=
  (members.filter s.eligible).foldr (insertByGrade s.gradeOf) [] ++ members.filter (fun c => !s.eligible c)

/-- Step 3 (R81). -/
def rebuildRank (k : Nat) (s : State) : State :=
  let v := s.service k
  s.setService k { v with rank := rankedOrder s v.rank }

/-- Step 4 (R82). -/
def darkAtRanking (k : Nat) (s : State) : State :=
  let v := s.service k
  match s.firstEligible v.rank [] with
  | none => goDark k s
  | some _ =>
    if v.dark then (s.setService k { v with dark := false }).post (.restored k v.cfg.broadcast) else s

/-- A flap is counted against a candidate; at the flap limit it is quarantined in the same step (R87). A candidate
already QUARANTINED has no flap counted. -/
def countFlap (c : Nat) (s : State) : State :=
  let x := s.candidate c
  if x.quarantine.isSome then s
  else
    let t := s.setCandidate c { x with flaps := min 15 (x.flaps + 1), decay := 0, demoted := true }
    if s.settings.flapLimit ≤ x.flaps + 1 then
      enterQuarantine c .flap s.settings.quarantineDuration false t
    else t

/-- Whether a selected candidate is not eligible because of its grade (R83). -/
def failsByGrade (s : State) (c : Nat) : Bool :=
  let x := s.candidate c
  x.grade.isSome && !s.gradePasses c && !s.inOutage c && x.quarantine.isNone

/-- The challenge test for an eligible selection `sel` with `e` the first eligible member (R84). -/
def Service.challengeTest (v : Service) (holds : Bool) (e : Nat) : Service :=
  if !holds then v.clearChallenge
  else if v.challenger = some e then { v with streak := min 15 (v.streak + 1) }
  else { v with challenger := some e, streak := 1, attempts := 0 }

/-- The requests of step 5 for an unpinned STEADY service, and the fields it leaves (R83, R84). -/
def selectionDecision (k : Nat) (s : State) : State × List Instr :=
  let v := s.service k
  let cleared := s.setService k v.clearChallenge
  match v.selected, s.firstEligible v.rank [] with
  | none, some e => (cleared, [.switchRequest k e .first])
  | none, none => (cleared, [])
  | some c, some e =>
    if s.eligible c then
      let holds := e != c && decide (s.gradeOf c + v.cfg.hysteresis ≤ s.gradeOf e)
      let w := v.challengeTest holds e
      (s.setService k w, if holds ∧ w.cfg.confirm ≤ w.streak then [.switchRequest k e .challenge] else [])
    else (if failsByGrade s c then countFlap c cleared else cleared, [.switchRequest k e .urgent])
  | some _, none => (cleared, [])

/-- Step 5 (R83, R84, R85). A pinned service has its challenge cleared and sends no request; an ARMED one is left
as it stands (log 19). -/
def decideSelection (k : Nat) (s : State) : State × List Instr :=
  let v := s.service k
  if v.pinned.isSome then (s.setService k v.clearChallenge, [])
  else if v.armed.isSome then (s, [])
  else selectionDecision k s

/-! ### The advisory check (R131) -/

/-- Whether a member can be V: state SURVEY, a present grade record, neither SILENT nor UNLOCKED. -/
def surveyGraded (s : State) (c : Nat) : Bool :=
  let x := s.candidate c
  x.cfg.state == .survey && x.quarantine.isNone &&
    (match x.grade with | some g => !g.silent && !g.unlocked | none => false)

/-- V: the member of highest survey grade, the first of those with an equal grade. -/
def bestSurvey (s : State) (members : List Nat) : Option Nat :=
  (members.filter (surveyGraded s)).foldl
    (fun best c => match best with
      | none => some c
      | some b => if s.gradeOf b < s.gradeOf c then some c else some b) none

/-- B: the grade of the first eligible member. -/
def bestFeed (s : State) (members : List Nat) : Option Nat := (s.firstEligible members []).map s.gradeOf

/-- The condition of the check for V = `c`. -/
def advisoryHolds (s : State) (k c : Nat) : Bool :=
  match bestFeed s (s.service k).rank with
  | some b => decide (b + s.settings.advisoryMargin ≤ s.gradeOf c)
  | none => decide ((s.service k).cfg.minGrade ≤ s.gradeOf c)

/-- The advisory check (R131). -/
def advisoryCheck (k : Nat) (s : State) : State :=
  let v := s.service k
  match (bestSurvey s v.rank).filter (advisoryHolds s k) with
  | none => s.setService k { v with advisory := none }
  | some c =>
    if v.advisory = some c then s
    else (s.setService k { v with advisory := some c }).post
      (.advisory k v.cfg.broadcast c (((s.candidate c).cfg.source.getD 64) - 64) (s.gradeOf c) (bestFeed s v.rank))

/-- Steps 1 to 3, made for DEFINED and ACTIVE services (R78). -/
def rankMembers (k : Nat) (s : State) : State :=
  let order := (s.service k).rank
  rebuildRank k (order.foldl decayFlaps (order.foldl countDown s))

/-- Steps 4 to 6, made for ACTIVE services; the request is sent as the last part of the step (R78). -/
def rankActive (k : Nat) (s : State) : State :=
  let d := decideSelection k (darkAtRanking k s)
  (advisoryCheck k d.1).send d.2

/-- The ranking of a service. An arrival for an UNUSED service is discarded (R78). -/
def rankService (k : Nat) (s : State) : State :=
  match (s.service k).cfg.state with
  | .unused => s
  | .defined => rankMembers k s
  | .active => rankActive k (rankMembers k s)

/-! ### Outages (section 5.5) -/

/-- The ACTIVE unpinned services whose selected candidate has source `p`, lowest first (R88). -/
def selectedOnPort (s : State) (p : Nat) : List Nat :=
  s.serviceIndices.filter fun k =>
    let v := s.service k
    v.cfg.state == .active && v.pinned.isNone &&
      (match v.selected with
       | some c => (s.candidate c).cfg.source == some p
       | none => false)

/-- Outage handling of one service (R88). -/
def outageOfService (s : State) (k : Nat) : State :=
  match (s.service k).selected with
  | none => s
  | some c =>
    let t := countFlap c s
    match t.firstEligible (t.service k).rank [c] with
    | some e => t.send [.switchRequest k e .urgent]
    | none => if t.eligible c then t else goDark k t

/-! ### The meanings -/

/-- SERVICE_GRADED (R78 to R85, R87, R131). -/
def execServiceGraded (k : Nat) (n : BitVec 32) (s : State) : Answer :=
  onService k (whenRunning s fun s => rankService k (s.take (.serviceGraded k n)))

/-- SURVEY_GRADED: only the advisory check, for an ACTIVE service (R86). -/
def execSurveyGraded (k e : Nat) (s : State) : Answer :=
  onService k (onEntry e (whenRunning s fun s =>
    let t := s.take (.surveyGraded k e)
    if (t.service k).cfg.state = .active then advisoryCheck k t else t))

/-- RANKING_OUTAGE_ARRIVAL (R88). -/
def execRankingOutageArrival (p : Nat) (s : State) : Answer :=
  onPort p (whenRunning s fun s =>
    (selectedOnPort s p).foldl outageOfService (s.take (.rankingOutageArrival p)))

/-- RANKING_RESTORATION_ARRIVAL: no field of the Ranking Unit changes (R89). -/
def execRankingRestorationArrival (p : Nat) (s : State) : Answer :=
  onPort p (whenRunning s fun s => s.take (.rankingRestorationArrival p))

/-- DARK_ARRIVAL (R47, R82). -/
def execDarkArrival (k : Nat) (s : State) : Answer :=
  onService k (whenRunning s fun s => goDark k (s.take (.darkArrival k)))

/-- DIRECTORY_QUARANTINE_REQUEST (R92). -/
def execDirectoryQuarantineRequest (c : Nat) (s : State) : Answer :=
  onCandidate c (whenRunning s fun s =>
    quarantineCandidate c .directory s.settings.quarantineDuration (s.take (.directoryQuarantineRequest c)))

end Sys2Proof.Machine
end

