-- ==== Sys2Proof/Machine/Tables.lean ====
section
/-! DEFINITION. The Table Unit (03): forming and checking a posted change, and every effect of an applied one. -/

namespace Sys2Proof.Machine

/-- The value a field selection gives a field, if it selects it. -/
def selected? (fields : List (Nat × Nat)) (f : Nat) : Option Nat := (fields.find? fun fv => fv.1 == f).map Prod.snd

/-! ### The resulting records (R41) -/

/-- One field of a SERVICE change, written into the configuration (R31). -/
def ServiceConfig.write (c : ServiceConfig) (fv : Nat × Nat) : ServiceConfig :=
  match fv.1 with
  | 1 => { c with state := if fv.2 = 1 then .defined else if fv.2 = 2 then .active else .unused }
  | 2 => { c with base := fv.2 }
  | 3 => { c with policy := if fv.2 = 0 then .clean else if fv.2 = 1 then .cleanOrForce else .immediate }
  | 4 => { c with hysteresis := fv.2 }
  | 5 => { c with confirm := fv.2 }
  | 6 => { c with minGrade := fv.2 }
  | 7 => { c with cleanWait := fv.2 }
  | 8 => { c with retryLimit := fv.2 }
  | 9 => { c with guardLevel := fv.2 }
  | 10 => { c with broadcast := fv.2 }
  | _ => c

/-- The resulting record of a SERVICE change (R41). -/
def formService (c : ServiceConfig) (fields : List (Nat × Nat)) : ServiceConfig := fields.foldl ServiceConfig.write c

/-- The lane list a CANDIDATE selection gives: the lanes of slots 0 to count − 1, fields 5 on (R35, R36). -/
def selectedLanes (fields : List (Nat × Nat)) : Option (List Nat) :=
  (selected? fields 4).map fun n => (List.range n).map fun i => (selected? fields (5 + i)).getD absent32

/-- The state a CANDIDATE selection gives (R34). -/
def selectedState (fields : List (Nat × Nat)) : Option CandidateState :=
  (selected? fields 1).map fun v => if v = 1 then .ready else if v = 2 then .survey else if v = 4 then .barred else .free

/-- The resulting record of a CANDIDATE change. A FREE record without owner, source and lanes has every FREE value
(R41, log 18). -/
def formCandidate (c : CandidateConfig) (fields : List (Nat × Nat)) : CandidateConfig :=
  if selectedState fields = some .free then .free
  else
    let r : CandidateConfig :=
      { state := (selectedState fields).getD c.state
        owner := match selected? fields 2 with | some v => some v | none => c.owner
        source := match selected? fields 3 with | some v => some v | none => c.source
        lanes := (selectedLanes fields).getD c.lanes
        expected := match selected? fields 13 with
          | some v => if v = absent32 then none else some v
          | none => c.expected
        weightSet := (selected? fields 14).getD c.weightSet }
    if r.state = .free ∧ r.owner = none ∧ r.source = none ∧ r.lanes = [] then .free else r

/-! ### The checks at application (R42, R43) -/

/-- Whether a source is a feed port or the Control Port (R34). -/
def isFeedSource (x : Nat) : Bool := decide (x < 12) || x == 14

/-- Check 2 of R42: the state suits the owner, source and lane count. -/
def stateSuits (r : CandidateConfig) : Bool :=
  match r.state with
  | .free => r.owner.isNone && r.source.isNone && r.lanes.isEmpty
  | .ready => r.owner.isSome && !r.lanes.isEmpty && decide (r.lanes.length ≤ 8) && r.source.any isFeedSource
  | .survey => r.owner.isSome && !r.lanes.isEmpty && decide (r.lanes.length ≤ 8) && r.source.any (fun x => decide (64 ≤ x))
  | .barred => r.owner.isSome && !r.lanes.isEmpty && decide (r.lanes.length ≤ 8) && r.source.isSome

/-- A candidate joins a service: it was FREE, or its owner changes (R45). -/
def joins (old new : CandidateConfig) : Bool := new.state != .free && (old.state == .free || old.owner != new.owner)

/-- A candidate leaves its service: it becomes FREE, or its owner changes (R46). -/
def leaves (old new : CandidateConfig) : Bool := old.state != .free && (new.state == .free || old.owner != new.owner)

/-- Check 4 of R42 for one lane: another candidate's key, a margin lane of the source, or the control lane. -/
def laneConflicts (s : State) (c x lane : Nat) : Bool :=
  (s.laneMap.any fun e => e.2.any fun v => v.source == x && v.lane == lane && v.candidate != c) ||
    ((State.portsOfSource x).any fun p => (s.port p).cfg.marginLane == some lane) ||
    (x == 14 && s.settings.controlLane == lane)

/-- Places of the Lane Map held by other candidates (check 5 of R42). -/
def placesOfOthers (s : State) (c : Nat) : Nat := (s.laneMap.filter fun e => !placeOf c e.2).length

/-- The checks of R42 on a resulting record; the first that fails gives the reason. -/
def checkCandidate (s : State) (c : Nat) (r : CandidateConfig) : Option FailReason :=
  let old := (s.candidate c).cfg
  if r.state ≠ .free ∧ (r.owner.any fun k => (s.service k).cfg.state == .unused) then some .noOwner
  else if !stateSuits r then some .stateMismatch
  else if joins old r ∧ (r.owner.any fun k => decide (6 ≤ (s.service k).rank.length)) then some .listFull
  else if r.source.any fun x => r.lanes.any (laneConflicts s c x) then some .laneConflict
  else if 4096 < placesOfOthers s c + r.lanes.length then some .mapFull
  else none

/-- Whether the 8 lanes from a base hold a lane (R31). -/
def rangeHolds (base lane : Nat) : Bool := decide (base ≤ lane) && decide (lane ≤ base + 7)

/-- Whether the ranges of two bases meet. -/
def rangesMeet (a b : Nat) : Bool := decide (a ≤ b + 7) && decide (b ≤ a + 7)

/-- The checks of R43 on a resulting record. -/
def checkService (s : State) (k : Nat) (r : ServiceConfig) : Option FailReason :=
  if r.state ≠ .unused then
    if (s.services.any fun e => e.1 != k && e.2.cfg.state != .unused && rangesMeet r.base e.2.cfg.base) ||
        rangeHolds r.base s.settings.controlLane || rangeHolds r.base s.settings.reportLane ||
        rangeHolds r.base s.settings.tapLane then some .outputConflict
    else none
  else if (s.service k).rank ≠ [] then some .notEmpty
  else none

/-! ### The hold of the head (R40) -/

/-- The owner a CANDIDATE write leaves, as R37 judges it: absent when it makes the candidate FREE. Of a field that a
write names twice, the state or the owner, the first occurrence decides; such a write is refused at check 6 in any case
(the model's choice, log 23). -/
def ownerAfter (s : State) (c : Nat) (fields : List (Nat × Nat)) : Option Nat :=
  if selected? fields 1 = some 0 then none
  else match selected? fields 2 with
    | some k => if k < 512 then some k else none
    | none => (s.candidate c).cfg.owner

/-- The services a change touches (R40). -/
def touches (s : State) (h : Change) : List Nat :=
  if h.service then [h.index]
  else (s.candidate h.index).cfg.owner.toList ++ (ownerAfter s h.index h.fields).toList

/-- A change is held while it touches a service in ARMED (R40). -/
def isHeld (s : State) (h : Change) : Bool := (touches s h).any fun k => (s.service k).armed.isSome

/-! ### The effects on a service's selection (R46 to R48) -/

/-- The pin is released by a change that makes the pinned candidate FREE or BARRED, moves it to another owner or to
a survey source (R48). -/
def losesPin (old new : CandidateConfig) : Bool :=
  new.state == .free || (new.state == .barred && old.state != .barred) || old.owner != new.owner ||
    new.source.any fun x => decide (64 ≤ x)

/-- The selection is taken away by a change that makes the candidate FREE or BARRED, moves it to another owner,
changes its source or the lane of its slot 0 (R47). -/
def losesSelection (old new : CandidateConfig) : Bool :=
  new.state == .free || (new.state == .barred && old.state != .barred) || old.owner != new.owner ||
    old.source != new.source || old.lanes.head? != new.lanes.head?

/-- The challenger is cleared when it leaves the service or is barred (R46, R50). -/
def losesChallenge (old new : CandidateConfig) : Bool :=
  leaves old new || (new.state == .barred && old.state != .barred)

/-- The fields of the old owner after a change of candidate `c`: rank order, challenger, advisory, pin, selection
(R46, R47, R48, R50). -/
def Service.afterChange (c : Nat) (old new : CandidateConfig) (v : Service) : Service :=
  let v := if leaves old new then { v with rank := v.rank.erase c }.dropAdvisory c else v
  let v := if losesChallenge old new then v.dropChallenger c else v
  let v := if v.pinned = some c ∧ losesPin old new then { v with pinned := none } else v
  if v.selected = some c ∧ losesSelection old new then { v with selected := none } else v

/-- What the loss of the selection sends, against the tables as the change leaves them (R47, R48, R113). -/
def selectionLost (s : State) (k c : Nat) : List Instr :=
  let v := s.service k
  if v.cfg.state ≠ .active then []
  else if v.pinned.isSome then [.pinnedWithoutSelection k]
  else match s.firstEligible v.rank [c] with
    | some t => [.switchRequest k t .urgent]
    | none => [.darkArrival k]

/-! ### An applied CANDIDATE change (R45 to R50) -/

/-- Whether a change alters the source or the lane list, and so resets the measurement (R49). -/
def resetsRecord (old new : CandidateConfig) : Bool := old.source != new.source || old.lanes != new.lanes

/-- Whether a dwell in progress on a sweep port has the old or the new source (R49, R73). -/
def dwellTouched (s : State) (p : Nat) (old new : CandidateConfig) : Bool :=
  old.source.any (s.dwellsOn p) || new.source.any (s.dwellsOn p)

/-- The candidate's record after a change (R41, R45, R46, R49, R50, R73). R45 names the flap counter and the decay count
of a candidate that joins; that its demotion mark (R80, R87) is cleared with them is the model's choice (log 33). A
candidate that only changes its owner during a dwell of its entry has its record cleared (R45) and bears no discard mark,
since R73 names the reset of R49; that too is the model's choice (log 39). -/
def Candidate.afterChange (s : State) (new : CandidateConfig) (x : Candidate) : Candidate :=
  let old := x.cfg
  if new.state = .free then Candidate.fresh .free 0
  else
    let joined := joins old new
    let reset := resetsRecord old new
    let recheck := joined || old.source != new.source || old.expected != new.expected
    { cfg := new
      flaps := if joined then 0 else x.flaps
      decay := if joined then 0 else x.decay
      demoted := if joined then false else x.demoted
      quarantine := if new.state = .barred then none else x.quarantine
      directory := if recheck then .unchecked else x.directory
      misses := if recheck then 0 else x.misses
      measured := if joined || reset then .opened s.now else x.measured
      grade := if joined || reset then none else x.grade
      discard12 := x.discard12 || (reset && dwellTouched s 12 old new)
      discard13 := x.discard13 || (reset && dwellTouched s 13 old new) }

/-- The Lane Map after a change: entries are renewed when the source or the lane list changes (R24). -/
def changeLanes (c : Nat) (old new : CandidateConfig) (s : State) : State :=
  if resetsRecord old new then addCandidateLanes c new (removeCandidateLanes c s) else s

/-- The old owner's fields after a change (R46 to R48, R50). -/
def changeOldOwner (c : Nat) (old new : CandidateConfig) (s : State) : State :=
  match old.owner with
  | none => s
  | some k => s.setService k ((s.service k).afterChange c old new)

/-- The candidate joins its new owner at the end of its rank order (R45). -/
def joinOwner (c : Nat) (old new : CandidateConfig) (s : State) : State :=
  match new.owner with
  | none => s
  | some k =>
    if joins old new then s.setService k { s.service k with rank := (s.service k).rank ++ [c] } else s

/-- What the change sends as the last part of the step (R39, R47). -/
def candidateSends (before after : State) (c : Nat) (old new : CandidateConfig) : List Instr :=
  match old.owner with
  | none => []
  | some k =>
    if (before.service k).selected = some c ∧ losesSelection old new then selectionLost after k c else []

/-- A CANDIDATE change that has passed its checks is applied whole (R39, R45 to R50). -/
def applyCandidate (c : Nat) (new : CandidateConfig) (s : State) : State :=
  let x := s.candidate c
  let s1 := changeLanes c x.cfg new (s.setCandidate c (x.afterChange s new))
  let s2 := joinOwner c x.cfg new (changeOldOwner c x.cfg new s1)
  s2.send (candidateSends s s2 c x.cfg new)

/-! ### An applied SERVICE change (R51, R52) -/

/-- The service's fields after a change of its configuration (R51). -/
def Service.reconfigured (new : ServiceConfig) (v : Service) : Service :=
  match new.state with
  | .unused =>
    { v.clearChallenge with cfg := new, dark := false, advisory := none, selected := none, pinned := none }
  | .defined =>
    if v.cfg.state = .active then
      { v.clearChallenge with cfg := new, dark := false, advisory := none, selected := none }
    else { v with cfg := new }
  | .active => { v with cfg := new }

/-- A SERVICE change that has passed its checks is applied whole (R39, R51, R52). -/
def applyService (k : Nat) (new : ServiceConfig) (s : State) : State :=
  let v := s.service k
  let t := s.setService k (v.reconfigured new)
  if v.cfg.state = .defined ∧ new.state = .active ∧ v.pinned.isSome then t.send [.pinnedWithoutSelection k] else t

/-! ### Taking the head of the list (R39, R40, R44) -/

/-- The table code of a posted change (R163). -/
def Change.tableCode (h : Change) : Nat := if h.service then 4 else 5

/-- A change that fails leaves everything as it was, with fault and notice CHANGE FAILED (R44). -/
def failChange (h : Change) (r : FailReason) (s : State) : State :=
  (s.raise (.changeFailed h.tag h.tableCode h.index)).post (.changeFailed h.tag h.tableCode h.index r)

/-- A change is checked on its resulting record and applied or failed (R39, R42 to R44). -/
def performChange (h : Change) (s : State) : State :=
  if h.service then
    let r := formService (s.service h.index).cfg h.fields
    match checkService s h.index r with
    | some e => failChange h e s
    | none => applyService h.index r s
  else
    let r := formCandidate (s.candidate h.index).cfg h.fields
    match checkCandidate s h.index r with
    | some e => failChange h e s
    | none => applyCandidate h.index r s

/-- The Table Unit takes the head of the Pending Change List: a head that touches an ARMED service is held and waits
for one to leave ARMED; another is performed and leaves the list (R39, R40). -/
def takeHead (s : State) : State :=
  match s.changes with
  | [] => s
  | h :: rest =>
    if s.headHeld then s
    else if isHeld s h then { s with headHeld := true }
    else performChange h { s with changes := rest }

/-- A held head is examined again when a service it touches leaves ARMED (R40). -/
def examineHead (k : Nat) (s : State) : State :=
  match s.changes with
  | [] => s
  | h :: _ => if s.headHeld && (touches s h).contains k then { s with headHeld := isHeld s h } else s

/-! ### The meanings -/

/-- LEFT_ARMED_ARRIVAL (R40, R97). -/
def execLeftArmedArrival (k : Nat) (s : State) : Answer :=
  onService k (whenRunning s fun s => examineHead k (s.take (.leftArmedArrival k)))

/-- APPLY_CHANGE (R39 to R52). -/
def execApplyChange (s : State) : Answer := whenRunning s takeHead

end Sys2Proof.Machine
end

