-- ==== Sys2Proof/Machine/Operands.lean ====
section
/-! DEFINITION. The operands of table access (10 sections 10.5, 10.6, 10.9): the bodies of READ ENTRY, WRITE ENTRY
and LOAD RUN, the extent of each table, the fields each entry has, the range of each writable field, and the level
each entry demands. -/

namespace Sys2Proof.Machine

/-! ### Tables (R163) -/

/-- The tables of R163, in the order of their codes. -/
inductive TableId
  | settings | port | weight | sweep | service | candidate | grades | laneMap | directory | counters
  deriving DecidableEq, Repr

/-- A table code; a code above 9 names no table. -/
def tableOf : Nat → Option TableId
  | 0 => some .settings
  | 1 => some .port
  | 2 => some .weight
  | 3 => some .sweep
  | 4 => some .service
  | 5 => some .candidate
  | 6 => some .grades
  | 7 => some .laneMap
  | 8 => some .directory
  | 9 => some .counters
  | _ => none

/-- Whether an index lies in a table (R163). -/
def TableId.holds (t : TableId) (i : Nat) : Bool :=
  match t with
  | .settings => i == 0
  | .port => decide (i < 15)
  | .weight => decide (i < 4)
  | .sweep => decide (i < 64)
  | .service => decide (i < 512)
  | .candidate => decide (i < 2048)
  | .grades => decide (i < 2048)
  | .laneMap => decide (i < 4096)
  | .directory => decide (i < 14) || (decide (64 ≤ i) && decide (i < 128))
  | .counters => decide (i < 527)

/-- Whether a table may be written at all (R163). -/
def TableId.writable : TableId → Bool
  | .grades | .laneMap | .directory => false
  | .settings | .port | .weight | .sweep | .service | .candidate | .counters => true

/-- Whether `v` lies from `lo` to `hi`. -/
def between (lo hi v : Nat) : Bool := decide (lo ≤ v) && decide (v ≤ hi)

/-- The counters an entry of COUNTERS has: eight for a port, ten for port 14, four for a service (R15, R33, R158). -/
def counterFields (i : Nat) : Nat := if i < 14 then 8 else if i = 14 then 10 else 4

/-- Whether an entry of a table has a field number (section 1.2, R23, R31, R34, R64, R69, R117, R140, R166). -/
def TableId.hasField (t : TableId) (i f : Nat) : Bool :=
  match t with
  | .settings => between 1 15 f
  | .port => between 1 13 f
  | .weight => between 1 8 f
  | .sweep => between 1 12 f
  | .service => between 1 30 f
  | .candidate => between 1 23 f
  | .grades => between 1 18 f
  | .laneMap => between 1 7 f
  | .directory => between 1 9 f || between 16 143 f
  | .counters => between 1 (counterFields i) f

/-! ### Ranges of the writable fields (check 6 of R160) -/

/-- SETTINGS (R166). -/
def settingsRange (f v : Nat) : Bool :=
  match f with
  | 1 | 2 | 3 => between 32 8190 v
  | 4 => between 250 4000 v && v % 250 == 0
  | 5 => between 20 500 v
  | 6 => between 1 15 v
  | 7 => between 1 255 v
  | 8 => between 1 65535 v
  | 9 => between 1 3600 v
  | 10 => between 0 1000 v
  | 11 => between 0 1 v
  | 12 => between 0 0xFFFE v && v % 2 == 0
  | _ => false

/-- PORT, for port `p` (R2 and section 1.2). -/
def portRange (p f v : Nat) : Bool :=
  match f with
  | 1 => between 0 1 v
  | 2 => v == absent32 || (between 1 8190 v && p != 14)
  | 3 => between 0 2000 v
  | 4 => between 0 1 v && (v == 0 || p != 14)
  | 5 => between 0x08 0x77 v && isSweepPort p
  | _ => false

/-- WEIGHT; the margin floor is signed (R64). -/
def weightRange (f v : Nat) : Bool :=
  match f with
  | 1 | 2 | 4 | 6 | 7 => between 0 255 v
  | 3 => decide (-100 ≤ signedOf 32 v) && decide (signedOf 32 v ≤ 300)
  | 5 => between 0 1000 v
  | 8 => between 10 5000 v
  | _ => false

/-- SWEEP (R117, R118). -/
def sweepRange (f v : Nat) : Bool :=
  match f with
  | 1 | 4 => between 0 2 v
  | 2 => between 40000 2200000 v
  | 3 => between 0 15 v
  | 5 => between 200 10000 v
  | 6 => between 50 5000 v
  | _ => false

/-- SERVICE (R31, R36). -/
def serviceRange (f v : Nat) : Bool :=
  match f with
  | 1 | 3 | 9 => between 0 2 v
  | 2 => between 32 8152 v
  | 4 => between 0 500 v
  | 5 => between 1 15 v
  | 6 => between 0 1000 v
  | 7 => between 20 2000 v
  | 8 => between 1 7 v
  | 10 => between 0 65535 v
  | _ => false

/-- CANDIDATE; the value 3 of the state is refused (R34, R36). -/
def candidateRange (f v : Nat) : Bool :=
  match f with
  | 1 => between 0 2 v || v == 4
  | 2 => between 0 511 v
  | 3 => between 0 11 v || v == 14 || between 64 127 v
  | 4 => between 1 8 v
  | 5 | 6 | 7 | 8 | 9 | 10 | 11 | 12 => between 1 8190 v
  | 13 => between 0 65535 v || v == absent32
  | 14 => between 0 3 v
  | _ => false

/-- The rules of R36 on the CANDIDATE selection as a whole: FREE is written alone, a lane list is written whole, and
no lane stands in two slots. -/
def candidateForm (fields : List (Nat × Nat)) : Bool :=
  let lanes := (fields.map Prod.fst).filter (between 5 12)
  let whole := match selected? fields 4 with
    | none => lanes.isEmpty
    | some n => lanes.all (fun f => decide (f < 5 + n)) && lanes.length == n
  let values := (fields.filter fun fv => between 5 12 fv.1).map Prod.snd
  whole && decide values.Nodup && (selected? fields 1 != some 0 || fields.length == 1)

/-- Whether a write of one entry passes the checks of form and range: it selects at least one field, none twice, and
every field is writable with its value in range (R36, R118, R164, R166 and others). COUNTERS values are not read. -/
def entryInRange (t : TableId) (i : Nat) (fields : List (Nat × Nat)) : Bool :=
  !fields.isEmpty && decide (fields.map Prod.fst).Nodup && t.holds i && t.writable &&
    (fields.all fun fv => match t with
      | .settings => settingsRange fv.1 fv.2
      | .port => portRange i fv.1 fv.2
      | .weight => weightRange fv.1 fv.2
      | .sweep => sweepRange fv.1 fv.2
      | .service => serviceRange fv.1 fv.2
      | .candidate => candidateRange fv.1 fv.2
      | .counters => t.hasField i fv.1
      | .grades | .laneMap | .directory => false) &&
    (t != .candidate || candidateForm fields)

/-! ### The bodies (section 10.9) -/

/-- A write as its body carries it: the table code, the first index, and the field selection of each entry. -/
structure TableWrite where
  table : Nat
  index : Nat
  entries : List (List (Nat × Nat))
  deriving DecidableEq, Repr

/-- `n` pairs of field number and value. -/
def pairsAt : Nat → List Byte → List (Nat × Nat)
  | 0, _ => []
  | n + 1, l => (octetAt l 0, beAt l 1 4) :: pairsAt n (l.drop 5)

/-- `n` values of four octets. -/
def valuesAt : Nat → List Byte → List Nat
  | 0, _ => []
  | n + 1, l => beAt l 0 4 :: valuesAt n (l.drop 4)

/-- The selections of the `m` entries of a run. -/
def runAt (numbers : List Nat) : Nat → List Byte → List (List (Nat × Nat))
  | 0, _ => []
  | m + 1, l => numbers.zip (valuesAt numbers.length l) :: runAt numbers m (l.drop (4 * numbers.length))

/-- The body of WRITE ENTRY, or none when its length does not suit. -/
def writeEntryBody (l : List Byte) : Option TableWrite :=
  if 4 ≤ l.length ∧ l.length = 4 + 5 * octetAt l 3 then
    some ⟨octetAt l 0, beAt l 1 2, [pairsAt (octetAt l 3) (l.drop 4)]⟩
  else none

/-- The body of LOAD RUN, or none when its length does not suit. -/
def loadRunBody (l : List Byte) : Option TableWrite :=
  let m := octetAt l 3
  let n := octetAt l 4
  if 5 ≤ l.length ∧ l.length = 5 + n + 4 * n * m then
    some ⟨octetAt l 0, beAt l 1 2, runAt (((l.drop 5).take n).map BitVec.toNat) m (l.drop (5 + n))⟩
  else none

/-- The body of a write: LOAD RUN or WRITE ENTRY. -/
def writeBody (run : Bool) (l : List Byte) : Option TableWrite := if run then loadRunBody l else writeEntryBody l

/-- The entries a write covers, with consecutive indices from the first. -/
def TableWrite.covers (w : TableWrite) : List (Nat × List (Nat × Nat)) :=
  w.entries.zipIdx.map fun e => (w.index + e.2, e.1)

/-- Whether a write as a whole passes check 6: its table is known, its run is not empty and fits, at most 34 fields
are named, and every entry passes. -/
def TableWrite.inRange (w : TableWrite) : Bool :=
  match tableOf w.table with
  | none => false
  | some t =>
    !w.entries.isEmpty && w.covers.all fun e => decide (e.2.length ≤ 34) && entryInRange t e.1 e.2

/-- A read: table code, index, field numbers. -/
structure TableRead where
  table : Nat
  index : Nat
  fields : List Nat
  deriving DecidableEq, Repr

/-- The body of READ ENTRY, or none when its length does not suit. -/
def readEntryBody (l : List Byte) : Option TableRead :=
  if 4 ≤ l.length ∧ l.length = 4 + octetAt l 3 then
    some ⟨octetAt l 0, beAt l 1 2, (l.drop 4).map BitVec.toNat⟩
  else none

/-- Whether a read passes check 6 (R163). -/
def TableRead.inRange (r : TableRead) : Bool :=
  match tableOf r.table with
  | none => false
  | some t => t.holds r.index && between 1 34 r.fields.length && r.fields.all (t.hasField r.index)

/-! ### Levels (R37, R161, R163) -/

/-- The guard level a service counts with: 1 when UNUSED (R37). -/
def State.guardOf (s : State) (k : Nat) : Nat :=
  if (s.service k).cfg.state = .unused then 1 else (s.service k).cfg.guardLevel

/-- The least privileged level that a CANDIDATE write may come from, judged by the owners before and after (R37). -/
def demandOfOwners (s : State) (before after : Option Nat) : Nat :=
  match before, after with
  | none, none => 1
  | some a, none => s.guardOf a
  | none, some b => s.guardOf b
  | some a, some b => min (s.guardOf a) (s.guardOf b)

/-- The least privileged level that may write an entry with a selection. A write of a read-only table from level 2 is
refused at check 6 (R163). -/
def writeDemand (s : State) (t : TableId) (i : Nat) (fields : List (Nat × Nat)) : Nat :=
  match t with
  | .settings | .port => 0
  | .weight | .sweep | .counters => 1
  | .service => s.guardOf i
  | .candidate => demandOfOwners s (s.candidate i).cfg.owner (ownerAfter s i fields)
  | .grades | .laneMap | .directory => 2

/-- The claim of a level is judged against the ceiling of the COMMISSION line (R161). -/
def withinCeiling (s : State) (level : Nat) : Bool := decide (level ≤ 3) && (s.commission || level != 0)

/-- Whether a level may write one entry: level 3 never writes, and an entry outside its table is passed on to check 6
(R160, R161). -/
def mayWrite (s : State) (level table i : Nat) (fields : List (Nat × Nat)) : Bool :=
  decide (level ≤ 2) && match tableOf table with
    | none => true
    | some t => !t.holds i || decide (level ≤ writeDemand s t i fields)

/-- The write level of a table that has one for all its entries; the posted tables are judged entry by entry (R163). -/
def tableLevel : TableId → Nat
  | .settings | .port => 0
  | .weight | .sweep | .counters => 1
  | .service | .candidate | .grades | .laneMap | .directory => 2

/-- A run of no entries is judged by the write level of its table alone (R161, log 32). -/
def emptyRunAdmits (level : Nat) (w : TableWrite) : Bool :=
  match tableOf w.table with
  | none => true
  | some t => !t.holds w.index || decide (level ≤ tableLevel t)

/-- Whether a level may make a write (check 5): every entry must pass (R37). -/
def levelAdmits (s : State) (level : Nat) (w : TableWrite) : Bool :=
  decide (level ≤ 2) && (!w.entries.isEmpty || emptyRunAdmits level w) &&
    w.covers.all fun e => mayWrite s level w.table e.1 e.2

end Sys2Proof.Machine
end

