-- ==== Sys2Proof/Machine/StoreImage.lean ====
section
/-! DEFINITION. The Settings Store image as octets, its CRC-32, and when it is valid (10 section 10.7). R168 says what
the image holds and not where each field stands: the layout below is the model's choice (log 11). -/

namespace Sys2Proof.Machine

/-! ### The fields an image holds, as table values in the order of their numbers (R168) -/

/-- SETTINGS fields 1 to 12 (R166). -/
def Settings.values (c : Settings) : List Nat :=
  [c.controlLane, c.reportLane, c.tapLane, c.gradingInterval, c.urgentWait, c.flapLimit, c.flapDecay, c.quarantineDuration,
    c.stalenessLimit, c.advisoryMargin, c.correctedCounting.toNat, c.noticeEnable.toNat]

/-- PORT fields 1 to 5 (section 1.2). -/
def PortConfig.values (c : PortConfig) : List Nat :=
  [c.enable.toNat, val32 c.marginLane, c.holdover, c.dirCheck.toNat, c.tunerAddr]

/-- The eight fields of a weight set (R64). -/
def WeightSet.values (w : WeightSet) : List Nat :=
  [w.damage, w.gap, unsigned32 w.floor, w.margin, w.absent, w.uncorrected, w.corrected, w.silenceLimit]

/-- SWEEP fields 1 to 6 (R117). -/
def SweepConfig.values (c : SweepConfig) : List Nat :=
  [entryStateCode c.state, c.frequency, c.profile, affinityCode c.affinity, c.dwell, c.settle]

/-- SERVICE fields 1 to 10 and the pinned field (R31). -/
def ServiceSaved.values (v : ServiceSaved) : List Nat :=
  [serviceStateCode v.cfg.state, v.cfg.base, policyCode v.cfg.policy, v.cfg.hysteresis, v.cfg.confirm, v.cfg.minGrade,
    v.cfg.cleanWait, v.cfg.retryLimit, v.cfg.guardLevel, v.cfg.broadcast, val32 v.pinned]

/-- CANDIDATE fields 1 to 14; a QUARANTINED candidate's state is its return state (R34). -/
def CandidateConfig.values (c : CandidateConfig) : List Nat :=
  [candidateStateCode c.state, val32 c.owner, val32 c.source, c.lanes.length] ++
    (List.range 8).map (fun i => val32 c.lanes[i]?) ++ [val32 c.expected, c.weightSet]

/-! ### The octets -/

/-- Values of 4 octets each, as a table read carries them (section 10.9). -/
def valueOctets (l : List Nat) : List Byte := l.flatMap be32

/-- A table: the number of entries that differ from their defaults, then the index and the values of each, lowest
first. An entry that is not listed has its default values. -/
def tableOctets {α : Type} (values : α → List Nat) (t : Table α) : List Byte :=
  be16 t.length ++ t.flatMap fun e => be16 e.1 ++ valueOctets (values e.2)

/-- The image without its CRC-32: the settings generation and every field of R168. -/
def imageOctets (i : Image) : List Byte :=
  be32 i.generation.toNat ++ valueOctets i.settings.values ++ tableOctets PortConfig.values i.ports ++
    tableOctets WeightSet.values i.weights ++ tableOctets SweepConfig.values i.sweep ++
    tableOctets ServiceSaved.values i.services ++ tableOctets CandidateConfig.values i.candidates

/-- The image's CRC-32 over the rest of it, computed as R138 gives (R168). -/
@[irreducible] def imageCrc (i : Image) : BitVec 32 := crc32 (imageOctets i)

/-- The image is valid when its CRC-32 is correct and its last write ended with a successful read-back (R168). -/
def Store.valid (x : Store) : Bool := x.readBack && x.crc == imageCrc x.image

/-- The store once an image has been written: the image with the CRC-32 over it, good by its read-back (R168, R169). -/
def Store.written (i : Image) : Store := ⟨true, i, imageCrc i⟩

/-- The store while a write is in progress, or after one that failed its read-back: not valid (R169). -/
def Store.unwritten (x : Store) : Store := { x with readBack := false }

end Sys2Proof.Machine
end

