-- ==== Sys2Proof/Machine/Reads.lean ====
section
/-! DEFINITION. What a read of a table entry returns, field by field, and the change-pending indication
(R15, R23, R31 to R34, R64, R69, R117, R140, R158, R163, R166, section 1.2). -/

namespace Sys2Proof.Machine

/-- SETTINGS (R166). -/
def readSettings (s : State) : Nat → Nat
  | 1 => s.settings.controlLane
  | 2 => s.settings.reportLane
  | 3 => s.settings.tapLane
  | 4 => s.settings.gradingInterval
  | 5 => s.settings.urgentWait
  | 6 => s.settings.flapLimit
  | 7 => s.settings.flapDecay
  | 8 => s.settings.quarantineDuration
  | 9 => s.settings.stalenessLimit
  | 10 => s.settings.advisoryMargin
  | 11 => s.settings.correctedCounting.toNat
  | 12 => s.settings.noticeEnable.toNat
  | 13 => s.generation.toNat
  | 14 => s.store.valid.toNat
  | 15 => s.save.isSome.toNat
  | _ => absent32

def portStateCode : PortState → Nat
  | .disabled => 0 | .seeking => 1 | .confirming => 2 | .locked => 3 | .holdover => 4

/-- PORT (section 1.2). The lowest margin reads 0x80000000 when there is none. -/
def readPort (v : Port) : Nat → Nat
  | 1 => v.cfg.enable.toNat
  | 2 => val32 v.cfg.marginLane
  | 3 => v.cfg.holdover
  | 4 => v.cfg.dirCheck.toNat
  | 5 => v.cfg.tunerAddr
  | 6 => portStateCode v.state
  | 7 => v.outage.toNat
  | 8 => v.readings.lowest.isSome.toNat
  | 9 => match v.readings.lowest with
    | some m => unsigned32 m
    | none => 0x80000000
  | 10 => v.readings.corrected
  | 11 => v.readings.uncorrected
  | 12 => v.readings.belowFull.toNat
  | 13 => v.held.isSome.toNat
  | _ => absent32

/-- WEIGHT; the margin floor is carried signed (R64). -/
def readWeight (w : WeightSet) : Nat → Nat
  | 1 => w.damage
  | 2 => w.gap
  | 3 => unsigned32 w.floor
  | 4 => w.margin
  | 5 => w.absent
  | 6 => w.uncorrected
  | 7 => w.corrected
  | 8 => w.silenceLimit
  | _ => absent32

/-- The machine state of a visit: 0 IDLE, 1 TUNING, 2 SETTLING, 3 DWELLING (R117, section 10.9). -/
def visitCode : Option Visit → Nat
  | none => 0
  | some v => match v.phase with
    | .tuning _ _ => 1
    | .settling _ => 2
    | .dwelling _ | .grading => 3

/-- The sweep port an entry is under visit on. -/
def visitingPort (s : State) (e : Nat) : Option Nat :=
  if s.visiting 12 = some e then some 12 else if s.visiting 13 = some e then some 13 else none

/-- The place of an entry in the Visit Queue, 1 for the oldest. -/
def queuePosition (s : State) (e : Nat) : Option Nat :=
  if s.visitQueue.contains e then some (s.visitQueue.idxOf e + 1) else none

/-- SWEEP (R117). -/
def readSweep (s : State) (e : Nat) (f : Nat) : Nat :=
  let v := s.sweepEntry e
  match f with
  | 1 => entryStateCode v.cfg.state
  | 2 => v.cfg.frequency
  | 3 => v.cfg.profile
  | 4 => affinityCode v.cfg.affinity
  | 5 => v.cfg.dwell
  | 6 => v.cfg.settle
  | 7 => match v.lastVisit with
    | some n => n.toNat
    | none => absent32
  | 8 => outcomeCode v.lastOutcome
  | 9 => match visitingPort s e with
    | some p => visitCode (s.sweepPort p).visit
    | none => 0
  | 10 => val32 (visitingPort s e)
  | 11 => v.held.isSome.toNat
  | 12 => val32 (queuePosition s e)
  | _ => absent32

/-- The changes on the Pending Change List for one entry of one of the two posted tables (R32, R34). -/
def changesPending (s : State) (service : Bool) (i : Nat) : Nat :=
  (s.changes.filter fun h => h.service == service && h.index == i).length

/-- SERVICE (R31, R97). -/
def readService (s : State) (k : Nat) (f : Nat) : Nat :=
  let v := s.service k
  match f with
  | 1 => serviceStateCode v.cfg.state
  | 2 => v.cfg.base
  | 3 => policyCode v.cfg.policy
  | 4 => v.cfg.hysteresis
  | 5 => v.cfg.confirm
  | 6 => v.cfg.minGrade
  | 7 => v.cfg.cleanWait
  | 8 => v.cfg.retryLimit
  | 9 => v.cfg.guardLevel
  | 10 => v.cfg.broadcast
  | 11 => v.rank.length
  | 12 | 13 | 14 | 15 | 16 | 17 => val32 v.rank[f - 12]?
  | 18 => val32 v.challenger
  | 19 => v.streak
  | 20 => v.dark.toNat
  | 21 => v.advisory.isSome.toNat
  | 22 => val32 v.advisory
  | 23 => val32 v.selected
  | 24 => val32 v.pinned
  | 25 => v.armed.isSome.toNat
  | 26 => val32 (v.armed.map Armed.target)
  | 27 => val32 (v.armed.map fun a => causeCode a.cause)
  | 28 => v.attempts
  | 29 => val32 (v.armed.map fun a => a.timer - s.now)
  | 30 => changesPending s true k
  | _ => absent32

def directoryCode : DirectoryStatus → Nat
  | .unchecked => 0 | .confirmed => 1 | .missing => 2

/-- The rank position of a candidate in its owner's rank order, 1 for the first (R34). -/
def rankPosition (s : State) (c : Nat) : Option Nat :=
  match (s.candidate c).cfg.owner with
  | some k => if (s.service k).rank.contains c then some ((s.service k).rank.idxOf c + 1) else none
  | none => none

/-- CANDIDATE; a candidate with a quarantine record reads 3 QUARANTINED (R34). -/
def readCandidate (s : State) (c : Nat) (f : Nat) : Nat :=
  let v := s.candidate c
  match f with
  | 1 => if v.quarantine.isSome then 3 else candidateStateCode v.cfg.state
  | 2 => val32 v.cfg.owner
  | 3 => val32 v.cfg.source
  | 4 => v.cfg.lanes.length
  | 5 | 6 | 7 | 8 | 9 | 10 | 11 | 12 => val32 v.cfg.lanes[f - 5]?
  | 13 => val32 v.cfg.expected
  | 14 => v.cfg.weightSet
  | 15 => v.flaps
  | 16 => v.decay
  | 17 => val32 (v.quarantine.map fun q => quarantineCode q.reason)
  | 18 => val32 (v.quarantine.map QuarantineRecord.remaining)
  | 19 => val32 (v.quarantine.map fun _ => candidateStateCode v.cfg.state)
  | 20 => directoryCode v.directory
  | 21 => v.misses
  | 22 => val32 (rankPosition s c)
  | 23 => changesPending s false c
  | _ => absent32

/-- GRADES; an absent record reads 0xFFFFFFFF in every field (R69). -/
def readGrades (g : Option GradeRecord) (f : Nat) : Nat :=
  match g with
  | none => absent32
  | some g =>
    match f with
    | 1 => g.grade
    | 2 => g.silent.toNat
    | 3 => g.unlocked.toNat
    | 4 => g.marginAbsent.toNat
    | 5 => g.damagePenalty
    | 6 => g.gapPenalty
    | 7 => g.marginPenalty
    | 8 => g.uncorrectedPenalty
    | 9 => g.correctedPenalty
    | 10 => g.packets
    | 11 => g.damaged
    | 12 => g.gaps
    | 13 => g.silence
    | 14 => g.duplicates
    | 15 => g.interval.toNat
    | 16 => g.weightSet
    | 17 => val32 (g.survey.map Prod.fst)
    | 18 => val32 (g.survey.map Prod.snd)
    | _ => absent32

/-- LANEMAP (R23). -/
def readLanePlace (s : State) (i : Nat) (f : Nat) : Nat :=
  let v := s.lanePlace i
  match f with
  | 1 => v.isSome.toNat
  | 2 => val32 (v.map LaneEntry.source)
  | 3 => val32 (v.map LaneEntry.lane)
  | 4 => val32 (v.map LaneEntry.candidate)
  | 5 => val32 (v.map LaneEntry.slot)
  | 6 => val32 (v.bind LaneEntry.lastSeq)
  | 7 => s.laneMap.length
  | _ => absent32

/-- The source an index of DIRECTORY presents; indices 12 and 13 present the source the sweep port has in dwell (R140). -/
def directorySource (s : State) (i : Nat) : Option Nat := if isSweepPort i then s.sourceOfPort i else some i

/-- DIRECTORY (R140). -/
def readDirectory (s : State) (i : Nat) (f : Nat) : Nat :=
  let source := directorySource s i
  let w := source.bind s.snapshot
  match f with
  | 1 => w.isSome.toNat
  | 2 => val32 source
  | 3 => val32 (w.map Snapshot.stream)
  | 4 => val32 (w.map Snapshot.version)
  | 5 => match w with
    | some w => w.entries.length
    | none => 0
  | 6 => match w with
    | some w => (decide (64 < w.offered)).toNat
    | none => 0
  | 7 => match w with
    | some w => w.offered
    | none => 0
  | 8 => val32 (w.map fun w => w.interval.toNat)
  | 9 => match w with
    | some w => w.completions.toNat
    | none => 0
  | n =>
    match w.bind fun w => w.entries[(n - 16) / 2]? with
    | some e => if n % 2 = 0 then e.1 else e.2
    | none => absent32

/-- The counters of a port (R15). -/
def readPortCounter (c : PortCounters) : Nat → Nat
  | 1 => c.accepted
  | 2 => c.syncLosses
  | 3 => c.blips
  | 4 => c.outages
  | 5 => c.unclaimed
  | 6 => c.badMargin
  | 7 => c.crcFailures
  | 8 => c.discards
  | _ => absent32

/-- The counters of a service (R33). -/
def readServiceCounter (v : Service) : Nat → Nat
  | 1 => v.switches
  | 2 => v.forcedCuts
  | 3 => v.abandoned
  | 4 => v.forwardDrops
  | _ => absent32

/-- COUNTERS: ports at 0 to 14, services from 15; fields 9 and 10 of port 14 are the counts of R158. -/
def readCounter (s : State) (i f : Nat) : Nat :=
  if i < 15 then
    if f = 9 then s.malformedControl
    else if f = 10 then s.commandOverflow
    else readPortCounter (s.port i).counters f
  else readServiceCounter (s.service (i - 15)) f

/-- The value of a field of an entry as it stands (R32, R163). -/
def readField (s : State) (t : TableId) (i f : Nat) : Nat :=
  match t with
  | .settings => readSettings s f
  | .port => readPort (s.port i) f
  | .weight => readWeight (s.weightSet i) f
  | .sweep => readSweep s i f
  | .service => readService s i f
  | .candidate => readCandidate s i f
  | .grades => readGrades (s.candidate i).grade f
  | .laneMap => readLanePlace s i f
  | .directory => readDirectory s i f
  | .counters => readCounter s i f

/-- The change-pending indication (R163). -/
def changePending (s : State) (t : TableId) (i : Nat) : Bool :=
  match t with
  | .service => changesPending s true i != 0
  | .candidate => changesPending s false i != 0
  | .port => (s.port i).held.isSome
  | .sweep => (s.sweepEntry i).held.isSome
  | .settings | .weight | .grades | .laneMap | .directory | .counters => false

/-- The body of the reply to READ ENTRY (section 10.9). -/
def readReply (s : State) (r : TableRead) : List Byte :=
  match tableOf r.table with
  | none => []
  | some t =>
    be8 r.table ++ be16 r.index ++ flag8 (changePending s t r.index) ++ be8 r.fields.length ++
      r.fields.flatMap fun f => be8 f ++ be32 (readField s t r.index f)

end Sys2Proof.Machine
end

