-- ==== Sys2Proof/Machine/Sweep.lean ====
section
/-! DEFINITION. The Sweep Controller (07): choices, tuner transactions, visits, dwells, holds, and the applied SWEEP
write. -/

namespace Sys2Proof.Machine

/-! ### The applied SWEEP write (R118, R119) -/

/-- One field of a SWEEP write, written into the configuration (R117). -/
def SweepConfig.write (c : SweepConfig) (fv : Nat × Nat) : SweepConfig :=
  match fv.1 with
  | 1 => { c with state := if fv.2 = 1 then .enabled else if fv.2 = 2 then .disabled else .unused }
  | 2 => { c with frequency := fv.2 }
  | 3 => { c with profile := fv.2 }
  | 4 => { c with affinity := if fv.2 = 1 then .sp0 else if fv.2 = 2 then .sp1 else .any }
  | 5 => { c with dwell := fv.2 }
  | 6 => { c with settle := fv.2 }
  | _ => c

/-- A SWEEP write is applied; an entry that is not ENABLED leaves the Visit Queue (R119). -/
def applySweepWrite (e : Nat) (fields : List (Nat × Nat)) (s : State) : State :=
  let v := s.sweepEntry e
  let cfg := fields.foldl SweepConfig.write v.cfg
  let t := s.setSweepEntry e { v with cfg := cfg }
  if cfg.state = .enabled then t else { t with visitQueue := t.visitQueue.erase e }

/-- A SWEEP write is held, merged into a write already held (R118). -/
def holdSweepWrite (e : Nat) (fields : List (Nat × Nat)) (s : State) : State :=
  let v := s.sweepEntry e
  s.setSweepEntry e { v with held := some (match v.held with | none => fields | some h => mergeFields h fields) }

/-- The held SWEEP write of an entry is applied (R118, R127). -/
def applyHeldSweepWrite (e : Nat) (s : State) : State :=
  match (s.sweepEntry e).held with
  | none => s
  | some h => applySweepWrite e h (s.setSweepEntry e { s.sweepEntry e with held := none })

/-! ### Choosing (R121) -/

/-- Whether an affinity admits a sweep port (R117). -/
def Affinity.admits (a : Affinity) (p : Nat) : Bool :=
  match a with
  | .any => true
  | .sp0 => p == 12
  | .sp1 => p == 13

/-- The oldest entry of the Visit Queue whose affinity admits the port. -/
def queuedChoice (s : State) (p : Nat) : Option Nat :=
  s.visitQueue.find? fun e => (s.sweepEntry e).cfg.affinity.admits p

/-- The first ENABLED entry from the cursor upward, wrapping, whose affinity admits the port and that is not under
visit by the other port. -/
def roundRobinChoice (s : State) (p : Nat) : Option Nat :=
  ((List.range 64).map fun i => ((s.sweepPort p).cursor + i) % 64).find? fun e =>
    (s.sweepEntry e).cfg.state == .enabled && (s.sweepEntry e).cfg.affinity.admits p && !s.underVisit e

/-- The octets of one attempt: the address with the write direction, the frequency in four octets, the profile (R123). -/
def tunerOctets (address : Nat) (c : SweepConfig) : List Byte := be8 (2 * address) ++ be32 c.frequency ++ be8 c.profile

/-- Attempt number `n` of a transaction begins now, with its 2 ms limit (R123). -/
def beginAttempt (p n : Nat) (v : Visit) (s : State) : State :=
  let octets := tunerOctets (s.port p).cfg.tunerAddr (s.sweepEntry v.entry).cfg
  s.setSweepPort p { s.sweepPort p with visit := some { v with phase := .tuning n (.attempt octets (s.now + 2)) } }

/-- The entry taken leaves the Visit Queue, becomes under visit, and the port enters TUNING (R121). -/
def beginVisit (p e : Nat) (fromQueue : Bool) (s : State) : State :=
  beginAttempt p 1 ⟨e, fromQueue, .tuning 1 (.gap s.now)⟩ { s with visitQueue := s.visitQueue.erase e }

/-- A port tries to choose: it must be IDLE, not held and enabled (R121). -/
def tryChoose (p : Nat) (s : State) : State :=
  let m := s.sweepPort p
  if m.visit.isSome || m.held || !(s.port p).cfg.enable then s
  else match queuedChoice s p with
    | some e => beginVisit p e true s
    | none =>
      match roundRobinChoice s p with
      | some e => beginVisit p e false s
      | none => s

/-- Both ports try, SP0 first (R121). -/
def tryBoth (s : State) : State := tryChoose 13 (tryChoose 12 s)

/-! ### The end of a visit (R127) -/

/-- How a visit ends, with what its cursor rule needs to know (R122): an abort by SWEEP HOLD leaves the cursor at
the entry. -/
inductive VisitEnd
  | graded | noAck | noLock | outage | hold
  deriving DecidableEq, Repr

def VisitEnd.outcome : VisitEnd → VisitOutcome
  | .graded => .graded | .noAck => .noAck | .noLock => .noLock | .outage => .aborted | .hold => .aborted

/-- The cursor after a visit (R122). -/
def cursorAfter (m : SweepPort) (v : Visit) (how : VisitEnd) : Nat :=
  if v.fromQueue then m.cursor else if how = .hold then v.entry else (v.entry + 1) % 64

/-- Whether a visit is in DWELLING, before or after its expiry. -/
def Visit.dwells (v : Visit) : Bool :=
  match v.phase with
  | .dwelling _ => true
  | .grading => true
  | _ => false

/-- The port's source is withdrawn (R1). -/
def withdrawSource (p : Nat) (s : State) : State := s.setPort p { s.port p with given := none }

/-- A sweep port's directory context passes to IDLE and drops what it holds (R134). -/
def idleContext (p : Nat) (s : State) : State := s.setDirContext p (DirContext.empty none)

/-- Step 1 of R127: the source is withdrawn, and no discard mark of the port's dwell outlives the visit (R73: the mark
is cleared when its dwell ends or is aborted; log 17). An ABORTED dwell hands the dwell-end arrival to Directory Watch
(R134), which after a dwell expiry has had it. -/
def closeDwell (p : Nat) (v : Visit) (how : VisitEnd) (s : State) : State :=
  let t := withdrawSource p s
  let u := if v.dwells then clearDiscards p t else t
  if v.dwells ∧ how.outcome = .aborted then idleContext p u else u

/-- Step 2 of R127. -/
def stampVisit (e : Nat) (how : VisitEnd) (s : State) : State :=
  s.setSweepEntry e { s.sweepEntry e with lastOutcome := how.outcome, lastVisit := some s.intervalNumber }

/-- Step 3 of R127: the fault and the notice of the outcome (R123, R124). -/
def reportVisit (p e : Nat) (how : VisitEnd) (s : State) : State :=
  match how with
  | .noAck => (s.raise (.tunerLink p e)).post (.visitFailed e p .noAck)
  | .noLock => s.post (.visitFailed e p .noLock)
  | .graded | .outage | .hold => s

/-- Steps 5 and 6 of R127: the visit ends and the cursor is set. -/
def leaveVisit (p : Nat) (v : Visit) (how : VisitEnd) (s : State) : State :=
  let m := s.sweepPort p
  s.setSweepPort p { m with visit := none, cursor := cursorAfter m v how }

/-- The end of a visit, in the order of R127. -/
def endVisit (p : Nat) (v : Visit) (how : VisitEnd) (s : State) : State :=
  let s1 := reportVisit p v.entry how (stampVisit v.entry how (closeDwell p v how s))
  let s2 := applyHeldPortWrite p (applyHeldSweepWrite v.entry s1)
  tryBoth (leaveVisit p v how s2)

/-! ### Tuning (R123) -/

/-- A failed attempt: a 10 ms gap and a retry, or NO ACK after the fourth (R123). -/
def attemptFails (p n : Nat) (v : Visit) (s : State) : State :=
  if n < 4 then
    s.setSweepPort p { s.sweepPort p with visit := some { v with phase := .tuning n (.gap (s.now + 10)) } }
  else endVisit p v .noAck s

/-- A successful attempt: the retune request is sent; the port settles, or the visit ends ABORTED under a hold
(R123, R129). -/
def attemptSucceeds (p : Nat) (v : Visit) (s : State) : State :=
  let t := s.send [.retuneRequest p]
  if (s.sweepPort p).held then endVisit p v .hold t
  else t.setSweepPort p
    { t.sweepPort p with visit := some { v with phase := .settling (t.now + (t.sweepEntry v.entry).cfg.settle) } }

/-- An attempt on the link ends (R123). -/
def attemptDone (p : Nat) (acknowledged : Bool) (s : State) : State :=
  match (s.sweepPort p).visit with
  | some ⟨e, q, .tuning n (.attempt o l)⟩ =>
    let v : Visit := ⟨e, q, .tuning n (.attempt o l)⟩
    if acknowledged then attemptSucceeds p v s else attemptFails p n v s
  | _ => s

/-- The 2 ms limit of an attempt expires (R123). -/
def attemptLimit (p : Nat) (s : State) : State :=
  match (s.sweepPort p).visit with
  | some ⟨e, q, .tuning n (.attempt o l)⟩ => attemptFails p n ⟨e, q, .tuning n (.attempt o l)⟩ (s.atTime l)
  | _ => s

/-- The retry gap expires and the next attempt begins (R123). -/
def gapExpires (p : Nat) (s : State) : State :=
  match (s.sweepPort p).visit with
  | some ⟨e, q, .tuning n (.gap g)⟩ => beginAttempt p (n + 1) ⟨e, q, .tuning n (.gap g)⟩ (s.atTime g)
  | _ => s

/-! ### Settling and dwelling (R124 to R126) -/

/-- A dwell on an entry begins, in the order of R125. -/
def beginDwell (p : Nat) (v : Visit) (s : State) : State :=
  let e := v.entry
  let s1 := clearDwellRecords e (forgetSequence (64 + e) s)
  let s2 := s1.setDirContext p (DirContext.empty (some (64 + e)))
  let s3 := s2.setPort p { s2.port p with given := some e, readings := .cleared }
  s3.setSweepPort p
    { s3.sweepPort p with visit := some { v with phase := .dwelling (s3.now + (s3.sweepEntry e).cfg.dwell) } }

/-- A margin arrival: full lock of a LOCKED port in SETTLING starts the dwell (R124). While the retune request is
still in flight the port is not yet restarted, and the arrival is ignored (log 13). -/
def marginArrives (p lock : Nat) (s : State) : State :=
  match (s.sweepPort p).visit with
  | some ⟨e, q, .settling d⟩ =>
    if lock = 2 ∧ (s.port p).state = .locked ∧ Instr.retuneRequest p ∉ s.inFlight then
      beginDwell p ⟨e, q, .settling d⟩ s
    else s
  | _ => s

/-- The settle timer expires (R124). -/
def settleExpires (p : Nat) (s : State) : State :=
  match (s.sweepPort p).visit with
  | some ⟨e, q, .settling d⟩ => endVisit p ⟨e, q, .settling d⟩ .noLock (s.atTime d)
  | _ => s

/-- The dwell timer expires: the source is withdrawn, and the dwell-end arrivals go to the Quality Monitor, with the
interval number and the readings of this moment (R69, R72), and to Directory Watch (R126, R134). -/
def dwellExpires (p : Nat) (s : State) : State :=
  match (s.sweepPort p).visit with
  | some ⟨e, q, .dwelling d⟩ =>
    let s1 := idleContext p (withdrawSource p (s.atTime d))
    let s2 := s1.setSweepPort p { s1.sweepPort p with visit := some ⟨e, q, .grading⟩ }
    s2.send [.surveyGrading ⟨e, p, s2.now, s2.intervalNumber, (s2.port p).readings, (s2.port p).cfg.marginLane.isSome⟩]
  | _ => s

/-- The survey grading is complete (R126). -/
def gradingComplete (p : Nat) (s : State) : State :=
  match (s.sweepPort p).visit with
  | some ⟨e, q, .grading⟩ => endVisit p ⟨e, q, .grading⟩ .graded s
  | _ => s

/-- An outage of the port ends a dwell before its expiry and nothing else (R11, R128). -/
def sweepOutage (p : Nat) (s : State) : State :=
  match (s.sweepPort p).visit with
  | some ⟨e, q, .dwelling d⟩ => endVisit p ⟨e, q, .dwelling d⟩ .outage s
  | _ => s

/-! ### Hold and resume (R129, R130) -/

/-- The held flag of a port is set or cleared. -/
def setHeld (p : Nat) (b : Bool) (s : State) : State := s.setSweepPort p { s.sweepPort p with held := b }

/-- The effect of a hold on a port's visit (R129). -/
def holdVisit (p : Nat) (s : State) : State :=
  match (s.sweepPort p).visit with
  | some ⟨e, q, .settling d⟩ => endVisit p ⟨e, q, .settling d⟩ .hold s
  | some ⟨e, q, .dwelling d⟩ => endVisit p ⟨e, q, .dwelling d⟩ .hold s
  | _ => s

/-- SWEEP HOLD on the ports named that are not held yet: every flag is set before any visit ends (R129). -/
def holdPorts (ports : List Nat) (s : State) : State :=
  let new := ports.filter fun p => !(s.sweepPort p).held
  new.foldl (fun t p => holdVisit p t) (new.foldl (fun t p => setHeld p true t) s)

/-- SWEEP RESUME (R130). -/
def resumePorts (ports : List Nat) (s : State) : State := tryBoth (ports.foldl (fun t p => setHeld p false t) s)

/-! ### The meanings -/

/-- TUNER_ATTEMPT_DONE (R123, R129). -/
def execTunerAttemptDone (p : Nat) (acknowledged : Bool) (time : Nat) (s : State) : Answer :=
  onSweepPort p (whenRunning s fun s => attemptDone p acknowledged (s.atTime time))

/-- ATTEMPT_LIMIT_EXPIRY (R123). -/
def execAttemptLimitExpiry (p : Nat) (s : State) : Answer := onSweepPort p (whenRunning s (attemptLimit p))

/-- RETRY_GAP_EXPIRY (R123). -/
def execRetryGapExpiry (p : Nat) (s : State) : Answer := onSweepPort p (whenRunning s (gapExpires p))

/-- SWEEP_MARGIN_ARRIVAL (R124, R125). -/
def execSweepMarginArrival (p lock : Nat) (s : State) : Answer :=
  onSweepPort p (whenRunning s fun s => marginArrives p lock (s.take (.sweepMarginArrival p lock)))

/-- SETTLE_TIMER_EXPIRY (R124). -/
def execSettleTimerExpiry (p : Nat) (s : State) : Answer := onSweepPort p (whenRunning s (settleExpires p))

/-- DWELL_TIMER_EXPIRY (R126). -/
def execDwellTimerExpiry (p : Nat) (s : State) : Answer := onSweepPort p (whenRunning s (dwellExpires p))

/-- SWEEP_OUTAGE_ARRIVAL (R11, R128). -/
def execSweepOutageArrival (p : Nat) (s : State) : Answer :=
  onSweepPort p (whenRunning s fun s => sweepOutage p (s.take (.sweepOutageArrival p)))

/-- SURVEY_GRADING_COMPLETE (R126, R127). -/
def execSurveyGradingComplete (p : Nat) (s : State) : Answer :=
  onSweepPort p (whenRunning s fun s => gradingComplete p (s.take (.surveyGradingComplete p)))

end Sys2Proof.Machine
end

