-- ==== Sys2Proof/Machine/Management.lean ====
section
/-! DEFINITION. The Management Unit (10): the Command Queue, the order of the checks, replies, and what each command
does once its checks pass. -/

namespace Sys2Proof.Machine

/-- What a command comes to: a refusal that changes nothing, or a reply body and the state it leaves (R160, R162). -/
inductive Verdict
  | refused (why : Reason)
  | done (body : List Byte) (s : State)
  | accepted (body : List Byte) (s : State)
  deriving DecidableEq, Repr

/-! ### The Command Queue (R158, R159) -/

/-- A command packet joins the Command Queue, or is dropped at a full one with fault COMMAND OVERFLOW (R158). -/
def joinCommandQueue (r : CommandRecord) (s : State) : State :=
  if s.commandQueue.length < 8 then { s with commandQueue := s.commandQueue ++ [r] }
  else ({ s with commandOverflow := satAdd top32 s.commandOverflow 1 }).raise .commandOverflow

/-- Whether a control-lane packet is a command packet (R158). -/
def isCommandPacket (p : Packet) : Bool := !isDamaged p && isStart p && adaptationOf p == 1

/-- The Management Unit takes a control-lane packet (R158). -/
def takeControlPacket (p : Packet) (s : State) : State :=
  if isCommandPacket p then joinCommandQueue (commandRecord p) s
  else { s with malformedControl := satAdd top32 s.malformedControl 1 }

/-- The Management Unit has no command in hand: no reply waits, and no restart has been replied to (R159, R170). -/
def State.freeForCommand (s : State) : Bool := s.replyInHand.isNone && s.restart.isNone

/-- The reply record made for a command, and the state its verdict leaves (R159, R162). -/
def answer (r : CommandRecord) (s : State) : Verdict → State
  | .refused why => { s with replyInHand := some ⟨r.cmd.tag, r.code, .refused, why, []⟩ }
  | .done body t => { t with replyInHand := some ⟨r.cmd.tag, r.code, .done, .none, body⟩ }
  | .accepted body t => { t with replyInHand := some ⟨r.cmd.tag, r.code, .accepted, .none, body⟩ }

/-- A command row of the table. The Management Unit takes it when it has no command in hand: directly when the Command
Queue is empty, or as the head of the queue. Otherwise the row stands for the arrival of the command, which joins the
queue, unless it already is the head that waits (R159, log 6). -/
def manage (r : CommandRecord) (f : State → Verdict) (s : State) : State :=
  match s.commandQueue with
  | [] => if s.freeForCommand then answer r s (f s) else joinCommandQueue r s
  | h :: rest =>
    if h = r then
      if s.freeForCommand then
        let t := { s with commandQueue := rest }
        answer r t (f t)
      else s
    else joinCommandQueue r s

/-- Checks 3 to 5 of R160 with the rest of the checks behind them. -/
def checked (s : State) (level : Nat) (lengthSuits admits : Bool) (v : Verdict) : Verdict :=
  if !lengthSuits then .refused .badLength
  else if !withinCeiling s level then .refused .level
  else if !admits then .refused .level
  else v

/-- A command of fixed body length with a level of its own (section 10.9). -/
def command (length level : Nat) (c : Cmd) (v : State → Verdict) (s : State) : Verdict :=
  checked s c.level (c.body.length == length) (decide (c.level ≤ level)) (v s)

/-! ### IDENTIFY, READ ENTRY, PROBE ACCESS -/

/-- The identity octets "ZBFH2416" (R167). -/
def identityOctets : List Byte := [0x5A, 0x42, 0x46, 0x48, 0x32, 0x34, 0x31, 0x36]

/-- IDENTIFY (R167). -/
def identify (s : State) : Verdict :=
  .done (identityOctets ++ [Config.revisionMajor, Config.revisionMinor] ++ be32 s.generation.toNat ++
    flag8 s.store.valid ++ flag8 s.save.isSome ++ flag8 s.commission) s

/-- READ ENTRY (R163). -/
def readEntry (c : Cmd) (s : State) : Verdict :=
  match readEntryBody c.body with
  | none => .refused .badLength
  | some r =>
    checked s c.level true (decide (c.level ≤ 3))
      (if r.inRange then .done (readReply s r) s else .refused .range)

/-- What a read of an entry would meet first from a level (R165). -/
def probeRead (s : State) (table index level : Nat) : Reason :=
  if !withinCeiling s level then .level
  else if (tableOf table).any fun t => t.holds index then .none
  else .range

/-- Whether a posted table's list is full (R165). -/
def probeFull (s : State) (t : TableId) : Bool := (t == .service || t == .candidate) && decide (32 ≤ s.changes.length)

/-- What a write of an entry would meet first from a level, no field values being given (R165). The row "writable now"
names checks 4, 5 and 7 only, and check 5 passes an unknown table code and an index outside its table on to check 6; that
such an entry answers not writable, with the reason RANGE of check 6, is the model's choice (log 28). -/
def probeWrite (s : State) (table index level : Nat) : Reason :=
  if !withinCeiling s level || !mayWrite s level table index [] then .level
  else match tableOf table with
    | none => .range
    | some t => if !t.holds index || !t.writable then .range else if probeFull s t then .full else .none

/-- PROBE ACCESS (R165, log 28). -/
def probeAccess (b : List Byte) (s : State) : Verdict :=
  let table := octetAt b 0
  let index := beAt b 1 2
  let level := octetAt b 3
  if 3 < level ∨ 1 < octetAt b 4 then .refused .range
  else
    let present := (tableOf table).any fun t => t.holds index
    let why := if octetAt b 4 = 0 then probeRead s table index level else probeWrite s table index level
    .done (flag8 present ++ flag8 (probeRead s table index level == .none) ++
      flag8 (probeWrite s table index level == .none) ++
      flag8 (present && (tableOf table).any fun t => changePending s t index) ++ be8 (reasonCode why)) s

/-! ### Table writes (R164) -/

/-- One field of a SETTINGS write (R166). -/
def Settings.write (c : Settings) (fv : Nat × Nat) : Settings :=
  match fv.1 with
  | 1 => { c with controlLane := fv.2 }
  | 2 => { c with reportLane := fv.2 }
  | 3 => { c with tapLane := fv.2 }
  | 4 => { c with gradingInterval := fv.2 }
  | 5 => { c with urgentWait := fv.2 }
  | 6 => { c with flapLimit := fv.2 }
  | 7 => { c with flapDecay := fv.2 }
  | 8 => { c with quarantineDuration := fv.2 }
  | 9 => { c with stalenessLimit := fv.2 }
  | 10 => { c with advisoryMargin := fv.2 }
  | 11 => { c with correctedCounting := fv.2 == 1 }
  | 12 => { c with noticeEnable := BitVec.ofNat 32 fv.2 }
  | _ => c

/-- Whether two of the control, report and tap lanes are equal (R166). -/
def Settings.lanesMeet (c : Settings) : Bool :=
  c.controlLane == c.reportLane || c.controlLane == c.tapLane || c.reportLane == c.tapLane

/-- Whether the state forbids the three lanes: the control lane on a Lane Map entry of source 14 (R19), or any of them
in the range of a service that is not UNUSED (R43). -/
def lanesForbidden (s : State) (c : Settings) : Bool :=
  mapHolds s 14 c.controlLane ||
    s.services.any fun e => e.2.cfg.state != .unused &&
      (rangeHolds e.2.cfg.base c.controlLane || rangeHolds e.2.cfg.base c.reportLane || rangeHolds e.2.cfg.base c.tapLane)

/-- The lane law of R43 and R19 stands before every write, so a lane that keeps its value cannot meet a range or an
entry: the check reads the three lanes as they would be after the write. -/
def writeSettings (reply : List Byte) (fields : List (Nat × Nat)) (s : State) : Verdict :=
  let c := fields.foldl Settings.write s.settings
  if c.lanesMeet then .refused .range
  else if lanesForbidden s c then .refused .state
  else .done reply { s with settings := c }

/-- One PORT entry is written at once, or held behind a visit in progress (R2, R3). An enable turned on lets an idle
sweep port choose (R121). -/
def writeOnePort (tag : BitVec 16) (s : State) (e : Nat × List (Nat × Nat)) : State :=
  if isSweepPort e.1 && (s.visiting e.1).isSome then holdPortWrite e.1 tag e.2 s
  else
    let t := applyPortWrite e.1 e.2 s
    if isSweepPort e.1 && (t.port e.1).cfg.enable && !(s.port e.1).cfg.enable then tryChoose e.1 t else t

/-- PORT writes (R2, R3). -/
def writePorts (tag : BitVec 16) (reply : List Byte) (l : List (Nat × List (Nat × Nat))) (s : State) : Verdict :=
  if l.any fun e => (selectedMargin e.2).any (marginConflict s e.1) then .refused .state
  else if l.any fun e => isSweepPort e.1 && (s.visiting e.1).isSome then .accepted reply (l.foldl (writeOnePort tag) s)
  else .done reply (l.foldl (writeOnePort tag) s)

/-- One field of a WEIGHT write (R64). -/
def WeightSet.write (w : WeightSet) (fv : Nat × Nat) : WeightSet :=
  match fv.1 with
  | 1 => { w with damage := fv.2 }
  | 2 => { w with gap := fv.2 }
  | 3 => { w with floor := signedOf 32 fv.2 }
  | 4 => { w with margin := fv.2 }
  | 5 => { w with absent := fv.2 }
  | 6 => { w with uncorrected := fv.2 }
  | 7 => { w with corrected := fv.2 }
  | 8 => { w with silenceLimit := fv.2 }
  | _ => w

/-- WEIGHT writes (R64). -/
def writeWeights (reply : List Byte) (l : List (Nat × List (Nat × Nat))) (s : State) : Verdict :=
  .done reply (l.foldl (fun t e => t.setWeightSet e.1 (e.2.foldl WeightSet.write (t.weightSet e.1))) s)

/-- SWEEP writes: applied at once, or held for an entry under visit; an applied one lets the idle ports choose
(R118, R119). -/
def writeSweeps (reply : List Byte) (l : List (Nat × List (Nat × Nat))) (s : State) : Verdict :=
  let t := l.foldl (fun t e => if s.underVisit e.1 then holdSweepWrite e.1 e.2 t else applySweepWrite e.1 e.2 t) s
  let u := if l.all fun e => s.underVisit e.1 then t else tryBoth t
  if l.any fun e => s.underVisit e.1 then .accepted reply u else .done reply u

/-- SERVICE and CANDIDATE writes become posted changes (R35, R38). -/
def postChanges (service : Bool) (c : Cmd) (reply : List Byte) (l : List (Nat × List (Nat × Nat))) (s : State) : Verdict :=
  if 32 < s.changes.length + l.length then .refused .full
  else .accepted reply
    { s with changes := s.changes ++ l.map fun e => ⟨c.tag, c.level, service, e.1, e.2⟩ }

/-- One counter of a port is cleared (R15). -/
def PortCounters.clear (c : PortCounters) : Nat → PortCounters
  | 1 => { c with accepted := 0 }
  | 2 => { c with syncLosses := 0 }
  | 3 => { c with blips := 0 }
  | 4 => { c with outages := 0 }
  | 5 => { c with unclaimed := 0 }
  | 6 => { c with badMargin := 0 }
  | 7 => { c with crcFailures := 0 }
  | 8 => { c with discards := 0 }
  | _ => c

/-- One counter of a service is cleared (R33). -/
def Service.clearCounter (v : Service) : Nat → Service
  | 1 => { v with switches := 0 }
  | 2 => { v with forcedCuts := 0 }
  | 3 => { v with abandoned := 0 }
  | 4 => { v with forwardDrops := 0 }
  | _ => v

/-- One counter of an entry of COUNTERS is cleared (R15, R33, R158). -/
def clearCounter (i : Nat) (s : State) (f : Nat) : State :=
  if i < 15 then
    if f = 9 then { s with malformedControl := 0 }
    else if f = 10 then { s with commandOverflow := 0 }
    else s.setPort i { s.port i with counters := (s.port i).counters.clear f }
  else s.setService (i - 15) ((s.service (i - 15)).clearCounter f)

/-- COUNTERS writes set each selected field to 0 whatever the values (R15, R33). -/
def writeCounters (reply : List Byte) (l : List (Nat × List (Nat × Nat))) (s : State) : Verdict :=
  .done reply (l.foldl (fun t e => (e.2.map Prod.fst).foldl (clearCounter e.1) t) s)

/-- A write whose form and ranges are good is taken by its table. A run of SETTINGS is its single entry. -/
def writeTable (t : TableId) (c : Cmd) (w : TableWrite) (s : State) : Verdict :=
  let reply := be8 w.table ++ be16 w.index ++ be8 w.entries.length
  match t with
  | .settings => writeSettings reply (w.covers.flatMap Prod.snd) s
  | .port => writePorts c.tag reply w.covers s
  | .weight => writeWeights reply w.covers s
  | .sweep => writeSweeps reply w.covers s
  | .service => postChanges true c reply w.covers s
  | .candidate => postChanges false c reply w.covers s
  | .counters => writeCounters reply w.covers s
  | .grades | .laneMap | .directory => .refused .range

/-- WRITE ENTRY and LOAD RUN: checks 3 to 6, then the table's own check and effect (R160, R164). -/
def writeCommand (run : Bool) (c : Cmd) (s : State) : Verdict :=
  match writeBody run c.body with
  | none => .refused .badLength
  | some w =>
    checked s c.level true (levelAdmits s c.level w)
      (match tableOf w.table with
       | none => .refused .range
       | some t => if w.inRange then writeTable t c w s else .refused .range)

/-! ### Measurement, switching, quarantine -/

/-- CLOSE INTERVAL (R63). -/
def closeInterval (s : State) : Verdict :=
  if s.now - s.intervalStart < 250 then .refused .state
  else .done (be32 s.intervalNumber.toNat) (intervalGrading s)

/-- PIN (R111). -/
def pinCommand (b : List Byte) (s : State) : Verdict :=
  let k := beAt b 0 2
  let c := beAt b 2 2
  if 512 ≤ k ∨ 2048 ≤ c then .refused .range
  else if !s.pinFit k c then .refused .state
  else
    let t := setPin k c s
    let v := t.service k
    .done (opt16 v.selected ++ opt16 v.pinned ++ flag8 v.armed.isSome) t

/-- RELEASE PIN (R112). -/
def releaseCommand (b : List Byte) (s : State) : Verdict :=
  let k := beAt b 0 2
  if 512 ≤ k then .refused .range
  else if (s.service k).pinned.isNone then .refused .state
  else .done [] (releasePin k s)

/-- QUARANTINE (R93). -/
def quarantineCommand (b : List Byte) (s : State) : Verdict :=
  let c := beAt b 0 2
  let n := beAt b 2 2
  let x := s.candidate c
  if 2048 ≤ c ∨ n = 0 then .refused .range
  else if x.cfg.state = .free ∨ x.cfg.state = .barred then .refused .state
  else
    let t := quarantineCandidate c .manual n s
    match (t.candidate c).quarantine with
    | some q => .done (be8 (quarantineCode q.reason) ++ be16 q.remaining) t
    | none => .done (be8 0xFF ++ be16 0xFFFF) t

/-- LIFT QUARANTINE (R94). -/
def liftCommand (b : List Byte) (s : State) : Verdict :=
  let c := beAt b 0 2
  if 2048 ≤ c then .refused .range
  else if (s.candidate c).quarantine.isNone then .refused .state
  else .done [] (endQuarantine c s)

/-! ### The sweep -/

/-- The ports SWEEP HOLD and SWEEP RESUME name (R129). -/
def namedPorts : Nat → Option (List Nat)
  | 0 => some [12]
  | 1 => some [13]
  | 2 => some [12, 13]
  | _ => none

/-- The reply body of SWEEP HOLD and SWEEP RESUME (section 10.9). -/
def sweepReply (s : State) : List Byte :=
  be8 (visitCode (s.sweepPort 12).visit) ++ flag8 (s.sweepPort 12).held ++
    be8 (visitCode (s.sweepPort 13).visit) ++ flag8 (s.sweepPort 13).held

/-- SWEEP HOLD (R129). -/
def holdCommand (b : List Byte) (s : State) : Verdict :=
  match namedPorts (octetAt b 0) with
  | none => .refused .range
  | some l => .done (sweepReply (holdPorts l s)) (holdPorts l s)

/-- SWEEP RESUME (R130). -/
def resumeCommand (b : List Byte) (s : State) : Verdict :=
  match namedPorts (octetAt b 0) with
  | none => .refused .range
  | some l => .done (sweepReply (resumePorts l s)) (resumePorts l s)

/-- The reply body of VISIT NOW (R120). -/
def visitReply (s : State) (e : Nat) : List Byte :=
  if s.underVisit e then be8 0xFF else be8 ((queuePosition s e).getD 0xFF)

/-- VISIT NOW (R120). -/
def visitNowCommand (b : List Byte) (s : State) : Verdict :=
  let e := octetAt b 0
  if 64 ≤ e then .refused .range
  else if (s.sweepEntry e).cfg.state ≠ .enabled then .refused .state
  else if s.visitQueue.contains e ∨ s.underVisit e then .done (visitReply s e) s
  else if 8 ≤ s.visitQueue.length then .refused .full
  else
    let t := tryBoth { s with visitQueue := s.visitQueue ++ [e] }
    .done (visitReply t e) t

/-! ### Discoveries, faults -/

/-- A Discovery Log entry as TAKE DISCOVERIES returns it (section 10.9). -/
def discoveryOctets (d : Discovery) : List Byte :=
  be8 d.source ++ be16 d.number ++ be16 d.mapLane ++ be32 d.firstSeen.toNat ++ be32 d.lastSeen.toNat ++ be8 d.times

/-- TAKE DISCOVERIES (R143). -/
def takeDiscoveries (s : State) : Verdict :=
  let l := s.discoveries.take 8
  let rest := s.discoveries.drop 8
  .done (be8 l.length ++ be8 rest.length ++ be32 s.discoveryOverflow ++ l.flatMap discoveryOctets)
    { s with discoveries := rest }

/-- CLEAR DISCOVERIES (R144). -/
def clearDiscoveries (s : State) : Verdict :=
  .done (be8 s.discoveries.length) { s with discoveries := [], discoveryOverflow := 0 }

/-- The details of a fault as READ FAULTS gives them: port, entry, service, candidate, tag, table, index (R175). -/
def faultDetails : FaultReport → List Byte
  | .tunerLink p e => be8 p ++ be8 e ++ be16 0xFFFF ++ be16 0xFFFF ++ be16 0xFFFF ++ be8 0xFF ++ be16 0xFFFF
  | .changeFailed tag t i =>
    be8 0xFF ++ be8 0xFF ++ be16 0xFFFF ++ be16 0xFFFF ++ be16 tag.toNat ++ be8 t ++ be16 i
  | .switchAbandoned k c => be8 0xFF ++ be8 0xFF ++ be16 k ++ be16 c ++ be16 0xFFFF ++ be8 0xFF ++ be16 0xFFFF
  | .outputOverrun k => be8 0xFF ++ be8 0xFF ++ be16 k ++ be16 0xFFFF ++ be16 0xFFFF ++ be8 0xFF ++ be16 0xFFFF
  | .commandOverflow | .noticeOverflow | .storeInvalid | .storeWrite => List.replicate 11 0xFF

/-- The kind, interval number and details of the Fault Record (R175). -/
def recordOctets : Option FaultEntry → List Byte
  | none => List.replicate 16 0xFF
  | some e => be8 (faultCode e.fault) ++ be32 e.interval.toNat ++ faultDetails e.fault

/-- READ FAULTS (R175). -/
def readFaults (s : State) : Verdict :=
  .done ([s.faultSummary] ++ flag8 s.faultRecord.locked ++ recordOctets s.faultRecord.entry ++
    flag8 s.faultRecord.lost ++ be16 s.noticeLoss ++ be8 s.noticeQueue.length) s

/-- Whether the Record's kind is among those a set names (R176). -/
def recordNamed (s : State) (kinds : BitVec 8) : Bool :=
  s.faultRecord.entry.any fun e => kinds.getLsbD (faultCode e.fault)

/-- CLEAR FAULTS (R176). -/
def clearFaults (kinds : BitVec 8) (s : State) : Verdict :=
  let t := { s with
    faultSummary := s.faultSummary &&& ~~~kinds
    faultRecord := if s.faultRecord.locked && recordNamed s kinds
      then { s.faultRecord with locked := false, lost := false } else s.faultRecord
    noticeLoss := if kinds.getLsbD (faultCode .noticeOverflow) then 0 else s.noticeLoss }
  .done [t.faultSummary] t

/-! ### The Probe Tap -/

/-- Whether an arrival is a packet offered to the tap. -/
def isTapOffer : Instr → Bool
  | .tapOffer _ _ => true
  | _ => false

/-- START TAP (R153). Packets accepted before the step are not copied: their offers still in flight end (log 31). -/
def startTap (b : List Byte) (s : State) : Verdict :=
  let p := octetAt b 0
  let lane := beAt b 1 2
  let stop := beAt b 3 2
  if 13 < p ∨ (8190 < lane ∧ lane ≠ 0xFFFF) ∨ stop = 0 then .refused .range
  else if s.tap.running then .refused .busy
  else .done (be8 p ++ be16 lane ++ be16 stop ++ be16 s.tap.made ++ be16 s.tap.skipped)
    { s with
      tap := ⟨true, p, if lane = 0xFFFF then none else some lane, stop, 0, 0⟩
      inFlight := s.inFlight.filter fun i => !isTapOffer i }

/-- EXTEND TAP (R155). -/
def extendTap (b : List Byte) (s : State) : Verdict :=
  let n := beAt b 0 2
  if n = 0 then .refused .range
  else if !s.tap.running then .refused .state
  else if 65535 < s.tap.stop + n then .refused .range
  else .done (be16 (s.tap.stop + n) ++ be16 s.tap.made ++ be16 s.tap.skipped)
    { s with tap := { s.tap with stop := s.tap.stop + n } }

/-- STOP TAP (R156). -/
def stopTap (s : State) : Verdict :=
  if !s.tap.running then .refused .state
  else .done (be16 s.tap.made ++ be16 s.tap.skipped) (endTap .stopped s)

/-! ### The Settings Store -/

/-- The snapshot of the applied state that a save writes (R168). -/
def takeSnapshot (s : State) : Image where
  generation := s.generation
  settings := s.settings
  ports := Table.remap PortConfig.default (fun _ v => v.cfg) s.ports
  weights := s.weights
  sweep := Table.remap SweepConfig.default (fun _ v => v.cfg) s.sweepList
  services := Table.remap ServiceSaved.default (fun _ v => ⟨v.cfg, v.pinned⟩) s.services
  candidates := Table.remap (fun _ => CandidateConfig.free) (fun _ v => v.cfg) s.candidates

/-- SAVE SETTINGS (R169): SETTINGS field 14 becomes 0, field 15 becomes 1. -/
def saveSettings (s : State) : Verdict :=
  if s.save.isSome then .refused .busy
  else .accepted [] { s with save := some (takeSnapshot s), store := s.store.unwritten }

/-- The settings generation after a successful save (R169). What follows the largest is a free value (log 10). -/
def nextGeneration (g : BitVec 32) : BitVec 32 := if g = BitVec.allOnes 32 then Config.generationAfterLast else g + 1

/-- The write of the image ends with its read-back (R169): a good one leaves the image with its CRC-32 and the new
generation (R168). With no save in progress nothing ends. -/
def saveEnds (good : Bool) (s : State) : State :=
  match s.save with
  | none => s
  | some image =>
    if good then
      let g := nextGeneration s.generation
      ({ s with save := none, generation := g, store := .written { image with generation := g } }).post (.saveDone true g)
    else
      (({ s with save := none, store := s.store.unwritten }).raise .storeWrite).post
        (.saveDone false s.generation)

/-- SOFT RESTART (R171). -/
def softRestart (s : State) : Verdict :=
  if s.save.isSome then .refused .busy else .done [] { s with restart := some .soft }

/-- HARD RESTART (R170). -/
def hardRestart (s : State) : Verdict := .done [] { s with restart := some .hard }

/-! ### Unknown commands -/

/-- Whether a code is one of the command codes of section 10.9. -/
def knownCode (code : Byte) : Bool :=
  let n := code.toNat
  between 0x01 0x05 n || between 0x10 0x14 n || between 0x20 0x22 n || between 0x28 0x29 n || between 0x30 0x31 n ||
    between 0x38 0x3A n || between 0x40 0x42 n

/-- The refusal at check 1 or 2 of R160. -/
def refuseRecord (r : CommandRecord) : Verdict := if r.checkGood then .refused .unknown else .refused .badCheck

end Sys2Proof.Machine
end

