-- ==== Sys2Proof/Machine/Commands.lean ====
section
/-! DEFINITION. The meanings of the management rows: CONTROL_PACKET, one definition for each command, the seven table
writes, SAVE_WRITE_DONE and UNKNOWN_COMMAND, and the row that takes a record from the Command Queue. -/

namespace Sys2Proof.Machine

/-- The record of a command whose code is known and whose CRC is good. -/
def goodRecord (code : Byte) (c : Cmd) : CommandRecord := ⟨code, true, c⟩

/-- CONTROL_PACKET (R158). -/
def execControlPacket (p : Packet) (s : State) : Answer :=
  onPacket p (whenRunning s fun s => takeControlPacket p (s.take (.controlPacket p)))

/-! ### Commands (sections 10.5 to 10.9) -/

/-- IDENTIFY (R167). -/
def execIdentify (c : Cmd) (s : State) : Answer :=
  whenRunning s (manage (goodRecord 0x01 c) (command 0 3 c identify))

/-- READ_ENTRY (R163). -/
def execReadEntry (c : Cmd) (s : State) : Answer :=
  whenRunning s (manage (goodRecord 0x02 c) (readEntry c))

/-- WRITE_ENTRY (R164). -/
def execWriteEntry (c : Cmd) (s : State) : Answer :=
  whenRunning s (manage (goodRecord 0x03 c) (writeCommand false c))

/-- LOAD_RUN (R164). -/
def execLoadRun (c : Cmd) (s : State) : Answer :=
  whenRunning s (manage (goodRecord 0x04 c) (writeCommand true c))

/-- PROBE_ACCESS (R165). -/
def execProbeAccess (c : Cmd) (s : State) : Answer :=
  whenRunning s (manage (goodRecord 0x05 c) (command 5 3 c (probeAccess c.body)))

/-- CLOSE_INTERVAL (R63). -/
def execCloseInterval (c : Cmd) (s : State) : Answer :=
  whenRunning s (manage (goodRecord 0x10 c) (command 0 1 c closeInterval))

/-- PIN (R111). -/
def execPin (c : Cmd) (s : State) : Answer :=
  whenRunning s (manage (goodRecord 0x11 c) (command 4 1 c (pinCommand c.body)))

/-- RELEASE_PIN (R112). -/
def execReleasePin (c : Cmd) (s : State) : Answer :=
  whenRunning s (manage (goodRecord 0x12 c) (command 2 1 c (releaseCommand c.body)))

/-- QUARANTINE (R93). -/
def execQuarantine (c : Cmd) (s : State) : Answer :=
  whenRunning s (manage (goodRecord 0x13 c) (command 4 1 c (quarantineCommand c.body)))

/-- LIFT_QUARANTINE (R94). -/
def execLiftQuarantine (c : Cmd) (s : State) : Answer :=
  whenRunning s (manage (goodRecord 0x14 c) (command 2 1 c (liftCommand c.body)))

/-- SWEEP_HOLD (R129). -/
def execSweepHold (c : Cmd) (s : State) : Answer :=
  whenRunning s (manage (goodRecord 0x20 c) (command 1 1 c (holdCommand c.body)))

/-- SWEEP_RESUME (R130). -/
def execSweepResume (c : Cmd) (s : State) : Answer :=
  whenRunning s (manage (goodRecord 0x21 c) (command 1 1 c (resumeCommand c.body)))

/-- VISIT_NOW (R120). -/
def execVisitNow (c : Cmd) (s : State) : Answer :=
  whenRunning s (manage (goodRecord 0x22 c) (command 1 2 c (visitNowCommand c.body)))

/-- TAKE_DISCOVERIES (R143). -/
def execTakeDiscoveries (c : Cmd) (s : State) : Answer :=
  whenRunning s (manage (goodRecord 0x28 c) (command 0 2 c takeDiscoveries))

/-- CLEAR_DISCOVERIES (R144). -/
def execClearDiscoveries (c : Cmd) (s : State) : Answer :=
  whenRunning s (manage (goodRecord 0x29 c) (command 0 1 c clearDiscoveries))

/-- READ_FAULTS (R175). -/
def execReadFaults (c : Cmd) (s : State) : Answer :=
  whenRunning s (manage (goodRecord 0x30 c) (command 0 3 c readFaults))

/-- CLEAR_FAULTS (R176). -/
def execClearFaults (c : Cmd) (s : State) : Answer :=
  whenRunning s (manage (goodRecord 0x31 c) (command 1 1 c (clearFaults (c.body.getD 0 0))))

/-- START_TAP (R153). -/
def execStartTap (c : Cmd) (s : State) : Answer :=
  whenRunning s (manage (goodRecord 0x38 c) (command 5 1 c (startTap c.body)))

/-- EXTEND_TAP (R155). -/
def execExtendTap (c : Cmd) (s : State) : Answer :=
  whenRunning s (manage (goodRecord 0x39 c) (command 2 1 c (extendTap c.body)))

/-- STOP_TAP (R156). -/
def execStopTap (c : Cmd) (s : State) : Answer :=
  whenRunning s (manage (goodRecord 0x3A c) (command 0 1 c stopTap))

/-- SAVE_SETTINGS (R169). -/
def execSaveSettings (c : Cmd) (s : State) : Answer :=
  whenRunning s (manage (goodRecord 0x40 c) (command 0 0 c saveSettings))

/-- SOFT_RESTART (R171). -/
def execSoftRestart (c : Cmd) (s : State) : Answer :=
  whenRunning s (manage (goodRecord 0x41 c) (command 0 0 c softRestart))

/-- HARD_RESTART (R170). -/
def execHardRestart (c : Cmd) (s : State) : Answer :=
  whenRunning s (manage (goodRecord 0x42 c) (command 0 0 c hardRestart))

/-! ### Table writes by table -/

/-- Whether the body of a write names a table. -/
def writes (t : TableId) (c : Cmd) : Bool := c.body ≠ [] && tableOf (octetAt c.body 0) == some t

/-- The code of WRITE ENTRY or LOAD RUN. -/
def writeCode (run : Bool) : Byte := if run then 0x04 else 0x03

/-- The write of one table, as WRITE ENTRY or LOAD RUN. A body that names another table is not this row's event
(log 5). -/
def tableWrite (t : TableId) (run : Bool) (c : Cmd) (s : State) : State :=
  if writes t c then manage (goodRecord (writeCode run) c) (writeCommand run c) s else s

/-- SETTINGS_WRITE (R166). -/
def execSettingsWrite (run : Bool) (c : Cmd) (s : State) : Answer := whenRunning s (tableWrite .settings run c)

/-- PORT_WRITE (R2, R3). -/
def execPortWrite (run : Bool) (c : Cmd) (s : State) : Answer := whenRunning s (tableWrite .port run c)

/-- WEIGHT_WRITE (R64). -/
def execWeightWrite (run : Bool) (c : Cmd) (s : State) : Answer := whenRunning s (tableWrite .weight run c)

/-- SWEEP_WRITE (R118, R119). -/
def execSweepWrite (run : Bool) (c : Cmd) (s : State) : Answer := whenRunning s (tableWrite .sweep run c)

/-- SERVICE_WRITE (R36 to R38). -/
def execServiceWrite (run : Bool) (c : Cmd) (s : State) : Answer := whenRunning s (tableWrite .service run c)

/-- CANDIDATE_WRITE (R36 to R38). -/
def execCandidateWrite (run : Bool) (c : Cmd) (s : State) : Answer := whenRunning s (tableWrite .candidate run c)

/-- COUNTERS_WRITE (R15, R33). -/
def execCountersWrite (run : Bool) (c : Cmd) (s : State) : Answer := whenRunning s (tableWrite .counters run c)

/-! ### The end of a save, unknown commands -/

/-- SAVE_WRITE_DONE (R169). -/
def execSaveWriteDone (good : Bool) (time : Nat) (s : State) : Answer :=
  whenRunning s fun s => saveEnds good (s.atTime time)

/-- UNKNOWN_COMMAND (R160). A record with a good CRC and a known code is not this row's event (log 5). -/
def execUnknownCommand (r : CommandRecord) (s : State) : Answer :=
  whenRunning s fun s =>
    if r.checkGood && knownCode r.code then s else manage r (fun _ => refuseRecord r) s

/-! ### Taking the head of the Command Queue -/

/-- The row that takes a record of the Command Queue (R159, R160). -/
def commandInstr (r : CommandRecord) : Instr :=
  if !r.checkGood then .unknownCommand r
  else match r.code.toNat with
    | 0x01 => .identify r.cmd
    | 0x02 => .readEntry r.cmd
    | 0x03 => .writeEntry r.cmd
    | 0x04 => .loadRun r.cmd
    | 0x05 => .probeAccess r.cmd
    | 0x10 => .closeInterval r.cmd
    | 0x11 => .pin r.cmd
    | 0x12 => .releasePin r.cmd
    | 0x13 => .quarantine r.cmd
    | 0x14 => .liftQuarantine r.cmd
    | 0x20 => .sweepHold r.cmd
    | 0x21 => .sweepResume r.cmd
    | 0x22 => .visitNow r.cmd
    | 0x28 => .takeDiscoveries r.cmd
    | 0x29 => .clearDiscoveries r.cmd
    | 0x30 => .readFaults r.cmd
    | 0x31 => .clearFaults r.cmd
    | 0x38 => .startTap r.cmd
    | 0x39 => .extendTap r.cmd
    | 0x3A => .stopTap r.cmd
    | 0x40 => .saveSettings r.cmd
    | 0x41 => .softRestart r.cmd
    | 0x42 => .hardRestart r.cmd
    | _ => .unknownCommand r

end Sys2Proof.Machine
end

