-- ==== Sys2Proof/Machine/Start.lean ====
section
/-! DEFINITION. Starts of the part (R16, R30, R53, R54, R77, R96, R116, R133, R145, R157, R170, R171, R177), loss of
power, the COMMISSION line, and the output slot with the restart that takes effect in it. -/

namespace Sys2Proof.Machine

/-! ### Loading the tables (R168, R170) -/

/-- The image a start loads: the stored one when it is valid (its CRC-32 and its read-back good, R168), every default
and generation 0 when it is not (R170). -/
def startImage (s : State) : Image := if s.store.valid then s.store.image else Image.defaults

/-- The ports between the taking of a start and its completion: configured, accepting nothing (R16, R170). -/
def loadedPorts (i : Image) : Table Port :=
  (List.range 15).map fun p => (p, { Port.started (Table.get PortConfig.default i.ports p) with state := .disabled })

/-- The candidates, in their saved states and with nothing measured (R53, R77). -/
def loadedCandidates (i : Image) (t : Nat) : Table Candidate :=
  Table.remap Candidate.default (fun _ cfg => Candidate.fresh cfg t) i.candidates

/-- The non-FREE candidates of a service in ascending index (R53, R96). -/
def loadedRank (i : Image) (k : Nat) : List Nat :=
  (i.candidates.filter fun e => e.2.state != .free && e.2.owner == some k).map Prod.fst

/-- The services, STEADY and without a selection, pins kept (R53, R96, R116). -/
def loadedServices (i : Image) : Table Service :=
  Table.remap Service.default (fun k v => Service.started v.cfg (loadedRank i k) v.pinned) i.services

/-- The Sweep List, nothing visited yet (R133). -/
def loadedSweep (i : Image) : Table SweepEntry := Table.remap SweepEntry.default (fun _ v => SweepEntry.started v) i.sweep

/-- The Lane Map, rebuilt in ascending candidate order (R30). -/
def rebuildLaneMap (i : Image) (s : State) : State :=
  i.candidates.foldl (fun t e => addCandidateLanes e.1 e.2 t) { s with laneMap := [] }

/-- The directory contexts while no start has completed: every one IDLE (R145). -/
def idleContexts : Table DirContext := (List.range 12).map fun p => (p, DirContext.empty none)

/-- Every block at its start state with the tables of an image; what a SOFT RESTART keeps is kept (R171, R177). -/
def loadImage (kind : RestartKind) (i : Image) (s : State) : State where
  pending := s.pending
  inFlight := []
  now := s.now
  phase := .starting
  commission := s.commission
  outputLink := s.outputLink
  ports := loadedPorts i
  laneMap := []
  services := loadedServices i
  candidates := loadedCandidates i s.now
  changes := []
  headHeld := false
  weights := i.weights
  intervalNumber := 0
  intervalStart := s.now
  intervalLength := i.settings.gradingInterval
  gradingTimer := none
  sweepList := loadedSweep i
  visitQueue := []
  sweepPorts := []
  contexts := idleContexts
  snapshots := []
  discoveries := if kind = .soft then s.discoveries else []
  discoveryOverflow := if kind = .soft then s.discoveryOverflow else 0
  forwardQueue := []
  insertQueue := []
  reportCounter := 0
  tapCounter := 0
  tap := Tap.started
  settings := i.settings
  generation := i.generation
  store := s.store
  save := none
  commandQueue := []
  replyInHand := none
  restart := none
  malformedControl := 0
  commandOverflow := if kind = .soft then s.commandOverflow else 0
  noticeQueue := []
  noticeLoss := if kind = .soft then s.noticeLoss else 0
  faultSummary := if kind = .soft then s.faultSummary else 0
  faultRecord := if kind = .soft then s.faultRecord else ⟨false, false, none⟩

/-- A start from an invalid image records STORE INVALID (R170, R171, R177). Interval 0 begins only when the start
completes; the FAULT notice is stamped interval 0, time 0, as loadImage sets the interval clock (log 35). -/
def recordStoreInvalid (valid : Bool) (s : State) : State := if valid then s else recordFault .storeInvalid s

/-- A start is taken. A save in progress is abandoned; the image is left invalid, as the save made it (R169). -/
def takeStart (kind : RestartKind) (s : State) : State :=
  recordStoreInvalid s.store.valid (rebuildLaneMap (startImage s) (loadImage kind (startImage s) s))

/-! ### Completion (R170) -/

/-- The ports enter SEEKING or DISABLED (R16). -/
def openPorts (s : State) : State :=
  { s with ports := Table.remap Port.default (fun _ v => { v with state := if v.cfg.enable then .seeking else .disabled }) s.ports }

/-- The contexts of the feed ports whose directory check is on enter COLLECTING (R145). -/
def openContexts (s : State) : State :=
  { s with
    contexts := ((List.range 12).filter fun p => !(s.port p).cfg.dirCheck).map fun p => (p, DirContext.empty none) }

/-- Interval 0 begins, with every record of a non-FREE candidate opened now (R59, R77). -/
def beginMeasuring (s : State) : State :=
  beginInterval 0 { s with
    candidates := Table.remap Candidate.default
      (fun _ x => if x.cfg.state = .free then x else { x with measured := .opened s.now }) s.candidates }

/-- The services with a pin, lowest first (R116). -/
def pinnedServices (s : State) : List Nat := s.serviceIndices.filter fun k => (s.service k).pinned.isSome

/-- The start completes: the ports open, interval 0 begins, the sweep ports choose, SP0 first, and the pinned ACTIVE
services are taken up (R113, R116, R133, R145, R170). -/
def completeStart (s : State) : State :=
  let t := tryBoth (openContexts (openPorts (beginMeasuring { s with phase := .running })))
  (pinnedServices t).foldl (fun u k => takeUpPinned k u) t

/-! ### Power -/

/-- The part without power: only the Settings Store stands, its image invalid if a save was in progress (R169). The
time base, the COMMISSION line and the model's queue lie outside the part (log 30). -/
def withoutPower (s : State) : State :=
  { State.reset with
    pending := s.pending
    now := s.now
    phase := .off
    commission := s.commission
    gradingTimer := none
    store := s.store
    noticeQueue := []
    faultSummary := 0
    faultRecord := ⟨false, false, none⟩ }

/-! ### The output slot -/

/-- A slot of the running part. When the packet sent is the reply to a restart command, the restart is taken in the same
step, after the reply has left (R170, R171, log 12). -/
def runningSlot (s : State) : State :=
  if choosesRestartReply s then takeStart (s.restart.getD .hard) (sendChoice s) else sendChoice s

/-- A slot: the arbiter's choice, a null packet while a start is being made, nothing without power (R152, R157). -/
def outputSlot (s : State) : State :=
  match s.phase with
  | .running => runningSlot s
  | .starting => { s with outputLink := nullPacket }
  | .off => s

/-! ### The meanings -/

/-- POWER_ON (R170): a start from the Settings Store image, whatever the part was doing. -/
def execPowerOn (s : State) : Answer := .next (takeStart .hard s)

/-- RESET_LINE (R170). Without power the line restarts nothing. -/
def execResetLine (s : State) : Answer := .next (if s.phase = .off then s else takeStart .hard s)

/-- START_COMPLETION (R170). -/
def execStartCompletion (s : State) : Answer := .next (if s.phase = .starting then completeStart s else s)

/-- LOSS_OF_POWER (R169). -/
def execLossOfPower (s : State) : Answer := .next (withoutPower s)

/-- COMMISSION_LINE_CHANGE (R161). -/
def execCommissionLineChange (asserted : Bool) (time : Nat) (s : State) : Answer :=
  .next { s.atTime time with commission := asserted }

/-- OUTPUT_SLOT (R152, R157). -/
def execOutputSlot (time : Nat) (s : State) : Answer := .next (outputSlot (s.atTime time))

/-- RESTART_TAKES_EFFECT (R170, R171): the slot at which the reply to HARD RESTART or SOFT RESTART is sent. At a slot
with another choice no restart takes effect (log 5). -/
def execRestartTakesEffect (time : Nat) (s : State) : Answer :=
  whenRunning s fun s => if choosesRestartReply s then runningSlot (s.atTime time) else s

end Sys2Proof.Machine
end

