-- ==== Sys2Proof/Machine/Dispatch.lean ====
section
/-! DEFINITION. The meaning of each command, one arm for each constructor of Instr. -/

namespace Sys2Proof.Machine

def exec (i : Instr) (s : State) : Host.Outcome State Fault Refusal :=
  match i with
  | .powerOn => Sys2Proof.Machine.execPowerOn s
  | .resetLine => Sys2Proof.Machine.execResetLine s
  | .restartTakesEffect time => Sys2Proof.Machine.execRestartTakesEffect time s
  | .syncSearchOctet port octet time => Sys2Proof.Machine.execSyncSearchOctet port octet time s
  | .confirmBoundaryOctet port octet time => Sys2Proof.Machine.execConfirmBoundaryOctet port octet time s
  | .lockedBoundaryOctet port octet time => Sys2Proof.Machine.execLockedBoundaryOctet port octet time s
  | .starvationTimerExpiry port => Sys2Proof.Machine.execStarvationTimerExpiry port s
  | .holdoverTimerExpiry port => Sys2Proof.Machine.execHoldoverTimerExpiry port s
  | .packetAccepted port packet time => Sys2Proof.Machine.execPacketAccepted port packet time s
  | .retuneRequest port => Sys2Proof.Machine.execRetuneRequest port s
  | .classifyPacket port source time packet => Sys2Proof.Machine.execClassifyPacket port source time packet s
  | .classifierLeftLocked port => Sys2Proof.Machine.execClassifierLeftLocked port s
  | .directoryLeftLocked port => Sys2Proof.Machine.execDirectoryLeftLocked port s
  | .measurementArrival m => Sys2Proof.Machine.execMeasurementArrival m s
  | .forwardAdmission service slot advance packet => Sys2Proof.Machine.execForwardAdmission service slot advance packet s
  | .tapOffer port packet => Sys2Proof.Machine.execTapOffer port packet s
  | .outputSlot time => Sys2Proof.Machine.execOutputSlot time s
  | .replyPlacement => Sys2Proof.Machine.execReplyPlacement s
  | .reportPlacement => Sys2Proof.Machine.execReportPlacement s
  | .noticePost notice stamp => Sys2Proof.Machine.execNoticePost notice stamp s
  | .faultRecord fault => Sys2Proof.Machine.execFaultRecord fault s
  | .gradingTimerExpiry => Sys2Proof.Machine.execGradingTimerExpiry s
  | .serviceGraded service interval => Sys2Proof.Machine.execServiceGraded service interval s
  | .surveyGraded service entry => Sys2Proof.Machine.execSurveyGraded service entry s
  | .targetGraded service => Sys2Proof.Machine.execTargetGraded service s
  | .rankingOutageArrival port => Sys2Proof.Machine.execRankingOutageArrival port s
  | .switchOutageArrival port => Sys2Proof.Machine.execSwitchOutageArrival port s
  | .sweepOutageArrival port => Sys2Proof.Machine.execSweepOutageArrival port s
  | .rankingRestorationArrival port => Sys2Proof.Machine.execRankingRestorationArrival port s
  | .switchRestorationArrival port => Sys2Proof.Machine.execSwitchRestorationArrival port s
  | .darkArrival service => Sys2Proof.Machine.execDarkArrival service s
  | .directoryQuarantineRequest candidate => Sys2Proof.Machine.execDirectoryQuarantineRequest candidate s
  | .switchRequest service target cause => Sys2Proof.Machine.execSwitchRequest service target cause s
  | .pinnedWithoutSelection service => Sys2Proof.Machine.execPinnedWithoutSelection service s
  | .waitTimerExpiry service => Sys2Proof.Machine.execWaitTimerExpiry service s
  | .leftArmedArrival service => Sys2Proof.Machine.execLeftArmedArrival service s
  | .applyChange => Sys2Proof.Machine.execApplyChange s
  | .controlPacket packet => Sys2Proof.Machine.execControlPacket packet s
  | .identify c => Sys2Proof.Machine.execIdentify c s
  | .readEntry c => Sys2Proof.Machine.execReadEntry c s
  | .writeEntry c => Sys2Proof.Machine.execWriteEntry c s
  | .loadRun c => Sys2Proof.Machine.execLoadRun c s
  | .settingsWrite run c => Sys2Proof.Machine.execSettingsWrite run c s
  | .portWrite run c => Sys2Proof.Machine.execPortWrite run c s
  | .weightWrite run c => Sys2Proof.Machine.execWeightWrite run c s
  | .sweepWrite run c => Sys2Proof.Machine.execSweepWrite run c s
  | .serviceWrite run c => Sys2Proof.Machine.execServiceWrite run c s
  | .candidateWrite run c => Sys2Proof.Machine.execCandidateWrite run c s
  | .countersWrite run c => Sys2Proof.Machine.execCountersWrite run c s
  | .probeAccess c => Sys2Proof.Machine.execProbeAccess c s
  | .closeInterval c => Sys2Proof.Machine.execCloseInterval c s
  | .pin c => Sys2Proof.Machine.execPin c s
  | .releasePin c => Sys2Proof.Machine.execReleasePin c s
  | .quarantine c => Sys2Proof.Machine.execQuarantine c s
  | .liftQuarantine c => Sys2Proof.Machine.execLiftQuarantine c s
  | .sweepHold c => Sys2Proof.Machine.execSweepHold c s
  | .sweepResume c => Sys2Proof.Machine.execSweepResume c s
  | .visitNow c => Sys2Proof.Machine.execVisitNow c s
  | .takeDiscoveries c => Sys2Proof.Machine.execTakeDiscoveries c s
  | .clearDiscoveries c => Sys2Proof.Machine.execClearDiscoveries c s
  | .readFaults c => Sys2Proof.Machine.execReadFaults c s
  | .clearFaults c => Sys2Proof.Machine.execClearFaults c s
  | .startTap c => Sys2Proof.Machine.execStartTap c s
  | .extendTap c => Sys2Proof.Machine.execExtendTap c s
  | .stopTap c => Sys2Proof.Machine.execStopTap c s
  | .saveSettings c => Sys2Proof.Machine.execSaveSettings c s
  | .saveWriteDone good time => Sys2Proof.Machine.execSaveWriteDone good time s
  | .softRestart c => Sys2Proof.Machine.execSoftRestart c s
  | .hardRestart c => Sys2Proof.Machine.execHardRestart c s
  | .tunerAttemptDone port acknowledged time => Sys2Proof.Machine.execTunerAttemptDone port acknowledged time s
  | .attemptLimitExpiry port => Sys2Proof.Machine.execAttemptLimitExpiry port s
  | .retryGapExpiry port => Sys2Proof.Machine.execRetryGapExpiry port s
  | .sweepMarginArrival port lock => Sys2Proof.Machine.execSweepMarginArrival port lock s
  | .settleTimerExpiry port => Sys2Proof.Machine.execSettleTimerExpiry port s
  | .dwellTimerExpiry port => Sys2Proof.Machine.execDwellTimerExpiry port s
  | .surveyGrading d => Sys2Proof.Machine.execSurveyGrading d s
  | .surveyGradingComplete port => Sys2Proof.Machine.execSurveyGradingComplete port s
  | .directoryPacket port source packet => Sys2Proof.Machine.execDirectoryPacket port source packet s
  | .lossOfPower => Sys2Proof.Machine.execLossOfPower s
  | .startCompletion => Sys2Proof.Machine.execStartCompletion s
  | .commissionLineChange asserted time => Sys2Proof.Machine.execCommissionLineChange asserted time s
  | .unknownCommand r => Sys2Proof.Machine.execUnknownCommand r s

end Sys2Proof.Machine
end

