-- ==== Sys2Proof/Machine/Idle.lean ====
section
/-! DEFINITION. What the part does of its own accord when no command waits: the row it takes next, and the passing of
time when it has none (log 3). -/

namespace Sys2Proof.Machine

/-- Whether a timer has come to its end. -/
def due (now : Nat) (timer : Option Nat) : Bool := timer.any fun d => decide (d ≤ now)

/-- The expiry of a sweep port's timer, when it is due. -/
def dueVisit (now p : Nat) : Option Visit → List Instr
  | some ⟨_, _, .tuning _ (.attempt _ l)⟩ => if l ≤ now then [.attemptLimitExpiry p] else []
  | some ⟨_, _, .tuning _ (.gap g)⟩ => if g ≤ now then [.retryGapExpiry p] else []
  | some ⟨_, _, .settling d⟩ => if d ≤ now then [.settleTimerExpiry p] else []
  | some ⟨_, _, .dwelling d⟩ => if d ≤ now then [.dwellTimerExpiry p] else []
  | some ⟨_, _, .grading⟩ => []
  | none => []

/-- The timers that are due: those of the ports, of the armed switches, of the sweep ports, and the grading timer. -/
def dueTimers (s : State) : List Instr :=
  ((List.range 15).filter fun p => due s.now (s.port p).starvation).map .starvationTimerExpiry ++
    ((List.range 15).filter fun p => due s.now (s.port p).holdoverTimer).map .holdoverTimerExpiry ++
    ((s.serviceIndices.filter fun k => due s.now ((s.service k).armed.map Armed.timer)).map .waitTimerExpiry) ++
    dueVisit s.now 12 (s.sweepPort 12).visit ++ dueVisit s.now 13 (s.sweepPort 13).visit ++
    (if due s.now s.gradingTimer then [.gradingTimerExpiry] else [])

/-- Whether the head of the Pending Change List is to be taken (R39, R40). -/
def changeReady (s : State) : Bool := !s.changes.isEmpty && !s.headHeld

/-- Whether the waiting reply finds a place (R150). -/
def replyReady (s : State) : Bool := s.replyInHand.isSome && decide (0 < freeInserts s)

/-- Whether a report packet finds a place (R173). -/
def reportReady (s : State) : Bool :=
  !s.noticeQueue.isEmpty && decide ((if s.replyInHand.isSome then 1 else 0) < freeInserts s)

/-- The row the running part takes next: an arrival in flight, a posted change, a reply, a report, a command of the
Command Queue, a due timer, in this order (log 3). -/
def runningRow (s : State) : Option Instr :=
  match s.inFlight with
  | i :: _ => some i
  | [] =>
    if changeReady s then some .applyChange
    else if replyReady s then some .replyPlacement
    else if reportReady s then some .reportPlacement
    else match (if s.freeForCommand then s.commandQueue.head? else none) with
      | some r => some (commandInstr r)
      | none => (dueTimers s).head?

/-- The row the part takes next. -/
def ownRow (s : State) : Option Instr :=
  match s.phase with
  | .running => runningRow s
  | .starting => some .startCompletion
  | .off => none

/-- A millisecond passes. -/
def passTime (s : State) : State := { s with now := s.now + 1 }

/-- The step of the part when no command waits: its own row, or a millisecond of the time base (log 3). -/
def ownStep (s : State) : Answer :=
  match ownRow s with
  | some i => exec i s
  | none => .next (passTime s)

end Sys2Proof.Machine
end

