-- ==== Sys2Proof/WellFormed.lean ====
section
/-! DEFINITION. Well-formed commands: operands that name units the part has (00 sections 5 and 6) and records that a
packet can carry (10 section 10.9). -/

namespace Sys2Proof

/-- Ports 0 to 14. -/
def isPort (p : Nat) : Bool := decide (p < 15)

/-- Services 0 to 511, candidates 0 to 2,047, Sweep List entries 0 to 63, slots 0 to 7. -/
def isService (k : Nat) : Bool := decide (k < 512)
def isCandidate (c : Nat) : Bool := decide (c < 2048)
def isEntry (e : Nat) : Bool := decide (e < 64)
def isSlot (k : Nat) : Bool := decide (k < 8)

/-- The sweep ports 12 and 13. -/
def isSweep (p : Nat) : Bool := decide (p = 12 ∨ p = 13)

/-- A packet of 188 octets. -/
def isPacket (p : Packet) : Bool := decide (p.length = 188)

/-- A source a port may give: its own number, or for a sweep port none or the number of an entry (R1). -/
def isSourceOf (p : Nat) : Option Nat → Bool
  | none => isSweep p
  | some x => if isSweep p then decide (64 ≤ x ∧ x < 128) else x == p

/-- The gap a class may carry: 1 to 14 for GAP, 0 for every other (R25). -/
def gapSuits (cls : PacketClass) (gap : Nat) : Bool :=
  if cls = .gap then decide (1 ≤ gap ∧ gap ≤ 14) else gap == 0

def Measured.wf (m : Measured) : Bool := isCandidate m.candidate && isSlot m.slot && gapSuits m.cls m.gap

/-- A command record: a level in one octet and a body of at most 176 octets (R160). -/
def Cmd.wf (c : Cmd) : Bool := decide (c.level < 256) && decide (c.body.length ≤ 176)

/-- The operands of a notice lie in the octets that carry them (section 10.9). -/
def Notice.wf : Notice → Bool
  | .switched k b old new _ _ => isService k && decide (b < 65536) && old.all isCandidate && isCandidate new
  | .switchAbandoned k b t n => isService k && decide (b < 65536) && isCandidate t && decide (n < 256)
  | .dark k b => isService k && decide (b < 65536)
  | .restored k b => isService k && decide (b < 65536)
  | .quarantined c _ => isCandidate c
  | .quarantineEnded c => isCandidate c
  | .advisory k b c e g best =>
    isService k && decide (b < 65536) && isCandidate c && isEntry e && decide (g ≤ 1000) && best.all fun x => decide (x ≤ 1000)
  | .portOutage p => isPort p
  | .portRestored p n => isPort p && decide (n ≤ top32)
  | .visitFailed e p _ => isEntry e && isSweep p
  | .discovery n => decide (n ≤ 128)
  | .changeFailed _ t i _ => decide (t < 10) && decide (i < 2048)
  | .tapEnded m n _ => decide (m < 65536) && decide (n < 65536)
  | .saveDone _ _ => true
  | .fault k => decide (k < 8)

def FaultReport.wf : FaultReport → Bool
  | .tunerLink p e => isSweep p && isEntry e
  | .changeFailed _ t i => decide (t < 10) && decide (i < 2048)
  | .switchAbandoned k c => isService k && isCandidate c
  | .outputOverrun k => isService k
  | .commandOverflow | .noticeOverflow | .storeInvalid | .storeWrite => true

/-- Well-formed commands. -/
def Instr.wf : Instr → Bool
  | .powerOn | .resetLine | .startCompletion | .lossOfPower | .gradingTimerExpiry | .replyPlacement | .reportPlacement
  | .applyChange => true
  | .restartTakesEffect _ | .outputSlot _ | .commissionLineChange _ _ | .saveWriteDone _ _ => true
  | .syncSearchOctet p _ _ | .confirmBoundaryOctet p _ _ | .lockedBoundaryOctet p _ _ => isPort p
  | .starvationTimerExpiry p | .holdoverTimerExpiry p | .classifierLeftLocked p | .directoryLeftLocked p
  | .rankingOutageArrival p | .switchOutageArrival p | .rankingRestorationArrival p
  | .switchRestorationArrival p => isPort p
  | .packetAccepted p packet _ => isPort p && isPacket packet
  | .tapOffer p packet => isPort p && isPacket packet
  | .retuneRequest p | .attemptLimitExpiry p | .retryGapExpiry p | .settleTimerExpiry p | .dwellTimerExpiry p
  | .surveyGradingComplete p | .sweepOutageArrival p => isSweep p
  | .tunerAttemptDone p _ _ => isSweep p
  | .sweepMarginArrival p lock => isSweep p && decide (lock ≤ 2)
  | .classifyPacket p source _ packet => isPort p && isSourceOf p source && isPacket packet
  | .directoryPacket p source packet => isPort p && isSourceOf p (some source) && isPacket packet
  | .measurementArrival m => m.wf
  | .forwardAdmission k slot _ packet => isService k && isSlot slot && isPacket packet
  | .noticePost n _ => n.wf
  | .faultRecord f => f.wf
  | .serviceGraded k _ | .targetGraded k | .darkArrival k | .pinnedWithoutSelection k | .waitTimerExpiry k
  | .leftArmedArrival k => isService k
  | .surveyGraded k e => isService k && isEntry e
  | .directoryQuarantineRequest c => isCandidate c
  | .switchRequest k target _ => isService k && isCandidate target
  | .surveyGrading d => isSweep d.port && isEntry d.entry
  | .controlPacket packet => isPacket packet
  | .identify c | .readEntry c | .writeEntry c | .loadRun c | .probeAccess c | .closeInterval c | .pin c | .releasePin c
  | .quarantine c | .liftQuarantine c | .sweepHold c | .sweepResume c | .visitNow c | .takeDiscoveries c
  | .clearDiscoveries c | .readFaults c | .clearFaults c | .startTap c | .extendTap c | .stopTap c | .saveSettings c
  | .softRestart c | .hardRestart c => c.wf
  | .settingsWrite _ c | .portWrite _ c | .weightWrite _ c | .sweepWrite _ c | .serviceWrite _ c | .candidateWrite _ c
  | .countersWrite _ c => c.wf
  | .unknownCommand r => r.cmd.wf

end Sys2Proof
end

