-- ==== Sys2Proof/Safety.lean ====
section
/-! DEFINITION. What holds of every state a run reaches: the capacities of the queues and of the counters that stop,
the canonical form of the tables, which candidates a service ranks and which places of the Lane Map a candidate holds,
and the laws of the Fault Record, the Visit Queue, the tap and the Settings Store. -/

namespace Sys2Proof.Machine

/-- A port's counters and the sums of its margin readings stand at 2^32−1 at most (R13, R15). -/
abbrev Port.withinTop (v : Port) : Prop :=
  (v.counters.accepted ≤ top32 ∧ v.counters.syncLosses ≤ top32 ∧ v.counters.blips ≤ top32 ∧ v.counters.outages ≤ top32) ∧
    (v.counters.unclaimed ≤ top32 ∧ v.counters.badMargin ≤ top32 ∧ v.counters.crcFailures ≤ top32 ∧
      v.counters.discards ≤ top32) ∧ v.readings.corrected ≤ top32 ∧ v.readings.uncorrected ≤ top32

/-- A service's counters stand at 2^32−1 at most, its streak at 15 (R33, R84). -/
abbrev Service.withinTop (v : Service) : Prop :=
  v.switches ≤ top32 ∧ v.forcedCuts ≤ top32 ∧ v.abandoned ≤ top32 ∧ v.forwardDrops ≤ top32 ∧ v.streak ≤ 15

/-- A candidate's measured counts stand at 2^32−1 at most, its longest silence at 10,000 ms, its flap counter at 15
(R55 to R58, R87). -/
abbrev Candidate.withinTop (x : Candidate) : Prop :=
  x.measured.packets ≤ top32 ∧ x.measured.damaged ≤ top32 ∧ x.measured.gaps ≤ top32 ∧ x.measured.duplicates ≤ top32 ∧
    x.measured.silence ≤ 10000 ∧ x.flaps ≤ 15

/-- Every counter that stops is at its top at most (R15, R33, R55, R84, R87, R142, R158, R172). -/
def State.countersStop (s : State) : Prop :=
  s.noticeLoss ≤ 65535 ∧ s.discoveryOverflow ≤ top32 ∧ s.malformedControl ≤ top32 ∧ s.commandOverflow ≤ top32 ∧
    (∀ e ∈ s.ports, e.2.withinTop) ∧ (∀ e ∈ s.services, e.2.withinTop) ∧ (∀ e ∈ s.candidates, e.2.withinTop) ∧
    ∀ d ∈ s.discoveries, d.times ≤ 255

/-- The capacities of 00 section 6 and the counters that stop (R38, R120, R142, R149, R150, R158, R172). -/
def State.withinCapacity (s : State) : Prop :=
  s.changes.length ≤ 32 ∧ s.visitQueue.length ≤ 8 ∧ s.discoveries.length ≤ 128 ∧ s.forwardQueue.length ≤ 256 ∧
    s.insertQueue.length ≤ 16 ∧ tapCopies s ≤ 12 ∧ s.commandQueue.length ≤ 8 ∧ s.noticeQueue.length ≤ 64 ∧
    s.countersStop

/-- Every table of an image in its canonical form. -/
def Image.canonical (i : Image) : Prop :=
  Table.wf PortConfig.default i.ports ∧ Table.wf WeightSet.default i.weights ∧ Table.wf SweepConfig.default i.sweep ∧
    Table.wf ServiceSaved.default i.services ∧ Table.wf (fun _ => CandidateConfig.free) i.candidates

/-- Every table of the part in its canonical form, so that equal tables are equal data. -/
def State.canonical (s : State) : Prop :=
  Table.wf Port.default s.ports ∧ Table.wf (fun _ => none) s.laneMap ∧ Table.wf Service.default s.services ∧
    Table.wf Candidate.default s.candidates ∧ Table.wf WeightSet.default s.weights ∧
    Table.wf SweepEntry.default s.sweepList ∧ Table.wf SweepPort.default s.sweepPorts ∧
    Table.wf DirContext.default s.contexts ∧ Table.wf (fun _ => none) s.snapshots ∧ s.store.image.canonical ∧
    ∀ i, s.save = some i → i.canonical

/-! ### Membership of services and places of the Lane Map -/

/-- What an image says of services and candidates: a candidate that is not FREE has a source and an owner that is not
UNUSED, a FREE one has no lanes (R34, R42), a service has at most 6 candidates (R45), and the lanes of all candidates fit
the Lane Map (R22). -/
def Image.placed (i : Image) : Prop :=
  (∀ e ∈ i.candidates, e.2.state ≠ .free → e.2.source ≠ none ∧
    ∃ k, e.2.owner = some k ∧ (Table.get ServiceSaved.default i.services k).cfg.state ≠ .unused) ∧
  (∀ e ∈ i.candidates, e.2.state = .free → e.2.lanes = []) ∧
  (∀ k, (loadedRank i k).length ≤ 6) ∧ (i.candidates.map fun e => e.2.lanes.length).sum ≤ 4096

/-- A rank order holds the candidates that are not FREE and whose owner the service is, each once, in at most 6 places
(R45, R46, R81). -/
def State.ranksLaw (s : State) : Prop :=
  ∀ k, (s.service k).rank.Nodup ∧ (s.service k).rank.length ≤ 6 ∧
    ∀ c, c ∈ (s.service k).rank ↔ (s.candidate c).cfg.state ≠ .free ∧ (s.candidate c).cfg.owner = some k

/-- The selection and the pending target of a service are members of its rank order (R47, R98, R40). -/
def State.selectionLaw (s : State) : Prop :=
  (∀ k c, (s.service k).selected = some c → c ∈ (s.service k).rank) ∧
  (∀ k a, (s.service k).armed = some a → a.target ∈ (s.service k).rank)

/-- The Lane Map has at most 4,096 entries, as many of each candidate as its lane list has lanes (R22, R24). -/
def State.laneMapLaw (s : State) : Prop :=
  s.laneMap.length ≤ 4096 ∧
  ∀ c, (s.laneMap.filter fun e => placeOf c e.2).length = (s.candidate c).cfg.lanes.length

/-- The laws of membership, of the applied tables and of the images (R22, R24, R34, R42, R45 to R47). -/
def State.placed (s : State) : Prop :=
  (∀ c, (s.candidate c).cfg.state ≠ .free → (s.candidate c).cfg.source ≠ none ∧
    ∃ k, (s.candidate c).cfg.owner = some k ∧ (s.service k).cfg.state ≠ .unused) ∧
  (∀ c, (s.candidate c).cfg.state = .free → (s.candidate c).cfg.lanes = []) ∧
  s.ranksLaw ∧ s.selectionLaw ∧ s.laneMapLaw ∧ s.store.image.placed ∧ ∀ i, s.save = some i → i.placed

/-! ### Records, queues, store -/

/-- While the Fault Record is locked, it is filled and its kind is in the Fault Summary; while it is unlocked, its lost
flag is clear (R174, R176). -/
def State.faultLaw (s : State) : Prop :=
  if s.faultRecord.locked then ∃ e, s.faultRecord.entry = some e ∧ s.faultSummary.getLsbD (faultCode e.fault) = true
  else s.faultRecord.lost = false

/-- No entry stands in the Visit Queue twice (R120). -/
def State.visitLaw (s : State) : Prop := s.visitQueue.Nodup

/-- A tap that runs has made fewer copies than its stop count, and a stop count never passes 65,535 (R153 to R155). -/
def State.tapLaw (s : State) : Prop :=
  (s.tap.running = true → s.tap.made < s.tap.stop) ∧ s.tap.stop ≤ 65535 ∧ s.tap.skipped ≤ 65535

/-- While a save is in progress the stored image is not valid (R169). -/
def State.saveLaw (s : State) : Prop := s.save.isSome = true → s.store.valid = false

/-- An image whose last write ended with a successful read-back has the CRC-32 over it (R168, R169). -/
def State.storeLaw (s : State) : Prop := s.store.readBack = true → s.store.crc = imageCrc s.store.image

/-! ### The conditions of a command -/

/-- The Management Unit can take a command at once: the part runs, the Command Queue is empty and no command is in
hand (R159). -/
def State.takesCommand (s : State) : Prop :=
  s.phase = .running ∧ s.commandQueue = [] ∧ s.replyInHand = none ∧ s.restart = none

/-- A level meets the ceiling of the COMMISSION line and a command's own requirement (R161). -/
def State.admitsLevel (s : State) (level most : Nat) : Prop :=
  level ≤ most ∧ level ≤ 3 ∧ (s.commission = true ∨ level ≠ 0)

/-- The state with a DONE or ACCEPTED reply in hand (R162). -/
def State.replies (s : State) (c : Cmd) (code : Byte) (outcome : ReplyOutcome) (body : List Byte) : State :=
  { s with replyInHand := some ⟨c.tag, code, outcome, .none, body⟩ }

/-- The state with a refusal in hand, and nothing else changed (R160, R162). -/
def State.refuses (s : State) (c : Cmd) (code : Byte) (why : Reason) : State :=
  { s with replyInHand := some ⟨c.tag, code, .refused, why, []⟩ }

/-- The rows that act on a part that is not running: power, lines, the completion of a start and the output slot. -/
def actsWhenStopped : Instr → Bool
  | .powerOn | .resetLine | .startCompletion | .lossOfPower | .commissionLineChange _ _ | .outputSlot _ => true
  | _ => false

end Sys2Proof.Machine
end

