-- ==== Sys2Proof/Certificates/Slice0/Obligations.lean ====
section
/-! DEFINITION. The statements for the provers, in the order of OBLIGATIONS.json. -/

open Sys2Proof Sys2Proof.Machine

/-! ### The machine -/

/-- A step takes the command at the front of the queue and runs its meaning on the rest (log 3 for the empty queue). -/
def Obligations.StepRunsFrontCommand : Prop :=
  ∀ (c : Instr) (rest : List Instr) (s : State), step { s with pending := c :: rest } = exec c { s with pending := rest }

/-- No command touches the queue of waiting commands. -/
def Obligations.ExecKeepsQueue : Prop :=
  ∀ (i : Instr) (s t : State), exec i s = .next t → t.pending = s.pending

/-- A well-formed command runs in every state, no command is refused, and every row that acts on a port, a sweep port, a
service, a candidate, a Sweep List entry or a slot, or carries a packet, stops under the name of what the part does not
have (log 7). -/
def Obligations.WellFormedCommandsRun : Prop :=
  (∀ (i : Instr) (s : State), i.wf = true → ∃ t, exec i s = .next t) ∧
  (∀ (i : Instr) (s : State) (r : Refusal), exec i s ≠ .refused r) ∧
  (∀ (s : State) (p x time : Nat) (o : Byte) (packet : Packet) (source : Option Nat), 15 ≤ p → ∀ i ∈ ([
      .syncSearchOctet p o time, .confirmBoundaryOctet p o time, .lockedBoundaryOctet p o time, .starvationTimerExpiry p,
      .holdoverTimerExpiry p, .packetAccepted p packet time, .classifyPacket p source time packet, .classifierLeftLocked p,
      .directoryLeftLocked p, .tapOffer p packet, .directoryPacket p x packet, .rankingOutageArrival p,
      .switchOutageArrival p, .rankingRestorationArrival p, .switchRestorationArrival p] : List Instr),
    exec i s = .fault .noSuchPort) ∧
  (∀ (s : State) (p lock time : Nat) (b : Bool) (d : DwellEnd), p ≠ 12 → p ≠ 13 → ∀ i ∈ ([
      .retuneRequest p, .tunerAttemptDone p b time, .attemptLimitExpiry p, .retryGapExpiry p, .sweepMarginArrival p lock,
      .settleTimerExpiry p, .dwellTimerExpiry p, .surveyGrading { d with port := p }, .surveyGradingComplete p,
      .sweepOutageArrival p] : List Instr),
    exec i s = .fault .noSuchSweepPort) ∧
  (∀ (s : State) (k x j : Nat) (n : BitVec 32) (cause : SwitchCause) (b : Bool) (packet : Packet), 512 ≤ k → ∀ i ∈ ([
      .serviceGraded k n, .surveyGraded k x, .targetGraded k, .darkArrival k, .switchRequest k x cause,
      .pinnedWithoutSelection k, .waitTimerExpiry k, .leftArmedArrival k, .forwardAdmission k j b packet] : List Instr),
    exec i s = .fault .noSuchService) ∧
  (∀ (s : State) (c k : Nat) (cause : SwitchCause) (m : Measured), 2048 ≤ c → k < 512 → ∀ i ∈ ([
      .directoryQuarantineRequest c, .switchRequest k c cause, .measurementArrival { m with candidate := c }] : List Instr),
    exec i s = .fault .noSuchCandidate) ∧
  (∀ (s : State) (k e : Nat) (d : DwellEnd), 64 ≤ e → (k < 512 → exec (.surveyGraded k e) s = .fault .noSuchSweepEntry) ∧
    (d.port = 12 ∨ d.port = 13 → exec (.surveyGrading { d with entry := e }) s = .fault .noSuchSweepEntry)) ∧
  (∀ (s : State) (k j : Nat) (b : Bool) (packet : Packet) (m : Measured), 8 ≤ j →
    (k < 512 → exec (.forwardAdmission k j b packet) s = .fault .noSuchSlot) ∧
    (m.candidate < 2048 → exec (.measurementArrival { m with slot := j }) s = .fault .noSuchSlot)) ∧
  (∀ (s : State) (p x time k j : Nat) (b : Bool) (packet : Packet) (source : Option Nat), p < 15 → k < 512 → j < 8 →
    packet.length ≠ 188 → ∀ i ∈ ([
      .packetAccepted p packet time, .classifyPacket p source time packet, .tapOffer p packet, .directoryPacket p x packet,
      .forwardAdmission k j b packet, .controlPacket packet] : List Instr),
    exec i s = .fault .notAPacket)

/-- The state right after reset obeys every law of Safety.lean. -/
def Obligations.ResetObeysLaws : Prop :=
  State.reset.withinCapacity ∧ State.reset.canonical ∧ State.reset.placed ∧ State.reset.faultLaw ∧ State.reset.visitLaw ∧
    State.reset.tapLaw ∧ State.reset.saveLaw ∧ State.reset.storeLaw

/-- Every step keeps the queues within their capacities and the counters that stop at their tops; and, with the tables in
their canonical form, the laws of membership: a rank order lists the service's candidates in at most six places, the
selection and the pending target are among them, and the Lane Map has at most 4,096 entries, one for each lane of a
candidate (R22, R24, R42, R45 to R47). -/
def Obligations.CapacityKept : Prop :=
  (∀ (s t : State), s.withinCapacity → step s = .next t → t.withinCapacity) ∧
  (∀ (s t : State), s.canonical → s.placed → step s = .next t → t.placed)

/-- Every step keeps every table in its canonical form. -/
def Obligations.CanonicalKept : Prop :=
  ∀ (s t : State), s.canonical → step s = .next t → t.canonical

/-- Every step keeps the laws of the Fault Record (while it is locked, its kind is in the Fault Summary), of the Visit
Queue, of the tap, of the save and of the store (an image good by its read-back carries the CRC-32 over it). -/
def Obligations.RecordLawsKept : Prop :=
  ∀ (s t : State), step s = .next t → (s.faultLaw → t.faultLaw) ∧ (s.visitLaw → t.visitLaw) ∧ (s.tapLaw → t.tapLaw) ∧
    (s.saveLaw → t.saveLaw) ∧ (s.storeLaw → t.storeLaw)

/-- An event of a part that is not running changes nothing (log 5); a loss of power leaves the Settings Store and takes
the rest; the COMMISSION line follows its change in every phase. -/
def Obligations.PartNotRunning : Prop :=
  (∀ (i : Instr) (s : State), s.phase ≠ .running → i.wf = true → actsWhenStopped i = false → exec i s = .next s) ∧
  (∀ s : State, ∃ t, exec .lossOfPower s = .next t ∧ t.phase = .off ∧ t.store = s.store ∧ t.save = none ∧
    (s.saveLaw → s.save.isSome = true → t.store.valid = false) ∧ t.commandQueue = [] ∧ t.noticeQueue = [] ∧
    t.forwardQueue = [] ∧ t.insertQueue = [] ∧ t.inFlight = [] ∧ t.pending = s.pending) ∧
  (∀ (s : State) (b : Bool) (time : Nat),
    exec (.commissionLineChange b time) s = .next { s with now := max s.now time, commission := b })

/-! ### Starts -/

/-- POWER_ON, and RESET_LINE with power, load every table from a valid image and take every default from an invalid one,
with every queue, timer, counter and measured field empty or 0, the rank orders by ascending index, the Lane Map rebuilt,
and, from an invalid image, STORE INVALID recorded. -/
def Obligations.StartLoadsImage : Prop :=
  ∀ s : State, s.canonical → ∃ t,
    exec .powerOn s = .next t ∧ (s.phase ≠ .off → exec .resetLine s = .next t) ∧
    (let i := if s.store.valid then s.store.image else Image.defaults
     let lanes : List LaneEntry := i.candidates.flatMap fun e => e.2.source.toList.flatMap fun x =>
       e.2.lanes.zipIdx.map fun l => LaneEntry.mk x l.1 e.1 l.2 none
     t.phase = .starting ∧ t.store = s.store ∧ t.save = none ∧ t.settings = i.settings ∧
     t.generation = (if s.store.valid then s.store.image.generation else 0) ∧ t.weights = i.weights ∧
     (∀ p < 15, (t.port p).cfg = Table.get PortConfig.default i.ports p ∧ (t.port p).state = .disabled ∧
       (t.port p).outage = false ∧ (t.port p).lossStart = none ∧ (t.port p).starvation = none ∧
       (t.port p).holdoverTimer = none ∧ (t.port p).confirm = 0 ∧ (t.port p).badSync = 0 ∧
       (t.port p).counters = ⟨0, 0, 0, 0, 0, 0, 0, 0⟩ ∧ (t.port p).held = none ∧ (t.port p).given = none ∧
       (t.port p).readings = ⟨none, 0, 0, false⟩ ∧ (t.port p).lastMarginSeq = none) ∧
     (∀ k, (t.service k).cfg = (Table.get ServiceSaved.default i.services k).cfg ∧
       (t.service k).pinned = (Table.get ServiceSaved.default i.services k).pinned ∧ (t.service k).selected = none ∧
       (t.service k).armed = none ∧ (t.service k).attempts = 0 ∧ (t.service k).challenger = none ∧
       (t.service k).streak = 0 ∧ (t.service k).dark = false ∧ (t.service k).advisory = none ∧
       (t.service k).switches = 0 ∧ (t.service k).forcedCuts = 0 ∧ (t.service k).abandoned = 0 ∧
       (t.service k).forwardDrops = 0 ∧ (t.service k).slotCounters = List.replicate 8 0 ∧
       (t.service k).rank.Pairwise (· < ·) ∧ (i.placed → ∀ c, c ∈ (t.service k).rank ↔
         (t.candidate c).cfg.state ≠ .free ∧ (t.candidate c).cfg.owner = some k)) ∧
     (∀ c, ∃ n, t.candidate c = ⟨Table.get (fun _ => CandidateConfig.free) i.candidates c, 0, 0, false, none, .unchecked, 0,
         ⟨0, 0, 0, 0, 0, n⟩, none, false, false⟩ ∧ ((t.candidate c).cfg.state ≠ .free → n = s.now)) ∧
     (∀ e, (t.sweepEntry e).cfg = Table.get SweepConfig.default i.sweep e ∧ (t.sweepEntry e).lastVisit = none ∧
       (t.sweepEntry e).lastOutcome = .notVisited ∧ (t.sweepEntry e).held = none) ∧
     (∀ j, t.lanePlace j = lanes[j]?) ∧ (∀ p, t.dirContext p = ⟨none, none, .none, ⟨none, []⟩⟩) ∧
     t.changes = [] ∧ t.headHeld = false ∧ t.visitQueue = [] ∧ t.sweepPorts = [] ∧ t.snapshots = [] ∧ t.discoveries = [] ∧
     t.discoveryOverflow = 0 ∧ t.forwardQueue = [] ∧ t.insertQueue = [] ∧ t.reportCounter = 0 ∧ t.tapCounter = 0 ∧
     t.commandQueue = [] ∧ t.replyInHand = none ∧ t.restart = none ∧ t.inFlight = [] ∧ t.gradingTimer = none ∧
     t.tap = ⟨false, 0, none, 1, 0, 0⟩ ∧ t.malformedControl = 0 ∧ t.commandOverflow = 0 ∧ t.noticeLoss = 0 ∧
     (s.store.valid = true → t.noticeQueue = [] ∧ t.faultSummary = 0 ∧ t.faultRecord = ⟨false, false, none⟩) ∧
     (s.store.valid = false → t.noticeQueue = [⟨.fault 6, ⟨0, 0⟩⟩] ∧ t.faultSummary = 0x40 ∧
       t.faultRecord = ⟨true, false, some ⟨.storeInvalid, 0⟩⟩))

/-- At the slot that sends the reply to a restart command the packet leaves and the part restarts; OUTPUT_SLOT and
RESTART_TAKES_EFFECT are the same event there (log 12). A SOFT RESTART keeps the Discovery Log, the overflow counts
and, from a valid image, the faults; a HARD RESTART keeps none. -/
def Obligations.RestartAtItsReply : Prop :=
  ∀ (s : State) (i : Insert) (rest : List Insert) (kind : RestartKind) (time : Nat),
    s.phase = .running → s.insertQueue = i :: rest → i.kind = .restartReply → (32 ≤ i.age ∨ s.forwardQueue = []) →
    s.restart = some kind →
    ∃ t, exec (.outputSlot time) s = .next t ∧ exec (.restartTakesEffect time) s = .next t ∧
      t.outputLink = i.packet ∧ t.phase = .starting ∧ t.insertQueue = [] ∧ t.forwardQueue = [] ∧ t.commandQueue = [] ∧
      t.restart = none ∧ t.malformedControl = 0 ∧
      (kind = .soft → t.discoveries = s.discoveries ∧ t.discoveryOverflow = s.discoveryOverflow ∧
        t.commandOverflow = s.commandOverflow ∧
        (s.store.valid = true → t.faultSummary = s.faultSummary ∧ t.faultRecord = s.faultRecord ∧
          t.noticeLoss = s.noticeLoss ∧ t.noticeQueue = [])) ∧
      (kind = .hard → t.discoveries = [] ∧ t.discoveryOverflow = 0 ∧ t.commandOverflow = 0 ∧ t.noticeLoss = 0 ∧
        (s.store.valid = true → t.faultSummary = 0 ∧ t.faultRecord = ⟨false, false, none⟩))

/-- The completion of a start: the part runs, the ports enter SEEKING or DISABLED, the feed contexts with the check on
collect, interval 0 begins with its timer, the sweep ports choose their first entries, SP0 first (R133), the pinned ACTIVE
services are taken up (R113, R116), and the tables stay as loaded. -/
def Obligations.StartCompletes : Prop :=
  ∀ s : State, s.phase = .starting → s.canonical → ∃ t,
    exec .startCompletion s = .next t ∧ t.phase = .running ∧ t.now = s.now ∧ t.intervalNumber = 0 ∧
    t.intervalStart = s.now ∧ t.intervalLength = s.settings.gradingInterval ∧
    t.gradingTimer = some (s.now + s.settings.gradingInterval) ∧
    (∀ p, t.port p = { s.port p with state := if (s.port p).cfg.enable then .seeking else .disabled }) ∧
    (∀ p < 12, t.dirContext p = ⟨if (s.port p).cfg.dirCheck then some p else none, none, .none, ⟨none, []⟩⟩) ∧
    (∀ c, (s.candidate c).cfg.state ≠ .free →
      t.candidate c = { s.candidate c with measured := ⟨0, 0, 0, 0, 0, s.now⟩ }) ∧
    (∀ k, (t.service k).cfg = (s.service k).cfg ∧ (t.service k).selected = (s.service k).selected ∧
      (t.service k).rank = (s.service k).rank) ∧
    (∀ k c, (s.service k).cfg.state = .active → (s.service k).armed = none → (s.service k).selected = none →
      (s.service k).pinned = some c →
      (c ∈ (s.service k).rank ∧ s.isReady c = true ∧ s.inOutage c = false → t.service k = { s.service k with
        armed := some ⟨c, .pin, s.now + (s.service k).cfg.cleanWait⟩, attempts := 0 }) ∧
      (¬(c ∈ (s.service k).rank ∧ s.isReady c = true ∧ s.inOutage c = false) →
        t.service k = { s.service k with pinned := none })) ∧
    (∀ k, (s.service k).cfg.state ≠ .active ∨ (s.service k).pinned = none ∨ (s.service k).armed ≠ none ∨
      (s.service k).selected ≠ none → t.service k = s.service k) ∧
    (s.sweepPorts = [] → s.visitQueue = [] →
      let offered (p e : Nat) : Prop := e < 64 ∧ (s.sweepEntry e).cfg.state = .enabled ∧
        ((s.sweepEntry e).cfg.affinity = .any ∨ ((s.sweepEntry e).cfg.affinity = .sp0 ∧ p = 12) ∨
          ((s.sweepEntry e).cfg.affinity = .sp1 ∧ p = 13))
      let begun (p e : Nat) : SweepPort := ⟨some ⟨e, false, .tuning 1 (.attempt (be8 (2 * (s.port p).cfg.tunerAddr) ++
        be32 (s.sweepEntry e).cfg.frequency ++ be8 (s.sweepEntry e).cfg.profile) (s.now + 2))⟩, 0, false⟩
      (∀ e, (s.port 12).cfg.enable = true → offered 12 e → (∀ d < e, ¬offered 12 d) → t.sweepPort 12 = begun 12 e) ∧
      ((s.port 12).cfg.enable = false ∨ (∀ e, ¬offered 12 e) → t.sweepPort 12 = ⟨none, 0, false⟩) ∧
      (∀ e, (s.port 13).cfg.enable = true → offered 13 e → t.visiting 12 ≠ some e →
        (∀ d < e, offered 13 d → t.visiting 12 = some d) → t.sweepPort 13 = begun 13 e) ∧
      ((s.port 13).cfg.enable = false ∨ (∀ e, offered 13 e → t.visiting 12 = some e) →
        t.sweepPort 13 = ⟨none, 0, false⟩)) ∧
    t.settings = s.settings ∧ t.store = s.store ∧ t.noticeQueue = s.noticeQueue ∧ t.faultSummary = s.faultSummary ∧
    t.inFlight = s.inFlight

/-! ### Ports -/

/-- The search for a sync octet and the first two boundaries of a confirmation (R5, R8). -/
def Obligations.SearchAndConfirm : Prop :=
  ∀ (s : State) (p time : Nat) (o : Byte), s.phase = .running → p < 15 →
    let v := s.port p
    let at10 := some (max s.now time + 10)
    (v.state = .seeking → exec (.syncSearchOctet p 0x47 time) s =
      .next ((s.atTime time).setPort p { v with state := .confirming, confirm := 1, starvation := at10 })) ∧
    (v.state = .holdover → v.confirm = 0 → exec (.syncSearchOctet p 0x47 time) s =
      .next ((s.atTime time).setPort p { v with confirm := 1, starvation := at10 })) ∧
    (o ≠ 0x47 → exec (.syncSearchOctet p o time) s = .next (s.atTime time)) ∧
    (v.state = .disabled ∨ v.state = .confirming ∨ v.state = .locked →
      exec (.syncSearchOctet p o time) s = .next (s.atTime time)) ∧
    (v.state = .confirming → v.confirm = 1 → exec (.confirmBoundaryOctet p 0x47 time) s =
      .next ((s.atTime time).setPort p { v with confirm := 2, starvation := at10 })) ∧
    (v.state = .holdover → v.confirm = 1 → exec (.confirmBoundaryOctet p 0x47 time) s =
      .next ((s.atTime time).setPort p { v with confirm := 2, starvation := at10 })) ∧
    (v.state = .confirming → o ≠ 0x47 → exec (.confirmBoundaryOctet p o time) s =
      .next ((s.atTime time).setPort p { v with state := .seeking, confirm := 0, starvation := none })) ∧
    (v.state = .holdover → v.confirm ≠ 0 → o ≠ 0x47 → exec (.confirmBoundaryOctet p o time) s =
      .next ((s.atTime time).setPort p { v with confirm := 0, starvation := none }))

/-- The third good sync octet: the port enters LOCKED; an outage in force ends with its restoration arrivals and notice on
a port other than the sweep ports; a hunt in HOLDOVER counts a blip (R5, R8, R10, R11). The restart of the starvation
timer at this octet is the model's choice (log 38). -/
def Obligations.ThirdSyncOctetLocks : Prop :=
  ∀ (s : State) (p time : Nat), s.phase = .running → p < 15 →
    let v := s.port p
    let now := max s.now time
    let w : Port := { v with state := .locked, confirm := 0, badSync := 0, starvation := some (now + 10),
                             holdoverTimer := none, outage := false, lossStart := none }
    (v.state = .confirming → v.confirm = 2 → v.outage = false →
      exec (.confirmBoundaryOctet p 0x47 time) s = .next ((s.atTime time).setPort p w)) ∧
    (v.state = .confirming → v.confirm = 2 → v.outage = true → p = 12 ∨ p = 13 →
      exec (.confirmBoundaryOctet p 0x47 time) s = .next ((s.atTime time).setPort p w)) ∧
    (∀ d, v.state = .confirming → v.confirm = 2 → v.outage = true → p ≠ 12 → p ≠ 13 → v.lossStart = some d →
      exec (.confirmBoundaryOctet p 0x47 time) s =
        .next ((((s.atTime time).setPort p w).send [.rankingRestorationArrival p, .switchRestorationArrival p]).post
          (.portRestored p (min (now - d) 0xFFFFFFFF)))) ∧
    (v.state = .holdover → v.confirm = 2 → v.outage = false →
      exec (.confirmBoundaryOctet p 0x47 time) s = .next ((s.atTime time).setPort p
        { w with counters := { v.counters with blips := min 0xFFFFFFFF (v.counters.blips + 1) } }))

/-- The boundary octets of LOCKED, and a loss of sync by the third bad one or by the starvation timer (R6). -/
def Obligations.LockedBoundariesAndLoss : Prop :=
  ∀ (s : State) (p time d : Nat) (o : Byte), s.phase = .running → p < 15 →
    let v := s.port p
    let lost (now : Nat) : State → State := fun u =>
      (u.setPort p { v with
        state := .holdover, confirm := 0, badSync := 0, starvation := none, lossStart := some now
        holdoverTimer := some (now + v.cfg.holdover)
        counters := { v.counters with syncLosses := min 0xFFFFFFFF (v.counters.syncLosses + 1) } }).send
          [.classifierLeftLocked p, .directoryLeftLocked p]
    (v.state = .locked → exec (.lockedBoundaryOctet p 0x47 time) s =
      .next ((s.atTime time).setPort p { v with badSync := 0, starvation := some (max s.now time + 10) })) ∧
    (v.state = .locked → o ≠ 0x47 → v.badSync < 2 → exec (.lockedBoundaryOctet p o time) s =
      .next ((s.atTime time).setPort p { v with badSync := v.badSync + 1, starvation := some (max s.now time + 10) })) ∧
    (v.state = .locked → o ≠ 0x47 → 2 ≤ v.badSync → 1 ≤ v.cfg.holdover →
      exec (.lockedBoundaryOctet p o time) s = .next (lost (max s.now time) (s.atTime time))) ∧
    (v.state = .locked → v.starvation = some d → 1 ≤ v.cfg.holdover →
      exec (.starvationTimerExpiry p) s = .next (lost (max s.now d) (s.atTime d))) ∧
    (v.state = .confirming → v.starvation = some d → exec (.starvationTimerExpiry p) s =
      .next ((s.atTime d).setPort p { v with state := .seeking, confirm := 0, starvation := none })) ∧
    (v.state = .holdover → v.starvation = some d → exec (.starvationTimerExpiry p) s =
      .next ((s.atTime d).setPort p { v with confirm := 0, starvation := none })) ∧
    (v.state ≠ .locked → exec (.lockedBoundaryOctet p o time) s = .next (s.atTime time)) ∧
    (v.starvation = none → exec (.starvationTimerExpiry p) s = .next s)

/-- The expiry of the holdover timer makes the loss an outage, and so does a loss of sync with holdover limit 0, by the
third bad octet or by starvation: the left-LOCKED arrivals leave first, then those of the outage (R6, R9, R11). -/
def Obligations.LossBecomesOutage : Prop :=
  ∀ (s : State) (p d time : Nat) (o : Byte), s.phase = .running → p < 15 →
    let v := s.port p
    let out : Port := { v with state := .seeking, confirm := 0, starvation := none, holdoverTimer := none, outage := true,
                               counters := { v.counters with outages := min 0xFFFFFFFF (v.counters.outages + 1) } }
    let lost (now : Nat) : Port := { out with
      badSync := 0, lossStart := some now
      counters := { out.counters with syncLosses := min 0xFFFFFFFF (v.counters.syncLosses + 1) } }
    let left : List Instr := [.classifierLeftLocked p, .directoryLeftLocked p]
    let ends (row : Instr) (u : State) (now : Nat) : Prop :=
      (p ≠ 12 → p ≠ 13 → exec row s = .next (((u.setPort p (lost now)).send
        (left ++ [.rankingOutageArrival p, .switchOutageArrival p])).post (.portOutage p))) ∧
      (p = 12 ∨ p = 13 → exec row s = .next ((u.setPort p (lost now)).send (left ++ [.sweepOutageArrival p])))
    (v.holdoverTimer = some d → p ≠ 12 → p ≠ 13 → exec (.holdoverTimerExpiry p) s =
      .next ((((s.atTime d).setPort p out).send [.rankingOutageArrival p, .switchOutageArrival p]).post (.portOutage p))) ∧
    (v.holdoverTimer = some d → p = 12 ∨ p = 13 → exec (.holdoverTimerExpiry p) s =
      .next (((s.atTime d).setPort p out).send [.sweepOutageArrival p])) ∧
    (v.holdoverTimer = none → exec (.holdoverTimerExpiry p) s = .next s) ∧
    (v.state = .locked → o ≠ 0x47 → 2 ≤ v.badSync → v.cfg.holdover = 0 →
      ends (.lockedBoundaryOctet p o time) (s.atTime time) (max s.now time)) ∧
    (v.state = .locked → v.starvation = some d → v.cfg.holdover = 0 →
      ends (.starvationTimerExpiry p) (s.atTime d) (max s.now d))

/-- An accepted packet (R7, R12, R13): counted, offered to a tap that runs on the port, read as a margin packet or handed
to the Classifier with the source the port gives; a damaged or payload-less margin packet and a repeat are counted as
accepted only; a valid margin packet of a sweep port makes its margin arrival; null packets and packets outside LOCKED or
begun at a bad sync octet are not accepted. -/
def Obligations.PacketAcceptance : Prop :=
  ∀ (s : State) (p time : Nat) (packet : Packet), s.phase = .running → p < 15 → packet.length = 188 →
    let v := s.port p
    let f := marginFields packet
    let counted := { v.counters with accepted := min 0xFFFFFFFF (v.counters.accepted + 1) }
    let offered : List Instr := if s.tap.running = true ∧ s.tap.port = p then [.tapOffer p packet] else []
    let leaves (w : Port) (l : List Instr) : Prop :=
      exec (.packetAccepted p packet time) s = .next (((s.atTime time).setPort p w).send (offered ++ l))
    let whole : Prop := v.state = .locked ∧ v.badSync = 0 ∧ laneOf packet ≠ 8191
    let margin : Prop := whole ∧ v.cfg.marginLane = some (laneOf packet)
    let read : Port := { v with
      counters := counted
      lastMarginSeq := some f.seq
      readings :=
        { lowest := some (match v.readings.lowest with | none => f.margin | some m => min m f.margin)
          corrected := min 0xFFFFFFFF (v.readings.corrected + f.corrected)
          uncorrected := min 0xFFFFFFFF (v.readings.uncorrected + f.uncorrected)
          belowFull := v.readings.belowFull || decide (f.lock < 2) } }
    (v.state ≠ .locked ∨ v.badSync ≠ 0 ∨ laneOf packet = 8191 →
      exec (.packetAccepted p packet time) s = .next (s.atTime time)) ∧
    (whole → v.cfg.marginLane ≠ some (laneOf packet) →
      leaves { v with counters := counted } [.classifyPacket p (s.sourceOfPort p) (max s.now time) packet]) ∧
    (margin → isDamaged packet = true ∨ saysNoPayload packet = true → leaves { v with counters := counted } []) ∧
    (margin → isDamaged packet = false → saysNoPayload packet = false → f.tag ≠ 0xA5 ∨ 2 < f.lock →
      leaves { v with counters := { counted with badMargin := min 0xFFFFFFFF (v.counters.badMargin + 1) } } []) ∧
    (margin → isDamaged packet = false → saysNoPayload packet = false → f.tag = 0xA5 → f.lock ≤ 2 →
      v.lastMarginSeq = some f.seq → leaves { v with counters := counted } []) ∧
    (margin → isDamaged packet = false → saysNoPayload packet = false → f.tag = 0xA5 → f.lock ≤ 2 →
      v.lastMarginSeq ≠ some f.seq →
      (p ≠ 12 → p ≠ 13 → leaves read []) ∧ (p = 12 ∨ p = 13 → leaves read [.sweepMarginArrival p f.lock]))

/-- The retune request restarts a sweep port and clears its outage; a left-LOCKED arrival resets the sequence state of the
port's source in the Lane Map, and drops the section in hand of the port's directory context (R4, R11, R26, R134). -/
def Obligations.RetuneAndLeftLocked : Prop :=
  (∀ (s : State) (p : Nat), s.phase = .running → p = 12 ∨ p = 13 →
    let v := s.port p
    let w : Port := { v with
      state := if v.cfg.enable then .seeking else .disabled
      confirm := 0, badSync := 0, starvation := none, holdoverTimer := none, outage := false, lossStart := none
      readings := ⟨none, 0, 0, false⟩, lastMarginSeq := none }
    exec (.retuneRequest p) s = .next (((s.take (.retuneRequest p)).setPort p w).send
      (if v.state = .locked ∨ v.state = .holdover then [.classifierLeftLocked p, .directoryLeftLocked p] else []))) ∧
  (∀ (s : State) (p x : Nat), s.phase = .running → p < 15 → s.canonical → s.sourceOfPort p = some x → ∃ t,
    exec (.classifierLeftLocked p) s = .next t ∧
    t = { s with laneMap := t.laneMap, inFlight := s.inFlight.erase (.classifierLeftLocked p) } ∧
    ∀ i, t.lanePlace i = (s.lanePlace i).map fun e => if e.source = x then { e with lastSeq := none } else e) ∧
  (∀ (s : State) (p : Nat), s.phase = .running → p < 15 → s.sourceOfPort p = none →
    exec (.classifierLeftLocked p) s = .next (s.take (.classifierLeftLocked p))) ∧
  (∀ (s : State) (p x : Nat) (l : List Byte), s.phase = .running → p < 15 → (s.dirContext p).source = some x →
    (s.dirContext p).section_ = .receiving l →
    exec (.directoryLeftLocked p) s = .next (((s.take (.directoryLeftLocked p)).setDirContext p
      { s.dirContext p with lastSeq := none, section_ := .none }).setPort p
        { s.port p with counters := { (s.port p).counters with
            discards := min 0xFFFFFFFF ((s.port p).counters.discards + 1) } })) ∧
  (∀ (s : State) (p x : Nat), s.phase = .running → p < 15 → (s.dirContext p).source = some x →
    (s.dirContext p).section_ = .none →
    exec (.directoryLeftLocked p) s = .next ((s.take (.directoryLeftLocked p)).setDirContext p
      { s.dirContext p with lastSeq := none, section_ := .none })) ∧
  (∀ (s : State) (p : Nat), s.phase = .running → p < 15 → (s.dirContext p).source = none →
    exec (.directoryLeftLocked p) s = .next (s.take (.directoryLeftLocked p)))

/-! ### The Classifier -/

/-- Routing of packets that hit no Lane Map entry (R17 to R21). -/
def Obligations.RoutingWithoutHit : Prop :=
  ∀ (s : State) (p x time : Nat) (packet : Packet), s.phase = .running → p < 15 → packet.length = 188 →
    let u (src : Option Nat) : State := s.take (.classifyPacket p src time packet)
    let unclaimed (src : Option Nat) : State := (u src).setPort p { s.port p with
      counters := { (s.port p).counters with unclaimed := min 0xFFFFFFFF ((s.port p).counters.unclaimed + 1) } }
    let lane := laneOf packet
    (exec (.classifyPacket p none time packet) s = .next (unclaimed none)) ∧
    (lane = s.settings.controlLane → exec (.classifyPacket p (some 14) time packet) s =
      .next ((u (some 14)).send [.controlPacket packet])) ∧
    (lane = 0 → lane ≠ s.settings.controlLane → exec (.classifyPacket p (some 14) time packet) s =
      .next (unclaimed (some 14))) ∧
    (x ≠ 14 → lane = 0 → (s.port p).cfg.dirCheck = false →
      exec (.classifyPacket p (some x) time packet) s = .next (unclaimed (some x))) ∧
    (x ≠ 14 → lane = 0 → (s.port p).cfg.dirCheck = true → isDamaged packet = true →
      exec (.classifyPacket p (some x) time packet) s = .next (u (some x))) ∧
    (x ≠ 14 → lane = 0 → (s.port p).cfg.dirCheck = true → isDamaged packet = false →
      exec (.classifyPacket p (some x) time packet) s = .next ((u (some x)).send [.directoryPacket p x packet])) ∧
    (¬(x = 14 ∧ lane = s.settings.controlLane) → lane ≠ 0 →
      (∀ e ∈ s.laneMap, ∀ v, e.2 = some v → ¬(v.source = x ∧ v.lane = lane)) →
      exec (.classifyPacket p (some x) time packet) s = .next (unclaimed (some x)))

/-- A hit whose candidate is no pending target, classed by the first row of R25 that fits: the place takes the counter the
row gives, the measurement is handed over with class and gap, and the packet is forwarded exactly when its candidate is the
selected one of an ACTIVE owner, without advance for DUPLICATE and NO PAYLOAD (R25, R27, R29, R148). -/
def Obligations.HitMeasuredAndForwarded : Prop :=
  ∀ (s : State) (p x time i k : Nat) (e : LaneEntry) (packet : Packet), s.phase = .running → p < 15 →
    packet.length = 188 → ¬(x = 14 ∧ laneOf packet = s.settings.controlLane) → laneOf packet ≠ 0 →
    lookupLane s x (laneOf packet) = some (i, e) → (s.candidate e.candidate).cfg.owner = some k →
    (∀ a, (s.service k).armed = some a → a.target ≠ e.candidate) →
    let n := seqOf packet
    let classed (last : Option Nat) (cls : PacketClass) (gap : Nat) : Prop :=
      exec (.classifyPacket p (some x) time packet) s =
        .next (((s.take (.classifyPacket p (some x) time packet)).setLanePlace i (some { e with lastSeq := last })).send
          (.measurementArrival ⟨e.candidate, e.slot, cls, gap, isStart packet, time⟩ ::
            (if (s.service k).cfg.state = .active ∧ (s.service k).selected = some e.candidate
             then [.forwardAdmission k e.slot (decide (cls ≠ .duplicate ∧ cls ≠ .noPayload)) packet] else [])))
    let plain : Prop := isDamaged packet = false ∧ saysNoPayload packet = false ∧ isDiscontinuous packet = false
    (isDamaged packet = true → classed none .damaged 0) ∧
    (isDamaged packet = false → saysNoPayload packet = true → classed e.lastSeq .noPayload 0) ∧
    (isDamaged packet = false → saysNoPayload packet = false → isDiscontinuous packet = true → classed (some n) .resumed 0) ∧
    (plain → e.lastSeq = none → classed (some n) .resumed 0) ∧
    (∀ l, plain → e.lastSeq = some l → n = l → classed (some l) .duplicate 0) ∧
    (∀ l, plain → e.lastSeq = some l → n ≠ l → n = (l + 1) % 16 → classed (some n) .inOrder 0) ∧
    (∀ l, plain → e.lastSeq = some l → n ≠ l → n ≠ (l + 1) % 16 → l < 16 → classed (some n) .gap ((n + 31 - l) % 16))

/-- A clean point of a pending target makes the cut in the same exchange and is the first packet forwarded for the new
selection; a packet of the target that is no clean point leaves the switch armed (R28, R29, R100 to R102). Under policy
IMMEDIATE, for every cause but PIN, the first packet offered makes the cut whatever its slot, class and start flag (R101). -/
def Obligations.CleanPointCuts : Prop :=
  ∀ (s : State) (p x time i k : Nat) (e : LaneEntry) (a : Armed) (packet : Packet), s.phase = .running → p < 15 →
    packet.length = 188 → ¬(x = 14 ∧ laneOf packet = s.settings.controlLane) → laneOf packet ≠ 0 →
    lookupLane s x (laneOf packet) = some (i, e) → (s.candidate e.candidate).cfg.owner = some k →
    (s.service k).armed = some a → a.target = e.candidate →
    let cls := (classify e.lastSeq packet).1
    let immediate : Prop := (s.service k).cfg.policy = .immediate ∧ a.cause ≠ .pin
    ∃ t, exec (.classifyPacket p (some x) time packet) s = .next t ∧
      (∀ j, j ≠ k → t.service j = s.service j) ∧
      (let cut (kind : CutKind) : Prop :=
         t.service k = { s.service k with
           selected := some e.candidate, armed := none, attempts := 0, challenger := none, streak := 0
           switches := min 0xFFFFFFFF ((s.service k).switches + 1) } ∧
         t.inFlight = s.inFlight.erase (.classifyPacket p (some x) time packet) ++
           [.measurementArrival ⟨e.candidate, e.slot, cls, (classify e.lastSeq packet).2.2, isStart packet, time⟩,
             .noticePost (.switched k (s.service k).cfg.broadcast (s.service k).selected e.candidate kind a.cause) s.clock,
             .leftArmedArrival k] ++
           (if (s.service k).cfg.state = .active
            then [.forwardAdmission k e.slot (decide (cls ≠ .duplicate ∧ cls ≠ .noPayload)) packet] else [])
       (immediate → cut .immediate) ∧
       (¬immediate → e.slot = 0 → isStart packet = true → cls = .inOrder ∨ cls = .resumed ∨ cls = .gap → cut .clean) ∧
       (¬immediate → e.slot ≠ 0 ∨ isStart packet = false ∨ cls = .damaged ∨ cls = .duplicate ∨ cls = .noPayload →
         t.service k = s.service k))

/-! ### The Quality Monitor -/

/-- A measurement arrival adds to the record by its class, and an arrival of slot 0 is taken into the silence (R55 to
R57); one for a FREE candidate is discarded. -/
def Obligations.MeasurementArrival : Prop :=
  ∀ (s : State) (a : Measured), s.phase = .running → a.candidate < 2048 → a.slot < 8 →
    let x := s.candidate a.candidate
    let m := x.measured
    let u := s.take (.measurementArrival a)
    (x.cfg.state = .free → exec (.measurementArrival a) s = .next u) ∧
    (x.cfg.state ≠ .free → ∃ n : Measurement,
      exec (.measurementArrival a) s = .next (u.setCandidate a.candidate { x with measured := n }) ∧
      n.packets = (if a.cls = .duplicate then m.packets else min 0xFFFFFFFF (m.packets + 1)) ∧
      n.damaged = (if a.cls = .damaged then min 0xFFFFFFFF (m.damaged + 1) else m.damaged) ∧
      n.gaps = (if a.cls = .gap then min 0xFFFFFFFF (m.gaps + a.gap) else m.gaps) ∧
      n.duplicates = (if a.cls = .duplicate then min 0xFFFFFFFF (m.duplicates + 1) else m.duplicates) ∧
      (a.slot = 0 → n.silence = max m.silence (min 10000 (a.time - m.lastReference)) ∧
        n.lastReference = max a.time m.lastReference) ∧
      (a.slot ≠ 0 → n.silence = m.silence ∧ n.lastReference = m.lastReference))

/-- The interval grading at the expiry of the grading timer and at CLOSE INTERVAL, which closes an interval of 250 ms
or more and refuses a younger one (R59, R61, R63, R74). -/
def Obligations.IntervalGrading : Prop :=
  (∀ (s : State) (d : Nat), s.phase = .running → s.canonical → s.gradingTimer = some d → ∃ t,
    exec .gradingTimerExpiry s = .next t ∧
    (let now := max s.now d
     t.intervalNumber = s.intervalNumber + 1 ∧ t.intervalStart = now ∧
     t.intervalLength = s.settings.gradingInterval ∧ t.gradingTimer = some (now + s.settings.gradingInterval) ∧
     (∀ c p, (s.candidate c).cfg.state = .ready ∨ (s.candidate c).cfg.state = .barred →
       (s.candidate c).cfg.source = some p → p < 12 ∨ p = 14 →
       t.candidate c = { s.candidate c with
         grade := some (gradeRecord (s.weightSet (s.candidate c).cfg.weightSet) (s.candidate c).cfg.weightSet
           s.settings.correctedCounting (s.port p).cfg.marginLane.isSome (s.port p).readings
           ((s.candidate c).measured.close now) s.intervalNumber none)
         measured := ⟨0, 0, 0, 0, 0, now⟩ }) ∧
     (∀ c, (s.candidate c).cfg.state = .free ∨ (s.candidate c).cfg.state = .survey ∨
         (∃ x, (s.candidate c).cfg.source = some x ∧ 64 ≤ x) →
       t.candidate c = { s.candidate c with grade := (s.candidate c).grade.bind fun g =>
         match g.survey with
         | none => some g
         | some (age, e) =>
           if s.settings.stalenessLimit < age + 1 then none else some { g with survey := some (age + 1, e) } }) ∧
     (∀ p, t.port p = if p < 12 then { s.port p with readings := ⟨none, 0, 0, false⟩ } else s.port p) ∧
     (∃ l, t.inFlight = s.inFlight ++ l ∧ ∀ i, i ∈ l ↔
       (∃ k, (s.service k).cfg.state ≠ .unused ∧ i = .serviceGraded k s.intervalNumber) ∨
       (∃ k, (s.service k).armed.isSome = true ∧ i = .targetGraded k)) ∧
     t = { s with
       now := now, candidates := t.candidates, ports := t.ports, inFlight := t.inFlight
       intervalNumber := t.intervalNumber, intervalStart := t.intervalStart, intervalLength := t.intervalLength
       gradingTimer := t.gradingTimer })) ∧
  (∀ s : State, s.phase = .running → s.gradingTimer = none → exec .gradingTimerExpiry s = .next s) ∧
  (∀ (s : State) (c : Cmd), s.takesCommand → s.admitsLevel c.level 1 → c.body = [] →
    (250 ≤ s.now - s.intervalStart → ∃ t,
      exec .gradingTimerExpiry { s with gradingTimer := some s.now } = .next t ∧
      exec (.closeInterval c) s = .next (t.replies c 0x10 .done (be32 s.intervalNumber.toNat))) ∧
    (s.now - s.intervalStart < 250 → exec (.closeInterval c) s = .next (s.refuses c 0x10 .state)))

/-- The survey grading at a dwell end: the candidates of the entry without a discard mark are graded with age 0 under the
interval number of the dwell expiry, the marks go but those of a dwell of the other port, and the arrivals leave (R69, R72,
R73, R126; log 17). -/
def Obligations.SurveyGrading : Prop :=
  ∀ (s : State) (d : DwellEnd), s.phase = .running → s.canonical → d.port = 12 ∨ d.port = 13 → d.entry < 64 →
    let marked (x : Candidate) : Bool := x.discard12 || x.discard13
    let graded (c : Nat) : Prop := (s.candidate c).cfg.state = .survey ∧
      (s.candidate c).cfg.source = some (64 + d.entry) ∧ marked (s.candidate c) = false
    ∃ t, exec (.surveyGrading d) s = .next t ∧
      (∀ c, graded c → t.candidate c = { s.candidate c with
        grade := some (gradeRecord (s.weightSet (s.candidate c).cfg.weightSet) (s.candidate c).cfg.weightSet
          s.settings.correctedCounting d.marginLane d.readings ((s.candidate c).measured.close d.moment)
          d.interval (some (0, d.entry)))
        measured := ⟨0, 0, 0, 0, 0, s.now⟩ }) ∧
      (∀ c, ¬graded c → t.candidate c = if d.port = 12 then { s.candidate c with discard12 := false }
        else { s.candidate c with discard13 := false }) ∧
      (∃ l, t.inFlight = s.inFlight.erase (.surveyGrading d) ++ l ++ [.surveyGradingComplete d.port] ∧
        ∀ i, i ∈ l ↔ ∃ k, (s.service k).cfg.state ≠ .unused ∧ (∃ c, graded c ∧ (s.candidate c).cfg.owner = some k) ∧
          i = .surveyGraded k d.entry) ∧
      t = { s with candidates := t.candidates, inFlight := t.inFlight }

/-- The grade of every grading: 1,000 less the five penalties of R67, bounded below by 0, with the overrides SILENT
and UNLOCKED (R68); the interval grading and the survey grading use the one computation. -/
def Obligations.GradeArithmetic : Prop :=
  (∀ (s : State) (x : Candidate), ∃ lane r m, (gradeAtInterval s x).grade = some (gradeRecord
    (s.weightSet x.cfg.weightSet) x.cfg.weightSet s.settings.correctedCounting lane r m s.intervalNumber none)) ∧
  (∀ (s : State) (d : DwellEnd) (x : Candidate), ∃ m, (gradeAtDwell s d x).grade = some (gradeRecord
    (s.weightSet x.cfg.weightSet) x.cfg.weightSet s.settings.correctedCounting d.marginLane d.readings m
    d.interval (some (0, d.entry)))) ∧
  ∀ (w : WeightSet) (i : Nat) (counting lane : Bool) (r : MarginReadings) (m : Measurement) (n : BitVec 32)
    (v : Option (Nat × Nat)),
    let g := gradeRecord w i counting lane r m n v
    let sum := g.damagePenalty + g.gapPenalty + g.marginPenalty + g.uncorrectedPenalty + g.correctedPenalty
    g.damagePenalty = (if m.packets = 0 then 0 else min 1000 (m.damaged * 10000 / m.packets * w.damage / 16)) ∧
    g.gapPenalty = min 1000 (m.gaps * w.gap) ∧
    (lane = false → g.marginPenalty = 0 ∧ g.marginAbsent = false) ∧
    (lane = true → r.lowest = none → g.marginPenalty = w.absent ∧ g.marginAbsent = true) ∧
    (∀ x, lane = true → r.lowest = some x → g.marginAbsent = false ∧
      (g.marginPenalty : Int) = min 1000 (max 0 (w.floor - x) * w.margin)) ∧
    g.uncorrectedPenalty = min 1000 (r.uncorrected * w.uncorrected / 4) ∧
    g.correctedPenalty = (if counting = true then min 1000 (r.corrected / 256 * w.corrected) else 0) ∧
    (g.silent = true ↔ m.packets = 0 ∨ w.silenceLimit < m.silence) ∧ (g.unlocked = true ↔ r.belowFull = true) ∧
    (g.silent = true ∨ g.unlocked = true → g.grade = 0) ∧
    (g.silent = false → g.unlocked = false → sum ≤ 1000 → g.grade + sum = 1000) ∧
    (g.silent = false → g.unlocked = false → 1000 < sum → g.grade = 0) ∧ g.grade ≤ 1000

/-! ### The Ranking Unit -/

/-- Steps 1 to 3 of a ranking, seen on a DEFINED service: quarantines count down, flaps decay, and the order is rebuilt
(R78 to R81); an arrival for an UNUSED service is discarded. -/
def Obligations.RankingOrders : Prop :=
  ∀ (s : State) (k : Nat) (n : BitVec 32), s.phase = .running → k < 512 →
    let v := s.service k
    (v.cfg.state = .unused → exec (.serviceGraded k n) s = .next (s.take (.serviceGraded k n))) ∧
    (v.cfg.state = .defined → v.rank.Nodup → ∃ t,
      exec (.serviceGraded k n) s = .next t ∧
      (let r := (t.service k).rank
       r.Perm v.rank ∧
       r.Pairwise (fun a b => t.eligible b = true → t.eligible a = true ∧ t.gradeOf b ≤ t.gradeOf a) ∧
       (∀ a b, [a, b].Sublist v.rank → t.eligible a = true → t.eligible b = true → t.gradeOf a = t.gradeOf b →
         [a, b].Sublist r) ∧
       (∀ a b, [a, b].Sublist v.rank → t.eligible a = false → t.eligible b = false → [a, b].Sublist r)) ∧
      (∀ c, c ∉ v.rank → t.candidate c = s.candidate c) ∧
      (∀ c q, c ∈ v.rank → (s.candidate c).quarantine = some q → q.remaining ≤ 1 →
        (t.candidate c).quarantine = none ∧ (t.candidate c).flaps = 0 ∧ (t.candidate c).decay = 0 ∧
        .noticePost (.quarantineEnded c) s.clock ∈ t.inFlight) ∧
      (∀ c q, c ∈ v.rank → (s.candidate c).quarantine = some q → 1 < q.remaining →
        (t.candidate c).quarantine = some ⟨q.reason, q.remaining - 1⟩) ∧
      (∀ c, c ∈ v.rank → (s.candidate c).quarantine = none → (t.candidate c).quarantine = none ∧
        ((s.candidate c).demoted = true → (t.candidate c).demoted = false ∧
          (t.candidate c).flaps = (s.candidate c).flaps ∧ (t.candidate c).decay = (s.candidate c).decay) ∧
        ((s.candidate c).demoted = false → (s.candidate c).flaps = 0 → t.candidate c = s.candidate c) ∧
        ((s.candidate c).demoted = false → 1 ≤ (s.candidate c).flaps →
          (s.candidate c).decay + 1 < s.settings.flapDecay →
          t.candidate c = { s.candidate c with decay := (s.candidate c).decay + 1 }) ∧
        ((s.candidate c).demoted = false → 1 ≤ (s.candidate c).flaps →
          s.settings.flapDecay ≤ (s.candidate c).decay + 1 →
          t.candidate c = { s.candidate c with flaps := (s.candidate c).flaps - 1, decay := 0 })) ∧
      t.service k = { v with rank := (t.service k).rank } ∧ (∀ j, j ≠ k → t.service j = s.service j) ∧
      t = { s with services := t.services, candidates := t.candidates, inFlight := t.inFlight })

/-- Steps 2 to 6 of a ranking, on an ACTIVE service whose members are not quarantined: the decay of the flaps, the rebuilt
order, the dark flag, the one request of the ranking with the challenger, the streak and the attempt count it leaves, the
flap counted against a selection that fails by its grade, with the quarantine at the flap limit, and the advisory check
(R80 to R85, R87, R131). The selection is a member of the service's rank order and owned by it (R47; CapacityKept states
the law). -/
def Obligations.SelectionDecision : Prop :=
  ∀ (s : State) (k : Nat) (n : BitVec 32), s.phase = .running → k < 512 → (s.service k).cfg.state = .active →
    (s.service k).rank.Nodup → (∀ c ∈ (s.service k).rank, (s.candidate c).quarantine = none) →
    (∀ c, (s.service k).selected = some c → c ∈ (s.service k).rank ∧ (s.candidate c).cfg.owner = some k) → ∃ t,
      exec (.serviceGraded k n) s = .next t ∧
      (let v := s.service k
       let w := t.service k
       let first := t.firstEligible w.rank []
       let asks (i : Instr) : Prop := ∃ l, t.inFlight = l ++ [i]
       let silent : Prop := ∀ x q, .switchRequest k x q ∈ t.inFlight → .switchRequest k x q ∈ s.inFlight
       let cleared : Prop := w.challenger = none ∧ w.streak = 0 ∧ w.attempts = 0
       -- The record of a member after the decay of step 2.
       let decayed (c : Nat) : Candidate :=
         let x := s.candidate c
         if x.demoted = true then { x with demoted := false }
         else if x.flaps = 0 then x
         else if s.settings.flapDecay ≤ x.decay + 1 then { x with flaps := x.flaps - 1, decay := 0 }
         else { x with decay := x.decay + 1 }
       -- The selection is not eligible because of its grade while another member is: a flap is counted against it.
       let charged (c : Nat) : Prop := v.pinned = none ∧ v.armed = none ∧ v.selected = some c ∧ first ≠ none ∧
         t.eligible c = false ∧ s.inOutage c = false ∧ ∃ g, (s.candidate c).grade = some g ∧
           (g.grade < v.cfg.minGrade ∨ g.silent = true ∨ g.unlocked = true)
       -- The survey-graded members and the best of them, the first of equals, against the first eligible member.
       let shown (c : Nat) : Prop := (t.candidate c).cfg.state = .survey ∧ (t.candidate c).quarantine = none ∧
         ∃ g, (t.candidate c).grade = some g ∧ g.silent = false ∧ g.unlocked = false
       let best (c : Nat) : Prop := ∃ l r, w.rank = l ++ c :: r ∧ shown c ∧
         (∀ b ∈ l, shown b → t.gradeOf b < t.gradeOf c) ∧ (∀ b ∈ r, shown b → t.gradeOf b ≤ t.gradeOf c)
       let leads (c : Nat) : Prop := match first with
         | some f => t.gradeOf f + s.settings.advisoryMargin ≤ t.gradeOf c
         | none => v.cfg.minGrade ≤ t.gradeOf c
       let unadvised : Prop := ∀ a b c d g o z,
         .noticePost (.advisory a b c d g o) z ∈ t.inFlight → .noticePost (.advisory a b c d g o) z ∈ s.inFlight
       (∀ c, ¬charged c → t.candidate c = if c ∈ v.rank then decayed c else s.candidate c) ∧
       (∀ c, charged c → (decayed c).flaps + 1 < s.settings.flapLimit → t.candidate c = { decayed c with
         flaps := min 15 ((decayed c).flaps + 1), decay := 0, demoted := true }) ∧
       (∀ c, charged c → s.settings.flapLimit ≤ (decayed c).flaps + 1 →
         t.candidate c = { decayed c with
           flaps := 0, decay := 0, demoted := false, quarantine := some ⟨.flap, s.settings.quarantineDuration⟩ } ∧
         .noticePost (.quarantined c .flap) s.clock ∈ t.inFlight) ∧
       w.rank.Perm v.rank ∧
       w.rank.Pairwise (fun a b => t.eligible b = true → t.eligible a = true ∧ t.gradeOf b ≤ t.gradeOf a) ∧
       (∀ a b, [a, b].Sublist v.rank → t.eligible a = true → t.eligible b = true → t.gradeOf a = t.gradeOf b →
         [a, b].Sublist w.rank) ∧
       (∀ a b, [a, b].Sublist v.rank → t.eligible a = false → t.eligible b = false → [a, b].Sublist w.rank) ∧
       w.dark = first.isNone ∧
       (first = none → v.dark = false → .noticePost (.dark k v.cfg.broadcast) s.clock ∈ t.inFlight) ∧
       (first ≠ none → v.dark = true → .noticePost (.restored k v.cfg.broadcast) s.clock ∈ t.inFlight) ∧
       w.cfg = v.cfg ∧ w.selected = v.selected ∧ w.pinned = v.pinned ∧ w.armed = v.armed ∧
       (v.pinned.isSome = true → cleared ∧ silent) ∧
       (v.pinned = none → v.armed.isSome = true → w.challenger = v.challenger ∧ w.streak = v.streak ∧
         w.attempts = v.attempts ∧ silent) ∧
       (v.pinned = none → v.armed = none → first = none → cleared ∧ silent) ∧
       (∀ e, v.pinned = none → v.armed = none → v.selected = none → first = some e →
         cleared ∧ asks (.switchRequest k e .first)) ∧
       (∀ e c, v.pinned = none → v.armed = none → v.selected = some c → first = some e → t.eligible c = false →
         cleared ∧ asks (.switchRequest k e .urgent)) ∧
       (∀ e c, v.pinned = none → v.armed = none → v.selected = some c → first = some e → t.eligible c = true →
         (e = c ∨ t.gradeOf e < t.gradeOf c + v.cfg.hysteresis → cleared ∧ silent) ∧
         (e ≠ c → t.gradeOf c + v.cfg.hysteresis ≤ t.gradeOf e →
           w.challenger = some e ∧
           (v.challenger = some e → w.streak = min 15 (v.streak + 1) ∧ w.attempts = v.attempts) ∧
           (v.challenger ≠ some e → w.streak = 1 ∧ w.attempts = 0) ∧
           (v.cfg.confirm ≤ w.streak → asks (.switchRequest k e .challenge)) ∧
           (w.streak < v.cfg.confirm → silent))) ∧
       ((∀ c ∈ w.rank, ¬shown c) → w.advisory = none ∧ unadvised) ∧
       (∀ c, best c → ¬leads c → w.advisory = none ∧ unadvised) ∧
       (∀ c, best c → leads c → w.advisory = some c ∧ (v.advisory = some c → unadvised) ∧
         (∀ x, v.advisory ≠ some c → (t.candidate c).cfg.source = some (64 + x) → .noticePost
           (.advisory k v.cfg.broadcast c x (t.gradeOf c) (first.map t.gradeOf)) s.clock ∈ t.inFlight)) ∧
       w = { v with
         rank := w.rank, dark := w.dark, challenger := w.challenger, streak := w.streak, attempts := w.attempts
         advisory := w.advisory } ∧
       (∀ j, j ≠ k → t.service j = s.service j) ∧
       t = { s with services := t.services, candidates := t.candidates, inFlight := t.inFlight })

/-- The advisory check of a survey grading (R86, R131): the best survey-graded member stands against the first eligible
member by the advisory margin, or against the minimum grade where none is eligible. -/
def Obligations.AdvisoryCheck : Prop :=
  ∀ (s : State) (k e x : Nat), s.phase = .running → k < 512 → e < 64 →
    let v := s.service k
    let u := s.take (.surveyGraded k e)
    let shown (c : Nat) : Prop := (s.candidate c).cfg.state = .survey ∧ (s.candidate c).quarantine = none ∧
      ∃ g, (s.candidate c).grade = some g ∧ g.silent = false ∧ g.unlocked = false
    let best (c : Nat) : Prop := ∃ l r, v.rank = l ++ c :: r ∧ shown c ∧ (s.candidate c).cfg.source = some (64 + x) ∧
      (∀ b ∈ l, shown b → s.gradeOf b < s.gradeOf c) ∧ (∀ b ∈ r, shown b → s.gradeOf b ≤ s.gradeOf c)
    let leads (c : Nat) : Prop := match s.firstEligible v.rank [] with
      | some f => s.gradeOf f + s.settings.advisoryMargin ≤ s.gradeOf c
      | none => v.cfg.minGrade ≤ s.gradeOf c
    (v.cfg.state ≠ .active → exec (.surveyGraded k e) s = .next u) ∧
    (v.cfg.state = .active → (∀ c ∈ v.rank, ¬shown c) →
      exec (.surveyGraded k e) s = .next (u.setService k { v with advisory := none })) ∧
    (∀ c, v.cfg.state = .active → best c → ¬leads c →
      exec (.surveyGraded k e) s = .next (u.setService k { v with advisory := none })) ∧
    (∀ c, v.cfg.state = .active → best c → leads c → v.advisory = some c → exec (.surveyGraded k e) s = .next u) ∧
    (∀ c, v.cfg.state = .active → best c → leads c → v.advisory ≠ some c →
      exec (.surveyGraded k e) s = .next ((u.setService k { v with advisory := some c }).post
        (.advisory k v.cfg.broadcast c x (s.gradeOf c) ((s.firstEligible v.rank []).map s.gradeOf))))

/-- A restoration arrival changes nothing but that it is taken; a dark arrival sets the dark flag of an ACTIVE service
once, with its notice (R10, R82, R89). -/
def Obligations.RankingArrivals : Prop :=
  (∀ (s : State) (p : Nat), s.phase = .running → p < 15 →
    exec (.rankingRestorationArrival p) s = .next (s.take (.rankingRestorationArrival p)) ∧
    exec (.switchRestorationArrival p) s = .next (s.take (.switchRestorationArrival p))) ∧
  (∀ (s : State) (k : Nat), s.phase = .running → k < 512 →
    let v := s.service k
    (v.cfg.state = .active → v.dark = false → exec (.darkArrival k) s =
      .next (((s.take (.darkArrival k)).setService k { v with dark := true }).post (.dark k v.cfg.broadcast))) ∧
    (v.cfg.state ≠ .active ∨ v.dark = true → exec (.darkArrival k) s = .next (s.take (.darkArrival k))))

/-- The outage of a port demotes the selection of the service on it: the flap, the quarantine at the flap limit, and
the urgent request or the dark handling (R87, R88). -/
def Obligations.OutageDemotion : Prop :=
  ∀ (s : State) (p : Nat), s.phase = .running → p < 15 → (s.port p).outage = true →
    let on (k : Nat) : Prop := (s.service k).cfg.state = .active ∧ (s.service k).pinned = none ∧
      ∃ c, (s.service k).selected = some c ∧ (s.candidate c).cfg.source = some p
    let i : Instr := .rankingOutageArrival p
    let u := s.take i
    ((∀ k, ¬on k) → exec i s = .next u) ∧
    (∀ k c, s.canonical → on k → (∀ j, on j → j = k) → (s.service k).selected = some c →
      (s.candidate c).quarantine = none → (s.service k).armed = none →
      let x := s.candidate c
      let x' : Candidate := { x with flaps := min 15 (x.flaps + 1), decay := 0, demoted := true }
      let u' := u.setCandidate c x'
      (∀ e, x.flaps + 1 < s.settings.flapLimit → s.firstEligible (s.service k).rank [c] = some e →
        exec i s = .next (u'.send [.switchRequest k e .urgent])) ∧
      (x.flaps + 1 < s.settings.flapLimit → s.firstEligible (s.service k).rank [c] = none →
        (s.service k).dark = false → exec i s = .next ((u'.setService k { s.service k with dark := true }).post
          (.dark k (s.service k).cfg.broadcast))) ∧
      (∀ e, s.settings.flapLimit ≤ x.flaps + 1 → s.firstEligible (s.service k).rank [c] = some e →
        x.cfg.owner = some k → ∃ t, exec i s = .next t ∧
        t.candidate c = { x with
          flaps := 0, decay := 0, demoted := false, quarantine := some ⟨.flap, s.settings.quarantineDuration⟩ } ∧
        t.inFlight = s.inFlight.erase i ++
          [.noticePost (.quarantined c .flap) s.clock, .switchRequest k e .urgent] ∧
        (t.service k).selected = some c ∧ (∀ d, d ≠ c → t.candidate d = s.candidate d) ∧
        (∀ j, j ≠ k → t.service j = s.service j)))

/-- Entry into quarantine by request and by command, with what it does to switching: the cancellation of a pending switch
toward the candidate, the release of its pin and the request or dark handling of its selection, in this order (R91); the
further quarantine, and LIFT QUARANTINE (R90 to R94). -/
def Obligations.QuarantineEntry : Prop :=
  ∀ (s : State) (c k n : Nat) (q : Cmd), s.phase = .running → c < 2048 → 1 ≤ n → n < 65536 →
    let x := s.candidate c
    let i : Instr := .directoryQuarantineRequest c
    let entered (reason : QuarantineReason) (duration : Nat) : Candidate :=
      { x with quarantine := some ⟨reason, duration⟩, flaps := 0, decay := 0, demoted := false }
    let v := s.service k
    let wait := if v.cfg.policy = .immediate then v.cfg.cleanWait else s.settings.urgentWait
    let dropped : Service := { v with
      challenger := if v.challenger = some c then none else v.challenger
      streak := if v.challenger = some c then 0 else v.streak
      attempts := if v.challenger = some c then 0 else v.attempts
      advisory := if v.advisory = some c then none else v.advisory
      pinned := if v.pinned = some c then none else v.pinned }
    let enters : Prop := (x.cfg.state = .ready ∨ x.cfg.state = .survey) ∧ x.quarantine = none ∧ x.cfg.owner = some k
    let leaves (w : Service) (l : List Instr) : Prop := ∃ t, exec i s = .next t ∧
      t.candidate c = entered .directory s.settings.quarantineDuration ∧ (∀ d, d ≠ c → t.candidate d = s.candidate d) ∧
      t.service k = w ∧ (∀ j, j ≠ k → t.service j = s.service j) ∧
      t.inFlight = s.inFlight.erase i ++ .noticePost (.quarantined c .directory) s.clock :: l
    let named := be16 c ++ be16 n
    (x.cfg.state = .free ∨ x.cfg.state = .barred → x.quarantine = none → exec i s = .next (s.take i)) ∧
    (∀ r, x.quarantine = some r → exec i s = .next ((s.take i).setCandidate c { x with
      quarantine := some (if r.remaining < s.settings.quarantineDuration
        then ⟨.directory, s.settings.quarantineDuration⟩ else r) })) ∧
    (enters → v.selected ≠ some c ∨ v.cfg.state ≠ .active ∨ dropped.pinned ≠ none →
      (∀ a, v.armed = some a → a.target ≠ c) → leaves dropped []) ∧
    (∀ e, enters → v.selected = some c → v.cfg.state = .active → dropped.pinned = none →
      (∀ a, v.armed = some a → a.target ≠ c) → s.firstEligible v.rank [c] = some e →
      leaves dropped [.switchRequest k e .urgent]) ∧
    (enters → v.selected = some c → v.cfg.state = .active → dropped.pinned = none →
      (∀ a, v.armed = some a → a.target ≠ c) → s.firstEligible v.rank [c] = none →
      (v.dark = false → leaves { dropped with dark := true } [.noticePost (.dark k v.cfg.broadcast) s.clock]) ∧
      (v.dark = true → leaves dropped [])) ∧
    (∀ a, enters → v.armed = some a → a.target = c → v.selected ≠ some c →
      (a.cause = .first ∨ a.cause = .challenge →
        leaves { dropped with armed := none, attempts := 0 } [.leftArmedArrival k]) ∧
      (a.cause = .pin → leaves { dropped with armed := none, attempts := 0, pinned := none } [.leftArmedArrival k]) ∧
      (∀ e, a.cause = .urgent → s.firstEligible v.rank (c :: v.selected.toList) = some e →
        leaves { dropped with armed := some ⟨e, .urgent, s.now + wait⟩, attempts := 0 } []) ∧
      (a.cause = .urgent → s.firstEligible v.rank (c :: v.selected.toList) = none →
        leaves { dropped with armed := none, attempts := 0 } [.leftArmedArrival k])) ∧
    (s.takesCommand → s.admitsLevel q.level 1 → q.body = named → x.cfg.state = .ready ∨ x.cfg.state = .survey →
      x.quarantine = none → x.cfg.owner = some k → v.selected ≠ some c → v.pinned ≠ some c →
      (∀ a, v.armed = some a → a.target ≠ c) → ∃ t,
      exec (.quarantine q) s = .next t ∧ t.candidate c = entered .manual n ∧
      (∀ d, d ≠ c → t.candidate d = s.candidate d) ∧
      t.inFlight = s.inFlight ++ [.noticePost (.quarantined c .manual) s.clock] ∧
      t.replyInHand = some ⟨q.tag, 0x13, .done, .none, be8 2 ++ be16 n⟩) ∧
    (s.takesCommand → s.admitsLevel q.level 1 → q.body = named → x.cfg.state = .free ∨ x.cfg.state = .barred →
      exec (.quarantine q) s = .next (s.refuses q 0x13 .state)) ∧
    (s.takesCommand → s.admitsLevel q.level 1 → q.body = be16 c → x.quarantine.isSome = true →
      exec (.liftQuarantine q) s = .next (((s.setCandidate c
        { x with quarantine := none, flaps := 0, decay := 0 }).post (.quarantineEnded c)).replies q 0x14 .done [])) ∧
    (s.takesCommand → s.admitsLevel q.level 1 → q.body = be16 c → x.quarantine = none →
      exec (.liftQuarantine q) s = .next (s.refuses q 0x14 .state))

/-! ### The Switch Controller -/

/-- A request is discarded, arms a switch, escalates the armed one or retargets it (R98, R99, R106). -/
def Obligations.SwitchArming : Prop :=
  ∀ (s : State) (k x : Nat) (cause : SwitchCause), s.phase = .running → k < 512 → x < 2048 →
    let v := s.service k
    let i : Instr := .switchRequest k x cause
    let u := s.take i
    let taken : Prop := v.cfg.state = .active ∧ (v.pinned = none ∨ cause = .pin) ∧ x ∈ v.rank ∧
      s.isReady x = true ∧ v.selected ≠ some x ∧ s.inOutage x = false
    let wait : Nat := if cause = .challenge ∨ cause = .pin ∨ v.cfg.policy = .immediate then v.cfg.cleanWait
      else s.settings.urgentWait
    let armed : Service := { v with
      armed := some ⟨x, cause, s.now + wait⟩, attempts := if cause = .challenge then v.attempts else 0 }
    (¬taken → cause ≠ .urgent → exec i s = .next u) ∧
    (¬taken → v.cfg.state ≠ .active ∨ v.pinned ≠ none → exec i s = .next u) ∧
    (¬taken → cause = .urgent → s.firstEligible v.rank (x :: v.selected.toList) = none → exec i s = .next u) ∧
    (∀ c, ¬taken → cause = .urgent → v.cfg.state = .active → v.pinned = none → v.armed = none →
      s.firstEligible v.rank (x :: v.selected.toList) = some c →
      exec i s = .next (u.setService k { v with
        armed := some ⟨c, .urgent, s.now + (if v.cfg.policy = .immediate then v.cfg.cleanWait else s.settings.urgentWait)⟩
        attempts := 0 })) ∧
    (taken → v.armed = none → exec i s = .next (u.setService k armed)) ∧
    (∀ a, taken → v.armed = some a → cause = .pin → exec i s = .next (u.setService k armed)) ∧
    (∀ a, taken → v.armed = some a → cause ≠ .pin → a.target ≠ x → ∃ t,
      exec i s = .next t ∧ t.service k = { armed with attempts := 0 } ∧ (∀ j, j ≠ k → t.service j = s.service j) ∧
      t = { u with services := t.services }) ∧
    (∀ a, taken → v.armed = some a → cause ≠ .pin → a.target = x →
      exec i s = .next (u.setService k { v with armed := some { a with
        cause := .urgent
        timer := if v.cfg.policy ≠ .immediate ∧ s.settings.urgentWait < a.timer - s.now
          then s.now + s.settings.urgentWait else a.timer } }))

/-- A cancellation, at a target that is no longer fit and at an outage of its port (R107 to R109): an URGENT switch is
reissued toward the next member where one is eligible, a PIN switch loses its pin, another is left STEADY. -/
def Obligations.SwitchCancellation : Prop :=
  ∀ (s : State) (k : Nat) (a : Armed), s.phase = .running → k < 512 → (s.service k).armed = some a →
    let v := s.service k
    let fit : Bool := if a.cause = .pin then v.rank.contains a.target && s.isReady a.target && !s.inOutage a.target
      else s.eligible a.target
    let wait := if v.cfg.policy = .immediate then v.cfg.cleanWait else s.settings.urgentWait
    let cancelled (i : Instr) : Prop :=
      (∀ c, a.cause = .urgent → s.firstEligible v.rank (a.target :: v.selected.toList) = some c → ∃ t,
        exec i s = .next t ∧ t.service k = { v with armed := some ⟨c, .urgent, s.now + wait⟩, attempts := 0 } ∧
        (∀ j, j ≠ k → t.service j = s.service j) ∧
        t = { s with services := t.services, inFlight := s.inFlight.erase i }) ∧
      (a.cause = .urgent → s.firstEligible v.rank (a.target :: v.selected.toList) = none →
        exec i s = .next (((s.take i).setService k { v with armed := none, attempts := 0 }).send [.leftArmedArrival k])) ∧
      (a.cause = .first ∨ a.cause = .challenge →
        exec i s = .next (((s.take i).setService k { v with armed := none, attempts := 0 }).send [.leftArmedArrival k])) ∧
      (a.cause = .pin → ∃ t, exec i s = .next t ∧
        t.service k = { v with armed := none, attempts := 0, pinned := none } ∧
        (∀ j, j ≠ k → t.service j = s.service j) ∧
        t = { s with services := t.services, inFlight := s.inFlight.erase i ++ [.leftArmedArrival k] })
    (fit = true → exec (.targetGraded k) s = .next (s.take (.targetGraded k))) ∧
    (fit = false → cancelled (.targetGraded k)) ∧
    (∀ p, p < 15 → s.canonical → (s.candidate a.target).cfg.source = some p →
      (∀ j b, (s.service j).armed = some b → (s.candidate b.target).cfg.source = some p → j = k) →
      cancelled (.switchOutageArrival p)) ∧
    (∀ p, p < 15 → (∀ j b, (s.service j).armed = some b → (s.candidate b.target).cfg.source ≠ some p) →
      exec (.switchOutageArrival p) s = .next (s.take (.switchOutageArrival p))) ∧
    (∀ j, j < 512 → (s.service j).armed = none → exec (.targetGraded j) s = .next (s.take (.targetGraded j)))

/-- An ACTIVE service that is pinned, STEADY and without a selection is armed toward its pin, or loses it (R113). -/
def Obligations.PinnedTakenUp : Prop :=
  ∀ (s : State) (k c : Nat), s.phase = .running → k < 512 →
    let v := s.service k
    let i : Instr := .pinnedWithoutSelection k
    let fit : Prop := c ∈ v.rank ∧ s.isReady c = true ∧ s.inOutage c = false
    (v.cfg.state = .active → v.armed = none → v.selected = none → v.pinned = some c → fit →
      exec i s = .next ((s.take i).setService k
        { v with armed := some ⟨c, .pin, s.now + v.cfg.cleanWait⟩, attempts := 0 })) ∧
    (v.cfg.state = .active → v.armed = none → v.selected = none → v.pinned = some c → ¬fit →
      exec i s = .next ((s.take i).setService k { v with pinned := none })) ∧
    (v.cfg.state ≠ .active ∨ v.armed ≠ none ∨ v.selected ≠ none ∨ v.pinned = none → exec i s = .next (s.take i))

/-- The expiry of the wait: a forced cut, or under CLEAN a retry of a challenge or its abandonment (R103 to R105). -/
def Obligations.WaitExpiry : Prop :=
  ∀ (s : State) (k : Nat), s.phase = .running → k < 512 →
    let v := s.service k
    (v.armed = none → exec (.waitTimerExpiry k) s = .next s) ∧
    (∀ a, v.armed = some a → a.cause ≠ .challenge ∨ v.cfg.policy ≠ .clean →
      exec (.waitTimerExpiry k) s = .next ((((s.atTime a.timer).setService k
        { v with
          selected := some a.target, armed := none, attempts := 0, challenger := none, streak := 0
          switches := min 0xFFFFFFFF (v.switches + 1), forcedCuts := min 0xFFFFFFFF (v.forcedCuts + 1) }).post
        (.switched k v.cfg.broadcast v.selected a.target .forced a.cause)).send [.leftArmedArrival k])) ∧
    (∀ a, v.armed = some a → a.cause = .challenge → v.cfg.policy = .clean → v.attempts + 1 < v.cfg.retryLimit →
      exec (.waitTimerExpiry k) s = .next (((s.atTime a.timer).setService k
        { v with armed := none, attempts := v.attempts + 1 }).send [.leftArmedArrival k])) ∧
    (∀ a, v.armed = some a → a.cause = .challenge → v.cfg.policy = .clean → v.cfg.retryLimit ≤ v.attempts + 1 →
      exec (.waitTimerExpiry k) s = .next (((((s.atTime a.timer).setService k
        { v with armed := none, attempts := 0, streak := 0, abandoned := min 0xFFFFFFFF (v.abandoned + 1) }).raise
        (.switchAbandoned k a.target)).post
        (.switchAbandoned k v.cfg.broadcast a.target (v.attempts + 1))).send [.leftArmedArrival k]))

/-- PIN and RELEASE PIN (R111, R112). -/
def Obligations.PinAndRelease : Prop :=
  ∀ (s : State) (q : Cmd) (k c : Nat), s.takesCommand → s.admitsLevel q.level 1 → k < 512 → c < 2048 →
    let v := s.service k
    let fit : Prop := c ∈ v.rank ∧ s.isReady c = true ∧ s.inOutage c = false
    let named := be16 k ++ be16 c
    let reply (armed : Nat) := opt16 v.selected ++ be16 c ++ be8 armed
    (q.body = named → ¬fit → exec (.pin q) s = .next (s.refuses q 0x11 .state)) ∧
    (q.body = named → fit → v.cfg.state ≠ .active → exec (.pin q) s =
      .next ((s.setService k { v with pinned := some c }).replies q 0x11 .done (reply v.armed.isSome.toNat))) ∧
    (q.body = named → fit → v.cfg.state = .active → v.selected = some c → v.armed = none → exec (.pin q) s =
      .next ((s.setService k { v with pinned := some c }).replies q 0x11 .done (reply 0))) ∧
    (∀ a, q.body = named → fit → v.cfg.state = .active → v.selected = some c → v.armed = some a → ∃ t,
      exec (.pin q) s = .next t ∧ t.service k = { v with pinned := some c, armed := none, attempts := 0 } ∧
      t.inFlight = s.inFlight ++ [.leftArmedArrival k] ∧ t.replyInHand = some ⟨q.tag, 0x11, .done, .none, reply 0⟩ ∧
      (∀ j, j ≠ k → t.service j = s.service j) ∧
      t = { s with services := t.services, inFlight := t.inFlight, replyInHand := t.replyInHand }) ∧
    (q.body = named → fit → v.cfg.state = .active → v.selected ≠ some c → ∃ t,
      exec (.pin q) s = .next t ∧
      t.service k = { v with pinned := some c, armed := some ⟨c, .pin, s.now + v.cfg.cleanWait⟩, attempts := 0 } ∧
      t.replyInHand = some ⟨q.tag, 0x11, .done, .none, reply 1⟩ ∧ (∀ j, j ≠ k → t.service j = s.service j) ∧
      t = { s with services := t.services, replyInHand := t.replyInHand }) ∧
    (q.body = be16 k → v.pinned = none → exec (.releasePin q) s = .next (s.refuses q 0x12 .state)) ∧
    (q.body = be16 k → v.pinned.isSome = true → (∀ a, v.armed = some a → a.cause ≠ .pin) → exec (.releasePin q) s =
      .next ((s.setService k { v with pinned := none }).replies q 0x12 .done [])) ∧
    (∀ a, q.body = be16 k → v.pinned.isSome = true → v.armed = some a → a.cause = .pin → ∃ t,
      exec (.releasePin q) s = .next t ∧ t.service k = { v with pinned := none, armed := none, attempts := 0 } ∧
      t.inFlight = s.inFlight ++ [.leftArmedArrival k] ∧ t.replyInHand = some ⟨q.tag, 0x12, .done, .none, []⟩ ∧
      (∀ j, j ≠ k → t.service j = s.service j) ∧
      t = { s with services := t.services, inFlight := t.inFlight, replyInHand := t.replyInHand })

/-! ### The Table Unit -/

/-- APPLY_CHANGE takes the head of the list: a held head waits, a head that touches an ARMED service is held, a SERVICE
change is checked on its resulting record and applied or failed (R39 to R44, R51); LEFT_ARMED_ARRIVAL examines a held
head again (R40). -/
def Obligations.ServiceChange : Prop :=
  ∀ (s : State) (h : Change) (rest : List Change), s.phase = .running → s.canonical →
    let k := h.index
    let v := s.service k
    let r := formService v.cfg h.fields
    let u : State := { s with changes := rest }
    let failed (why : FailReason) : State :=
      (u.raise (.changeFailed h.tag 4 k)).post (.changeFailed h.tag 4 k why)
    let ready : Prop := s.changes = h :: rest ∧ s.headHeld = false ∧ h.service = true ∧ v.armed = none
    let inside (lane : Nat) : Prop := r.base ≤ lane ∧ lane ≤ r.base + 7
    let clash : Prop := inside s.settings.controlLane ∨ inside s.settings.reportLane ∨ inside s.settings.tapLane ∨
      ∃ j, j ≠ k ∧ (s.service j).cfg.state ≠ .unused ∧ r.base ≤ (s.service j).cfg.base + 7 ∧
        (s.service j).cfg.base ≤ r.base + 7
    (s.changes = [] → exec .applyChange s = .next s) ∧
    (s.headHeld = true → exec .applyChange s = .next s) ∧
    (s.changes = h :: rest → s.headHeld = false → h.service = true → v.armed.isSome = true →
      exec .applyChange s = .next { s with headHeld := true }) ∧
    (∀ j, s.changes = h :: rest → s.headHeld = false → h.service = false → (s.candidate k).cfg.owner = some j →
      (s.service j).armed.isSome = true → exec .applyChange s = .next { s with headHeld := true }) ∧
    (ready → r.state ≠ .unused → clash → exec .applyChange s = .next (failed .outputConflict)) ∧
    (ready → r.state = .unused → v.rank ≠ [] → exec .applyChange s = .next (failed .notEmpty)) ∧
    (ready → r.state = .unused → v.rank = [] → exec .applyChange s = .next (u.setService k { v with
      cfg := r, challenger := none, streak := 0, attempts := 0, dark := false, advisory := none, selected := none
      pinned := none })) ∧
    (ready → r.state = .defined → ¬clash → v.cfg.state ≠ .active →
      exec .applyChange s = .next (u.setService k { v with cfg := r })) ∧
    (ready → r.state = .defined → ¬clash → v.cfg.state = .active → exec .applyChange s = .next (u.setService k { v with
      cfg := r, challenger := none, streak := 0, attempts := 0, dark := false, advisory := none, selected := none })) ∧
    (ready → r.state = .active → ¬clash → v.pinned = none ∨ v.cfg.state ≠ .defined →
      exec .applyChange s = .next (u.setService k { v with cfg := r })) ∧
    (ready → r.state = .active → ¬clash → v.pinned.isSome = true → v.cfg.state = .defined →
      exec .applyChange s = .next ((u.setService k { v with cfg := r }).send [.pinnedWithoutSelection k])) ∧
    (∀ n, formService v.cfg [(2, n)] = { v.cfg with base := n } ∧ formService v.cfg [(4, n)] = { v.cfg with hysteresis := n } ∧
      formService v.cfg [(5, n)] = { v.cfg with confirm := n } ∧ formService v.cfg [(6, n)] = { v.cfg with minGrade := n } ∧
      formService v.cfg [(7, n)] = { v.cfg with cleanWait := n } ∧
      formService v.cfg [(8, n)] = { v.cfg with retryLimit := n } ∧
      formService v.cfg [(9, n)] = { v.cfg with guardLevel := n } ∧
      formService v.cfg [(10, n)] = { v.cfg with broadcast := n }) ∧
    (∀ j, j < 512 → s.changes = [] ∨ s.headHeld = false → exec (.leftArmedArrival j) s = .next (s.take (.leftArmedArrival j))) ∧
    (k < 512 → s.changes = h :: rest → s.headHeld = true → h.service = true →
      exec (.leftArmedArrival k) s = .next { s.take (.leftArmedArrival k) with headHeld := v.armed.isSome })

/-- A FREE candidate joins a service by its posted change, or the change fails with the first reason that fits (R41,
R42, R44, R45); a change to FREE takes the candidate out of its service and of the Lane Map (R24, R46 to R48). A change of
a candidate that is not FREE and stays so, READY, SURVEY, BARRED or QUARANTINED, fails with the first reason that fits or
takes effect whole: on its record, on its discard marks, on the Lane Map, on the pin, the selection, the challenge and the
advisory of its owner, and on the rank order of a new owner (R24, R41, R42, R44 to R50, R73; that a joining clears the
demotion mark is log 33, that an owner-only change sets no discard mark log 39). The Lane Map has at most 4,096 entries and holds the lanes of each candidate (R22; CapacityKept
states the law). -/
def Obligations.CandidateChange : Prop :=
  ∀ (s : State) (c k p lane : Nat) (tag : BitVec 16) (level : Nat) (fields : List (Nat × Nat)) (rest : List Change),
    s.phase = .running → s.canonical → s.laneMap.length ≤ 4096 → k < 512 → s.headHeld = false →
    s.changes = ⟨tag, level, false, c, fields⟩ :: rest →
    let x := s.candidate c
    let v := s.service k
    let u : State := { s with changes := rest }
    let failed (why : FailReason) : State :=
      (u.raise (.changeFailed tag 5 c)).post (.changeFailed tag 5 c why)
    let joining : Prop := fields = [(1, 1), (2, k), (3, p), (4, 1), (5, lane)] ∧ x = Candidate.default c ∧
      v.armed = none ∧ ∀ i e, s.lanePlace i = some e → e.candidate ≠ c
    let taken : Prop := (∃ i e, s.lanePlace i = some e ∧ e.source = p ∧ e.lane = lane) ∨
      (p < 12 ∧ (s.port p).cfg.marginLane = some lane) ∨ (p = 14 ∧ s.settings.controlLane = lane)
    (joining → v.cfg.state = .unused → exec .applyChange s = .next (failed .noOwner)) ∧
    (joining → v.cfg.state ≠ .unused → p = 12 ∨ p = 13 ∨ 14 < p → exec .applyChange s = .next (failed .stateMismatch)) ∧
    (joining → v.cfg.state ≠ .unused → p < 12 ∨ p = 14 → 6 ≤ v.rank.length →
      exec .applyChange s = .next (failed .listFull)) ∧
    (joining → v.cfg.state ≠ .unused → p < 12 ∨ p = 14 → v.rank.length < 6 → taken →
      exec .applyChange s = .next (failed .laneConflict)) ∧
    (joining → v.cfg.state ≠ .unused → p < 12 ∨ p = 14 → v.rank.length < 6 → ¬taken → 4096 ≤ s.laneMap.length →
      exec .applyChange s = .next (failed .mapFull)) ∧
    (∀ i, joining → v.cfg.state ≠ .unused → p < 12 ∨ p = 14 → v.rank.length < 6 → ¬taken → s.laneMap.length < 4096 →
      s.lanePlace i = none → (∀ j < i, s.lanePlace j ≠ none) → ∃ t,
      exec .applyChange s = .next t ∧
      t.candidate c = { x with
        cfg := ⟨.ready, some k, some p, [lane], none, 0⟩, measured := ⟨0, 0, 0, 0, 0, s.now⟩ } ∧
      t.service k = { v with rank := v.rank ++ [c] } ∧ t.lanePlace i = some ⟨p, lane, c, 0, none⟩ ∧
      (∀ d, d ≠ c → t.candidate d = s.candidate d) ∧ (∀ j, j ≠ k → t.service j = s.service j) ∧
      (∀ j, j ≠ i → t.lanePlace j = s.lanePlace j) ∧
      t = { s with changes := rest, candidates := t.candidates, services := t.services, laneMap := t.laneMap }) ∧
    (fields = [(1, 0)] → x.cfg.state ≠ .free → x.cfg.source ≠ none → x.cfg.owner = some k → v.armed = none → ∃ t,
      exec .applyChange s = .next t ∧ t.candidate c = Candidate.default c ∧
      (∀ d, d ≠ c → t.candidate d = s.candidate d) ∧
      (∀ i, t.lanePlace i = (s.lanePlace i).bind fun e => if e.candidate = c then none else some e) ∧
      (t.service k).rank = v.rank.erase c ∧ (t.service k).cfg = v.cfg ∧
      (t.service k).selected = (if v.selected = some c then none else v.selected) ∧
      (t.service k).pinned = (if v.pinned = some c then none else v.pinned) ∧
      (t.service k).challenger = (if v.challenger = some c then none else v.challenger) ∧
      (t.service k).advisory = (if v.advisory = some c then none else v.advisory) ∧
      (∀ j, j ≠ k → t.service j = s.service j) ∧
      (v.selected ≠ some c → t.inFlight = s.inFlight) ∧
      (v.selected = some c → v.cfg.state = .active → v.pinned = none ∨ v.pinned = some c →
        t.inFlight = s.inFlight ++ (match s.firstEligible (v.rank.erase c) [c] with
          | some e => [.switchRequest k e .urgent]
          | none => [.darkArrival k])) ∧
      t = { s with
        changes := rest, candidates := t.candidates, services := t.services, laneMap := t.laneMap, inFlight := t.inFlight }) ∧
    (let old := x.cfg
     let given (f : Nat) : Option Nat := (fields.find? fun z => z.1 == f).map Prod.snd
     let r : CandidateConfig :=
       { state := match given 1 with
           | none => old.state
           | some a => if a = 1 then .ready else if a = 2 then .survey else if a = 4 then .barred else .free
         owner := match given 2 with | none => old.owner | some a => some a
         source := match given 3 with | none => old.source | some a => some a
         lanes := match given 4 with
           | none => old.lanes
           | some n => (List.range n).map fun i => (given (5 + i)).getD 0xFFFFFFFF
         expected := match given 13 with
           | none => old.expected
           | some a => if a = 0xFFFFFFFF then none else some a
         weightSet := (given 14).getD old.weightSet }
     -- Candidate `c` of service `k` stays, or passes to service `j`, with source `y`; neither service is ARMED.
     let changes (j y : Nat) : Prop := old.state ≠ .free ∧ old.owner = some k ∧ v.armed = none ∧ r.state ≠ .free ∧
       r.owner = some j ∧ (s.service j).armed = none ∧ r.source = some y ∧ s.laneMapLaw
     let joined : Bool := decide (old.owner ≠ r.owner)
     let moved : Bool := decide (old.source ≠ r.source)
     let reset : Bool := moved || decide (old.lanes ≠ r.lanes)
     let barredNow : Bool := decide (r.state = .barred ∧ old.state ≠ .barred)
     let suits (y : Nat) : Prop := r.lanes ≠ [] ∧ r.lanes.length ≤ 8 ∧ (r.state = .ready → y < 12 ∨ y = 14) ∧
       (r.state = .survey → 64 ≤ y)
     let full (j : Nat) : Prop := joined = true ∧ 6 ≤ (s.service j).rank.length
     let meets (y : Nat) : Prop := ∃ a ∈ r.lanes, (∃ i e, s.lanePlace i = some e ∧ e.source = y ∧ e.lane = a ∧
       e.candidate ≠ c) ∨ (y < 12 ∧ (s.port y).cfg.marginLane = some a) ∨
       (64 ≤ y ∧ ((s.port 12).cfg.marginLane = some a ∨ (s.port 13).cfg.marginLane = some a)) ∨
       (y = 14 ∧ s.settings.controlLane = a)
     let crowded : Prop := 4096 + old.lanes.length < s.laneMap.length + r.lanes.length
     (∀ j y, changes j y → (s.service j).cfg.state = .unused → exec .applyChange s = .next (failed .noOwner)) ∧
     (∀ j y, changes j y → (s.service j).cfg.state ≠ .unused →
       (¬suits y → exec .applyChange s = .next (failed .stateMismatch)) ∧
       (suits y → full j → exec .applyChange s = .next (failed .listFull)) ∧
       (suits y → ¬full j → meets y → exec .applyChange s = .next (failed .laneConflict)) ∧
       (suits y → ¬full j → ¬meets y → crowded → exec .applyChange s = .next (failed .mapFull)) ∧
       (suits y → ¬full j → ¬meets y → ¬crowded → ∃ t, exec .applyChange s = .next t ∧
         -- The record: kept but where the candidate joins, its source or lanes change, or it is barred.
         t.candidate c = { x with
           cfg := r
           flaps := if joined then 0 else x.flaps
           decay := if joined then 0 else x.decay
           demoted := if joined then false else x.demoted
           quarantine := if r.state = .barred then none else x.quarantine
           directory := if joined || moved || decide (old.expected ≠ r.expected) then .unchecked else x.directory
           misses := if joined || moved || decide (old.expected ≠ r.expected) then 0 else x.misses
           measured := if joined || reset then ⟨0, 0, 0, 0, 0, s.now⟩ else x.measured
           grade := if joined || reset then none else x.grade
           discard12 := (t.candidate c).discard12
           discard13 := (t.candidate c).discard13 } ∧
         (let touched (p : Nat) : Prop := reset = true ∧ ∃ e q, (old.source = some (64 + e) ∨ y = 64 + e) ∧
            ((∃ d, (s.sweepPort p).visit = some ⟨e, q, .dwelling d⟩) ∨ (s.sweepPort p).visit = some ⟨e, q, .grading⟩)
          ((t.candidate c).discard12 = true ↔ x.discard12 = true ∨ touched 12) ∧
          ((t.candidate c).discard13 = true ↔ x.discard13 = true ∨ touched 13)) ∧
         (∀ d, d ≠ c → t.candidate d = s.candidate d) ∧
         -- The Lane Map: kept, or the candidate's entries renewed in the lowest free places, in slot order.
         (reset = false → t.laneMap = s.laneMap) ∧
         (reset = true → ∃ places : List Nat, places.length = r.lanes.length ∧ places.Pairwise (· < ·) ∧
           (∀ m i, places[m]? = some i → t.lanePlace i = r.lanes[m]?.map fun a => ⟨y, a, c, m, none⟩) ∧
           (∀ i, i ∉ places → t.lanePlace i = (s.lanePlace i).bind fun e => if e.candidate = c then none else some e) ∧
           (∀ i ∈ places, (∀ e, s.lanePlace i = some e → e.candidate = c) ∧ ∀ a < i, t.lanePlace a ≠ none)) ∧
         -- The old owner's fields, and the new owner's rank order.
         (let away : Bool := joined || barredNow
          let lost : Bool := away || moved || decide (old.lanes.head? ≠ r.lanes.head?)
          let order := if joined then v.rank.erase c else v.rank
          let pin := if (away || decide (64 ≤ y)) && decide (v.pinned = some c) then none else v.pinned
          let beaten : Bool := away && decide (v.challenger = some c)
          t.service k = { v with
            rank := order
            advisory := if joined && decide (v.advisory = some c) then none else v.advisory
            challenger := if beaten then none else v.challenger
            streak := if beaten then 0 else v.streak
            attempts := if beaten then 0 else v.attempts
            pinned := pin
            selected := if lost && decide (v.selected = some c) then none else v.selected } ∧
          (j ≠ k → t.service j = { s.service j with rank := (s.service j).rank ++ [c] }) ∧
          (∀ i, i ≠ k → i ≠ j → t.service i = s.service i) ∧
          (v.selected ≠ some c ∨ lost = false ∨ v.cfg.state ≠ .active → t.inFlight = s.inFlight) ∧
          (v.selected = some c → lost = true → v.cfg.state = .active → t.inFlight = s.inFlight ++
            [if pin.isSome then .pinnedWithoutSelection k else match s.firstEligible order [c] with
              | some e => .switchRequest k e .urgent
              | none => .darkArrival k])) ∧
         t = { s with
           changes := rest, candidates := t.candidates, services := t.services, laneMap := t.laneMap
           inFlight := t.inFlight })))

/-- SERVICE and CANDIDATE writes that pass their checks become posted changes in the order of their indices; one that
does not fit the list is refused FULL, one out of range RANGE, one of too low a privilege LEVEL (R35 to R38). -/
def Obligations.PostedWrites : Prop :=
  ∀ (s : State) (run : Bool) (q : Cmd) (w : TableWrite), s.takesCommand → writeBody run q.body = some w →
    let code : Byte := if run then 0x04 else 0x03
    let guard (j : Nat) : Nat := if (s.service j).cfg.state = .unused then 1 else (s.service j).cfg.guardLevel
    let generic : Instr := if run then .loadRun q else .writeEntry q
    let both (row : Instr) (t : State) : Prop := exec row s = .next t ∧ exec generic s = .next t
    let posted (service : Bool) : State :=
      ({ s with changes := s.changes ++ w.covers.map fun (e : Nat × List (Nat × Nat)) => Change.mk q.tag q.level service e.1 e.2 }).replies q code .accepted
        (be8 w.table ++ be16 w.index ++ be8 w.entries.length)
    (w.table = 4 → w.inRange = true → s.admitsLevel q.level 2 → (∀ e ∈ w.covers, q.level ≤ guard e.1) →
      s.changes.length + w.entries.length ≤ 32 → both (.serviceWrite run q) (posted true)) ∧
    (w.table = 4 → w.inRange = true → s.admitsLevel q.level 2 → (∀ e ∈ w.covers, q.level ≤ guard e.1) →
      32 < s.changes.length + w.entries.length → both (.serviceWrite run q) (s.refuses q code .full)) ∧
    (w.table = 4 → s.admitsLevel q.level 2 → (∀ e ∈ w.covers, q.level ≤ guard e.1) → w.inRange = false →
      both (.serviceWrite run q) (s.refuses q code .range)) ∧
    (∀ e ∈ w.covers, w.table = 4 → e.1 < 512 → guard e.1 < q.level → both (.serviceWrite run q) (s.refuses q code .level)) ∧
    (w.table = 5 → w.inRange = true → s.admitsLevel q.level 2 →
      (∀ e ∈ w.covers, q.level ≤ demandOfOwners s (s.candidate e.1).cfg.owner (ownerAfter s e.1 e.2)) →
      s.changes.length + w.entries.length ≤ 32 → both (.candidateWrite run q) (posted false)) ∧
    (w.table = 5 → w.inRange = true → s.admitsLevel q.level 2 →
      (∀ e ∈ w.covers, q.level ≤ demandOfOwners s (s.candidate e.1).cfg.owner (ownerAfter s e.1 e.2)) →
      32 < s.changes.length + w.entries.length → both (.candidateWrite run q) (s.refuses q code .full)) ∧
    (w.table = 5 → s.admitsLevel q.level 2 →
      (∀ e ∈ w.covers, q.level ≤ demandOfOwners s (s.candidate e.1).cfg.owner (ownerAfter s e.1 e.2)) → w.inRange = false →
      both (.candidateWrite run q) (s.refuses q code .range)) ∧
    (∀ e ∈ w.covers, w.table = 5 → e.1 < 2048 →
      demandOfOwners s (s.candidate e.1).cfg.owner (ownerAfter s e.1 e.2) < q.level →
      both (.candidateWrite run q) (s.refuses q code .level)) ∧
    (∀ j n, demandOfOwners s none none = 1 ∧ demandOfOwners s (some j) none = guard j ∧
      demandOfOwners s none (some n) = guard n ∧ demandOfOwners s (some j) (some n) = min (guard j) (guard n)) ∧
    (w.entries ≠ [] → ∀ e ∈ w.covers, w.table = 5 → (2048 ≤ e.1 ∨ e.2 = [] ∨ ¬(e.2.map Prod.fst).Nodup ∨
      (∃ fv ∈ e.2, fv.1 = 0 ∨ 14 < fv.1) ∨ (1, 3) ∈ e.2 ∨ ((1, 0) ∈ e.2 ∧ 1 < e.2.length)) → w.inRange = false)

/-! ### The Sweep Controller -/

/-- The attempts of a tuner transaction: acknowledged, failed with a retry gap, begun again, failed for the fourth time by
a missing acknowledge or by the 2 ms limit, and acknowledged under a hold, which ends the visit ABORTED (R123, R127,
R129). -/
def Obligations.TunerTransaction : Prop :=
  ∀ (s : State) (p e n time l : Nat) (o : List Byte) (q : Bool), s.phase = .running → p = 12 ∨ p = 13 →
    let m := s.sweepPort p
    let on (x : VisitPhase) : SweepPort := { m with visit := some ⟨e, q, x⟩ }
    let entry := (s.sweepEntry e).cfg
    (m = on (.tuning n (.attempt o l)) → m.held = false → exec (.tunerAttemptDone p true time) s =
      .next (((s.atTime time).send [.retuneRequest p]).setSweepPort p (on (.settling (max s.now time + entry.settle))))) ∧
    (m = on (.tuning n (.attempt o l)) → n < 4 → exec (.tunerAttemptDone p false time) s =
      .next ((s.atTime time).setSweepPort p (on (.tuning n (.gap (max s.now time + 10)))))) ∧
    (m = on (.tuning n (.attempt o l)) → n < 4 → exec (.attemptLimitExpiry p) s =
      .next ((s.atTime l).setSweepPort p (on (.tuning n (.gap (max s.now l + 10)))))) ∧
    (m = on (.tuning n (.gap l)) → exec (.retryGapExpiry p) s = .next ((s.atTime l).setSweepPort p
      (on (.tuning (n + 1) (.attempt (be8 (2 * (s.port p).cfg.tunerAddr) ++ be32 entry.frequency ++ be8 entry.profile)
        (max s.now l + 2)))))) ∧
    (let ends (i : Instr) (outcome : VisitOutcome) (posts : List Instr) (cursor : Nat) : Prop :=
       (s.port p).held = none → (s.sweepEntry e).held = none → ∃ t, exec i s = .next t ∧
       t.sweepEntry e = { s.sweepEntry e with lastOutcome := outcome, lastVisit := some s.intervalNumber } ∧
       t.port p = { s.port p with given := none } ∧ t.inFlight = s.inFlight ++ posts ∧
       (m.held = true → t.sweepPort p = { m with visit := none, cursor := if q then m.cursor else cursor })
     let failure (z : Nat) : List Instr :=
       [.faultRecord (.tunerLink p e), .noticePost (.visitFailed e p .noAck) (s.atTime z).clock]
     (m = on (.tuning n (.attempt o l)) → 4 ≤ n → ends (.attemptLimitExpiry p) .noAck (failure l) ((e + 1) % 64) ∧
       ends (.tunerAttemptDone p false time) .noAck (failure time) ((e + 1) % 64)) ∧
     (m = on (.tuning n (.attempt o l)) → m.held = true →
       ends (.tunerAttemptDone p true time) .aborted [.retuneRequest p] e)) ∧
    (m.visit = none → exec (.tunerAttemptDone p true time) s = .next (s.atTime time) ∧
      exec (.attemptLimitExpiry p) s = .next s ∧ exec (.retryGapExpiry p) s = .next s)

/-- Full lock of a LOCKED port starts a dwell; the dwell timer's expiry withdraws the source and hands over the interval
number and the margin readings for the survey grading (R1, R69, R71, R124 to R126, R134). -/
def Obligations.DwellBeginsAndEnds : Prop :=
  ∀ (s : State) (p e d lock : Nat) (q : Bool), s.phase = .running → s.canonical → p = 12 ∨ p = 13 → lock ≤ 2 →
    let m := s.sweepPort p
    let i : Instr := .sweepMarginArrival p lock
    (m.visit = some ⟨e, q, .settling d⟩ → lock = 2 → (s.port p).state = .locked → .retuneRequest p ∉ s.inFlight → ∃ t,
      exec i s = .next t ∧
      t.sweepPort p = { m with visit := some ⟨e, q, .dwelling (s.now + (s.sweepEntry e).cfg.dwell)⟩ } ∧
      t.port p = { s.port p with given := some e, readings := ⟨none, 0, 0, false⟩ } ∧
      t.dirContext p = ⟨some (64 + e), none, .none, ⟨none, []⟩⟩ ∧
      (∀ c, t.candidate c = if (s.candidate c).cfg.source = some (64 + e)
        then { s.candidate c with measured := ⟨0, 0, 0, 0, 0, s.now⟩ } else s.candidate c) ∧
      (∀ j, t.lanePlace j = (s.lanePlace j).map fun x => if x.source = 64 + e then { x with lastSeq := none } else x) ∧
      t.sourceOfPort p = some (64 + e) ∧ t.inFlight = s.inFlight.erase i) ∧
    (m.visit = some ⟨e, q, .settling d⟩ → lock ≠ 2 ∨ (s.port p).state ≠ .locked → exec i s = .next (s.take i)) ∧
    ((∀ a b x, m.visit ≠ some ⟨a, b, .settling x⟩) → exec i s = .next (s.take i)) ∧
    (m.visit = some ⟨e, q, .dwelling d⟩ → ∃ t,
      exec (.dwellTimerExpiry p) s = .next t ∧ t.now = max s.now d ∧ t.sweepPort p = { m with visit := some ⟨e, q, .grading⟩ } ∧
      t.port p = { s.port p with given := none } ∧ t.sourceOfPort p = none ∧
      t.dirContext p = ⟨none, none, .none, ⟨none, []⟩⟩ ∧
      t.inFlight = s.inFlight ++
        [.surveyGrading ⟨e, p, max s.now d, s.intervalNumber, (s.port p).readings, (s.port p).cfg.marginLane.isSome⟩] ∧
      t.candidates = s.candidates ∧ t.laneMap = s.laneMap) ∧
    ((∀ a b x, m.visit ≠ some ⟨a, b, .dwelling x⟩) → exec (.dwellTimerExpiry p) s = .next s)

/-- The ends of a visit in SETTLING and DWELLING: NO LOCK, an abort by outage, GRADED; a held port does not choose again
(R122, R124, R126 to R128). The held SWEEP write of the entry and the held PORT write of the port are applied at the end,
the margin lane left out with CHANGE FAILED where it meets a Lane Map entry (R3, R118, R127); no discard mark of the port's
dwell outlives it (R73). -/
def Obligations.VisitEnds : Prop :=
  ∀ (s : State) (p e d : Nat) (q : Bool), s.phase = .running → p = 12 ∨ p = 13 →
    let m := s.sweepPort p
    let v := s.port p
    let entry := s.sweepEntry e
    let left : SweepPort := { m with visit := none, cursor := if q then m.cursor else (e + 1) % 64 }
    let given (fields : List (Nat × Nat)) (f old : Nat) : Nat := ((fields.find? fun x => x.1 == f).map Prod.snd).getD old
    let ended (i : Instr) (outcome : VisitOutcome) (posts : List Instr) : Prop :=
      v.held = none → entry.held = none → ∃ t, exec i s = .next t ∧
      t.sweepEntry e = { entry with lastOutcome := outcome, lastVisit := some s.intervalNumber } ∧
      t.port p = { v with given := none } ∧ t.inFlight = s.inFlight.erase i ++ posts ∧
      (m.held = true → t.sweepPort p = left)
    let sweepApplied (i : Instr) (outcome : VisitOutcome) (posts : List Instr) : Prop :=
      ∀ h, v.held = none → entry.held = some h → (h.map Prod.fst).Nodup → (∀ x ∈ h, sweepRange x.1 x.2 = true) →
      m.held = true → (s.sweepPort (25 - p)).held = true → ∃ t, exec i s = .next t ∧
      (∀ f, 1 ≤ f → f ≤ 6 → readField t .sweep e f = given h f (readField s .sweep e f)) ∧
      t.sweepEntry e = { entry with
        cfg := (t.sweepEntry e).cfg, held := none, lastOutcome := outcome, lastVisit := some s.intervalNumber } ∧
      t.visitQueue = (if (t.sweepEntry e).cfg.state = .enabled then s.visitQueue else s.visitQueue.erase e) ∧
      t.sweepPort p = left ∧ t.inFlight = s.inFlight.erase i ++ posts
    let portApplied (i : Instr) (posts : List Instr) (clock : IntervalStamp) : Prop :=
      ∀ h, s.canonical → entry.held = none → v.held = some h → (h.fields.map Prod.fst).Nodup →
      (∀ x ∈ h.fields, portRange p x.1 x.2 = true) → m.held = true →
      let meets : Prop := ∃ j x n, s.lanePlace j = some x ∧ (2, n) ∈ h.fields ∧ x.lane = n ∧ n ≤ 8190 ∧ 64 ≤ x.source
      ∃ t, exec i s = .next t ∧ (t.port p).held = none ∧ (t.port p).counters = v.counters ∧ t.sweepPort p = left ∧
      (∀ f, 1 ≤ f → f ≤ 5 → f ≠ 2 → readField t .port p f = given h.fields f (readField s .port p f)) ∧
      ((t.port p).cfg.enable ≠ v.cfg.enable ∨ (t.port p).cfg.marginLane ≠ v.cfg.marginLane →
        (t.port p).state = if (t.port p).cfg.enable = true then .seeking else .disabled) ∧
      (let gone : List Instr := if ((t.port p).cfg.enable ≠ v.cfg.enable ∨ (t.port p).cfg.marginLane ≠ v.cfg.marginLane) ∧
           (v.state = .locked ∨ v.state = .holdover) then [.classifierLeftLocked p, .directoryLeftLocked p] else []
       (¬meets → readField t .port p 2 = given h.fields 2 (readField s .port p 2) ∧
         t.inFlight = s.inFlight.erase i ++ posts ++ gone) ∧
       (∀ tag, meets → h.marginTag = some tag → (t.port p).cfg.marginLane = v.cfg.marginLane ∧
         t.inFlight = s.inFlight.erase i ++ posts ++ gone ++
           [.faultRecord (.changeFailed tag 1 p), .noticePost (.changeFailed tag 1 p .laneConflict) clock]))
    let ends (i : Instr) (outcome : VisitOutcome) (posts : List Instr) (clock : IntervalStamp) : Prop :=
      ended i outcome posts ∧ sweepApplied i outcome posts ∧ portApplied i posts clock
    let unmarked (i : Instr) : Prop := s.canonical → v.held = none → entry.held = none → ∃ t, exec i s = .next t ∧
      ∀ c, t.candidate c = if p = 12 then { s.candidate c with discard12 := false }
        else { s.candidate c with discard13 := false }
    (m.visit = some ⟨e, q, .settling d⟩ → .settleTimerExpiry p ∉ s.inFlight →
      ends (.settleTimerExpiry p) .noLock [.noticePost (.visitFailed e p .noLock) (s.atTime d).clock] (s.atTime d).clock) ∧
    (m.visit = some ⟨e, q, .dwelling d⟩ →
      ends (.sweepOutageArrival p) .aborted [] s.clock ∧ unmarked (.sweepOutageArrival p)) ∧
    (m.visit = some ⟨e, q, .grading⟩ →
      ends (.surveyGradingComplete p) .graded [] s.clock ∧ unmarked (.surveyGradingComplete p)) ∧
    ((∀ a b x, m.visit ≠ some ⟨a, b, .dwelling x⟩) →
      exec (.sweepOutageArrival p) s = .next (s.take (.sweepOutageArrival p))) ∧
    ((∀ a b, m.visit ≠ some ⟨a, b, .grading⟩) →
      exec (.surveyGradingComplete p) s = .next (s.take (.surveyGradingComplete p))) ∧
    ((∀ a b x, m.visit ≠ some ⟨a, b, .settling x⟩) → exec (.settleTimerExpiry p) s = .next s)

/-- SWEEP HOLD and SWEEP RESUME on one port and on both, with the octets of the reply, VISIT NOW, and the choice an idle
port makes (R120, R121, R122, R129, R130); an aborted dwell leaves no discard mark (R73) and idles the port's directory
context (R134). -/
def Obligations.HoldResumeVisit : Prop :=
  ∀ (s : State) (c : Cmd) (p e : Nat), s.takesCommand → p = 12 ∨ p = 13 →
    let m := s.sweepPort p
    let other := 25 - p
    let begun (now : Nat) : Visit := ⟨e, true, .tuning 1 (.attempt (be8 (2 * (s.port p).cfg.tunerAddr) ++
      be32 (s.sweepEntry e).cfg.frequency ++ be8 (s.sweepEntry e).cfg.profile) (now + 2))⟩
    let admitted : Prop := (s.sweepEntry e).cfg.affinity = .any ∨
      ((s.sweepEntry e).cfg.affinity = .sp0 ∧ p = 12) ∨ ((s.sweepEntry e).cfg.affinity = .sp1 ∧ p = 13)
    let names : Prop := c.body = be8 (p - 12)
    -- 0 IDLE, 1 TUNING, 2 SETTLING, 3 DWELLING; then the held flag; port 12 first.
    let shows (r : SweepPort) : List Byte := be8 (match r.visit.map Visit.phase with
      | none => 0
      | some (.tuning _ _) => 1
      | some (.settling _) => 2
      | some (.dwelling _) => 3
      | some .grading => 3) ++ be8 r.held.toNat
    let stays (r : SweepPort) : Prop := ∀ a b d, r.visit ≠ some ⟨a, b, .settling d⟩ ∧ r.visit ≠ some ⟨a, b, .dwelling d⟩
    (∀ n < 3, s.admitsLevel c.level 1 → c.body = be8 n →
      (∃ t, exec (.sweepHold c) s = .next t ∧
        t.replyInHand = some ⟨c.tag, 0x20, .done, .none, shows (t.sweepPort 12) ++ shows (t.sweepPort 13)⟩) ∧
      (∃ t, exec (.sweepResume c) s = .next t ∧
        t.replyInHand = some ⟨c.tag, 0x21, .done, .none, shows (t.sweepPort 12) ++ shows (t.sweepPort 13)⟩)) ∧
    (s.admitsLevel c.level 1 → names → stays m ∨ m.held = true → ∃ t, exec (.sweepHold c) s = .next t ∧
      t.sweepPort p = { m with held := true } ∧ t.sweepPort other = s.sweepPort other ∧ t.inFlight = s.inFlight ∧
      (m.held = true → t.sweepPorts = s.sweepPorts) ∧
      t = { s with sweepPorts := t.sweepPorts, replyInHand := t.replyInHand }) ∧
    (∀ x d phase, s.admitsLevel c.level 1 → names → m.visit = some ⟨e, x, phase⟩ →
      phase = .settling d ∨ phase = .dwelling d → m.held = false →
      (s.port p).held = none → (s.sweepEntry e).held = none → ∃ t, exec (.sweepHold c) s = .next t ∧
      t.sweepPort p = { m with visit := none, held := true, cursor := if x then m.cursor else e } ∧
      t.sweepEntry e = { s.sweepEntry e with lastOutcome := .aborted, lastVisit := some s.intervalNumber } ∧
      t.port p = { s.port p with given := none } ∧ t.inFlight = s.inFlight ∧ t.laneMap = s.laneMap ∧
      (phase = .settling d → t.candidates = s.candidates ∧ t.contexts = s.contexts) ∧
      (phase = .dwelling d → t.dirContext p = ⟨none, none, .none, ⟨none, []⟩⟩ ∧
        (s.canonical → ∀ j, t.candidate j = if p = 12 then { s.candidate j with discard12 := false }
          else { s.candidate j with discard13 := false }))) ∧
    (s.admitsLevel c.level 1 → c.body = be8 2 → ∃ t, exec (.sweepHold c) s = .next t ∧ ∀ r, r = 12 ∨ r = 13 →
      (stays (s.sweepPort r) ∨ (s.sweepPort r).held = true → t.sweepPort r = { s.sweepPort r with held := true }) ∧
      (∀ a x d phase, (s.sweepPort r).visit = some ⟨a, x, phase⟩ → phase = .settling d ∨ phase = .dwelling d →
        (s.sweepPort r).held = false → t.sweepPort r =
          { s.sweepPort r with visit := none, held := true, cursor := if x then (s.sweepPort r).cursor else a })) ∧
    (s.admitsLevel c.level 1 → c.body = be8 2 → ∃ t, exec (.sweepResume c) s = .next t ∧ ∀ r, r = 12 ∨ r = 13 →
      (t.sweepPort r).held = false ∧
      ((s.sweepPort r).visit.isSome = true → t.sweepPort r = { s.sweepPort r with held := false })) ∧
    (s.admitsLevel c.level 1 → names → m.visit.isSome = true → ∃ t, exec (.sweepResume c) s = .next t ∧
      t.sweepPort p = { m with held := false } ∧ t.inFlight = s.inFlight) ∧
    (s.admitsLevel c.level 1 → (∀ n < 3, c.body ≠ be8 n) → c.body.length = 1 →
      exec (.sweepHold c) s = .next (s.refuses c 0x20 .range) ∧ exec (.sweepResume c) s = .next (s.refuses c 0x21 .range)) ∧
    (s.admitsLevel c.level 1 → names → m.visit = none → m.held = true → (s.port p).cfg.enable = true →
      (s.sweepPort other).held = true → s.visitQueue = [e] → admitted → ∃ t,
      exec (.sweepResume c) s = .next t ∧ t.visitQueue = [] ∧
      t.sweepPort p = { m with held := false, visit := some (begun s.now) } ∧ t.sweepPort other = s.sweepPort other) ∧
    (s.admitsLevel c.level 2 → c.body = be8 e → e < 64 → (s.sweepEntry e).cfg.state ≠ .enabled →
      exec (.visitNow c) s = .next (s.refuses c 0x22 .state)) ∧
    (s.admitsLevel c.level 2 → c.body = be8 e → 64 ≤ e → e < 256 → exec (.visitNow c) s = .next (s.refuses c 0x22 .range)) ∧
    (s.admitsLevel c.level 2 → c.body = be8 e → e < 64 → (s.sweepEntry e).cfg.state = .enabled → e ∈ s.visitQueue →
      s.underVisit e = false → exec (.visitNow c) s =
        .next (s.replies c 0x22 .done (be8 (s.visitQueue.idxOf e + 1)))) ∧
    (s.admitsLevel c.level 2 → c.body = be8 e → e < 64 → (s.sweepEntry e).cfg.state = .enabled →
      s.underVisit e = true → exec (.visitNow c) s = .next (s.replies c 0x22 .done [0xFF])) ∧
    (s.admitsLevel c.level 2 → c.body = be8 e → e < 64 → (s.sweepEntry e).cfg.state = .enabled → e ∉ s.visitQueue →
      s.underVisit e = false → 8 ≤ s.visitQueue.length → exec (.visitNow c) s = .next (s.refuses c 0x22 .full)) ∧
    (s.admitsLevel c.level 2 → c.body = be8 e → e < 64 → (s.sweepEntry e).cfg.state = .enabled → e ∉ s.visitQueue →
      s.underVisit e = false → s.visitQueue.length < 8 → m.held = true → (s.sweepPort other).held = true →
      exec (.visitNow c) s = .next (({ s with visitQueue := s.visitQueue ++ [e] }).replies c 0x22 .done
        (be8 (s.visitQueue.length + 1)))) ∧
    (s.admitsLevel c.level 2 → c.body = be8 e → e < 64 → (s.sweepEntry e).cfg.state = .enabled → s.visitQueue = [] →
      s.underVisit e = false → m.visit = none → m.held = false → (s.port p).cfg.enable = true →
      (s.sweepPort other).held = true → admitted → ∃ t, exec (.visitNow c) s = .next t ∧ t.visitQueue = [] ∧
      t.sweepPort p = { m with visit := some (begun s.now) } ∧ t.underVisit e = true ∧
      t.replyInHand = some ⟨c.tag, 0x22, .done, .none, [0xFF]⟩)

/-! ### Directory Watch -/

/-- A lane-0 packet at a context: discarded by a context that does not collect for its source (log 15), passed over
without payload or as a repeat, a section in hand dropped at a sequence break, a section received in part and completed by
a later packet, a section with a bad CRC counted, a good one taken by the row of R138 that fits, and a set that holds every
section taken as a complete directory: snapshot, candidate checks, Discovery Log, requests and notice (R134 to R142). -/
def Obligations.DirectoryPacket : Prop :=
  ∀ (s : State) (p x : Nat) (packet : Packet) (sec rest l : List Byte), s.phase = .running → s.canonical → p < 15 →
    packet.length = 188 →
    let c := s.dirContext p
    let i : Instr := .directoryPacket p x packet
    let u := s.take i
    let n := seqOf packet
    let breaks : Prop := saysNoPayload packet = false ∧
      (isDiscontinuous packet = true ∨ ∃ k, c.lastSeq = some k ∧ n ≠ k ∧ n ≠ (k + 1) % 16)
    let size := beAt sec 1 2 % 1024
    let fits : Prop := octetAt sec 0 = 0 ∧ 9 ≤ size ∧ size ≤ 1021 ∧ (size - 9) % 4 = 0
    -- The octets of `sec`, and `rest` after them, begin at a pointer of 0, or follow those in hand.
    let begins : Prop := c.source = some x ∧ c.section_ = .none ∧ saysNoPayload packet = false ∧
      (isDiscontinuous packet = true ∨ c.lastSeq ≠ some n) ∧ isStart packet = true ∧ sec ≠ [] ∧
      payloadOf packet = 0 :: sec ++ rest
    let follows : Prop := c.source = some x ∧ c.section_ = .receiving l ∧ saysNoPayload packet = false ∧
      isDiscontinuous packet = false ∧ (∀ k, c.lastSeq = some k → n = (k + 1) % 16) ∧ isStart packet = false ∧
      l.length < sec.length ∧ l ++ payloadOf packet = sec ++ rest
    let carries : Prop := (begins ∨ follows) ∧ fits ∧ sec.length = size + 3 ∧ (rest = [] ∨ rest.head? = some 0xFF)
    let after := u.setDirContext p { c with lastSeq := some n, section_ := .none }
    let dropped : Port := { s.port p with counters := { (s.port p).counters with
      discards := min 0xFFFFFFFF ((s.port p).counters.discards + 1) } }
    let entries := sectionEntries ((size - 9) / 4) (sec.drop 8)
    let number := octetAt sec 6
    let ident : SetIdentity := ⟨beAt sec 3 2, octetAt sec 5 % 32, octetAt sec 7⟩
    let good : Prop := carries ∧ crc32 sec = 0 ∧ 128 ≤ octetAt sec 5
    -- The sections the set holds with this one, after a set of another identity is abandoned.
    let kept : List (Nat × List (Nat × Nat)) := match c.set.identity with
      | none => c.set.held
      | some j => if j = ident then c.set.held else []
    let abandons : Bool := match c.set.identity with
      | none => false
      | some j => decide (j ≠ ident) && decide (c.set.held ≠ [])
    let held := kept ++ [(number, entries)]
    let placed : Prop := good ∧ number ≤ ident.last ∧ ident.last ≤ 3 ∧
      (c.set.identity = some ident → number ∉ c.set.held.map Prod.fst)
    let whole : Prop := ∀ j ≤ ident.last, j ∈ held.map Prod.fst
    let offered := (List.range (ident.last + 1)).flatMap fun j => ((held.find? fun z => z.1 == j).map Prod.snd).getD []
    (c.source ≠ some x → exec i s = .next u) ∧
    (c.source = some x → saysNoPayload packet = true → exec i s = .next (u.setDirContext p c)) ∧
    (c.source = some x → saysNoPayload packet = false → isDiscontinuous packet = false → c.lastSeq = some n →
      exec i s = .next (u.setDirContext p c)) ∧
    (c.source = some x → breaks → c.section_ = .receiving l → isStart packet = false →
      exec i s = .next (after.setPort p dropped)) ∧
    (begins ∨ follows → rest = [] → sec.length < 3 ∨ (fits ∧ sec.length < size + 3) →
      exec i s = .next (u.setDirContext p { c with lastSeq := some n, section_ := .receiving sec })) ∧
    (carries → crc32 sec ≠ 0 → exec i s = .next (after.setPort p { s.port p with counters := { (s.port p).counters with
      crcFailures := min 0xFFFFFFFF ((s.port p).counters.crcFailures + 1) } })) ∧
    (carries → crc32 sec = 0 → octetAt sec 5 < 128 → exec i s = .next after) ∧
    (good → 3 < ident.last ∨ ident.last < number → exec i s = .next ((u.setDirContext p
      { c with lastSeq := some n, section_ := .none, set := ⟨none, []⟩ }).setPort p dropped)) ∧
    (good → number ≤ ident.last → ident.last ≤ 3 → c.set.identity = some ident → number ∈ c.set.held.map Prod.fst →
      exec i s = .next after) ∧
    (placed → ¬whole →
      let w := u.setDirContext p { c with lastSeq := some n, section_ := .none, set := ⟨some ident, held⟩ }
      exec i s = .next (if abandons then w.setPort p dropped else w)) ∧
    (placed → whole → ∃ t,
      exec i s = .next t ∧ t.dirContext p = { c with lastSeq := some n, section_ := .none, set := ⟨none, []⟩ } ∧
      (∀ j, j ≠ p → t.dirContext j = s.dirContext j) ∧
      t.port p = (if abandons then dropped else s.port p) ∧ (∀ j, j ≠ p → t.port j = s.port j) ∧
      t.snapshot x = some ⟨ident.stream, ident.version, offered.length, offered.take 64, s.intervalNumber,
        match s.snapshot x with | none => 1 | some w => w.completions + 1⟩ ∧
      (∀ y, y ≠ x → t.snapshot y = s.snapshot y) ∧
      (∀ d, (s.candidate d).cfg.state = .free ∨ (s.candidate d).cfg.source ≠ some x ∨ (s.candidate d).cfg.expected = none →
        t.candidate d = s.candidate d) ∧
      (∀ d m, (s.candidate d).cfg.state ≠ .free → (s.candidate d).cfg.source = some x →
        (s.candidate d).cfg.expected = some m →
        (m ∈ offered.map Prod.fst → t.candidate d = { s.candidate d with directory := .confirmed, misses := 0 }) ∧
        (m ∉ offered.map Prod.fst → (s.candidate d).misses = 0 →
          t.candidate d = { s.candidate d with directory := .missing, misses := 1 }) ∧
        (m ∉ offered.map Prod.fst → (s.candidate d).misses ≠ 0 →
          t.candidate d = { s.candidate d with directory := .missing, misses := 0 } ∧
          .directoryQuarantineRequest d ∈ t.inFlight)) ∧
      -- The discoveries: the numbers that no candidate of the source expects, each by its first entry.
      (let expects (m : Nat) (d : Candidate) : Bool := decide (d.cfg.state ≠ .free ∧ d.cfg.source = some x ∧
         d.cfg.expected = some m)
       let found := (offered.zipIdx.filter fun z => !(s.candidates.any fun d => expects z.1.1 d.2) &&
         !((offered.take z.2).any fun y => y.1 == z.1.1)).map Prod.fst
       let fresh := found.filter fun z => !(s.discoveries.any fun d => d.source == x && d.number == z.1)
       let room := 128 - s.discoveries.length
       t.discoveries.take s.discoveries.length = (s.discoveries.map fun d =>
         match found.find? fun z => d.source == x && z.1 == d.number with
         | some z => { d with lastSeen := s.intervalNumber, mapLane := z.2, times := min 255 (d.times + 1) }
         | none => d) ∧
       t.discoveries.drop s.discoveries.length =
         ((fresh.take room).map fun z => ⟨x, z.1, z.2, s.intervalNumber, s.intervalNumber, 1⟩) ∧
       t.discoveryOverflow = (if fresh.length ≤ room then s.discoveryOverflow
         else min 0xFFFFFFFF (s.discoveryOverflow + (fresh.length - room))) ∧
       (∀ d m, expects m (s.candidate d) = true → m ∉ found.map Prod.fst ∧
         ∀ z ∈ t.discoveries.drop s.discoveries.length, z.number ≠ m) ∧
       t.inFlight = s.inFlight.erase i ++
         ((s.candidates.filter fun d => d.2.misses != 0 && (match d.2.cfg.expected with
           | some m => expects m d.2 && !(offered.any fun z => z.1 == m)
           | none => false)).map fun d => .directoryQuarantineRequest d.1) ++
         (if s.discoveries = [] ∧ t.discoveries ≠ []
           then [.noticePost (.discovery t.discoveries.length) s.clock] else [])) ∧
      t = { s with
        ports := t.ports, contexts := t.contexts, snapshots := t.snapshots, candidates := t.candidates
        discoveries := t.discoveries, discoveryOverflow := t.discoveryOverflow, inFlight := t.inFlight })

/-- TAKE DISCOVERIES returns and removes the oldest entries, up to 8; CLEAR DISCOVERIES removes every entry and clears
the overflow count (R143, R144). -/
def Obligations.DiscoveriesTakenAndCleared : Prop :=
  ∀ (s : State) (c : Cmd), s.takesCommand → c.body = [] →
    let octets (d : Discovery) : List Byte :=
      be8 d.source ++ be16 d.number ++ be16 d.mapLane ++ be32 d.firstSeen.toNat ++ be32 d.lastSeen.toNat ++ be8 d.times
    (s.admitsLevel c.level 2 → exec (.takeDiscoveries c) s = .next (({ s with discoveries := s.discoveries.drop 8 }).replies
      c 0x28 .done (be8 (min 8 s.discoveries.length) ++ be8 (s.discoveries.length - 8) ++ be32 s.discoveryOverflow ++
        (s.discoveries.take 8).flatMap octets))) ∧
    (s.admitsLevel c.level 1 → exec (.clearDiscoveries c) s = .next (({ s with
      discoveries := [], discoveryOverflow := 0 }).replies c 0x29 .done (be8 s.discoveries.length)))

/-! ### The Output Composer -/

/-- A forwarded packet is admitted with its lane and counter, its other bits as received, or dropped at a full queue
(R146, R148, R149). -/
def Obligations.ForwardAdmission : Prop :=
  ∀ (s : State) (k j : Nat) (advance : Bool) (packet : Packet), s.phase = .running → k < 512 → j < 8 →
    packet.length = 188 →
    let v := s.service k
    let i : Instr := .forwardAdmission k j advance packet
    let n : BitVec 4 := if advance then v.slotCounters.getD j 0 + 1 else v.slotCounters.getD j 0
    (256 ≤ s.forwardQueue.length → exec i s = .next (((s.take i).setService k
      { v with forwardDrops := min 0xFFFFFFFF (v.forwardDrops + 1) }).raise (.outputOverrun k))) ∧
    (s.forwardQueue.length < 256 → v.cfg.base + j < 8192 → ∃ t out,
      exec i s = .next t ∧ t.forwardQueue = s.forwardQueue ++ [out] ∧
      t.service k = { v with slotCounters := v.slotCounters.set j n } ∧ (∀ m, m ≠ k → t.service m = s.service m) ∧
      out.length = 188 ∧ laneOf out = v.cfg.base + j ∧ seqOf out = n.toNat ∧ isDamaged out = isDamaged packet ∧
      isStart out = isStart packet ∧ (out.getD 2 0).getLsbD 0 = (packet.getD 2 0).getLsbD 0 ∧
      adaptationOf out = adaptationOf packet ∧ octetAt out 3 % 4 = octetAt packet 3 % 4 ∧ out.take 1 = packet.take 1 ∧
      out.drop 4 = packet.drop 4 ∧
      t = { s.take i with forwardQueue := t.forwardQueue, services := t.services })

/-- An offer to the tap: a packet of another lane or port passes, a copy takes the tap lane and its counter, the copy that
reaches the stop count ends the tap, and a full queue skips the copy (R150, R151, R154, R156). -/
def Obligations.TapOffer : Prop :=
  ∀ (s : State) (p : Nat) (packet : Packet), s.phase = .running → p < 15 → packet.length = 188 →
    let i : Instr := .tapOffer p packet
    let covered : Prop := s.tap.running = true ∧ s.tap.port = p ∧ (s.tap.lane = none ∨ s.tap.lane = some (laneOf packet))
    let room : Prop := s.insertQueue.length < 16 ∧ (s.insertQueue.filter fun x => x.kind == .tap).length < 12
    let n : BitVec 4 := if saysNoPayload packet then s.tapCounter else s.tapCounter + 1
    let copied : State := { s.take i with
      tapCounter := n
      insertQueue := s.insertQueue ++ [⟨setSeq n (setLane s.settings.tapLane packet), .tap, 0⟩]
      tap := { s.tap with made := s.tap.made + 1 } }
    (¬covered → exec i s = .next (s.take i)) ∧
    (covered → ¬room →
      exec i s = .next { s.take i with tap := { s.tap with skipped := min 65535 (s.tap.skipped + 1) } }) ∧
    (covered → room → s.tap.made + 1 < s.tap.stop → exec i s = .next copied) ∧
    (covered → room → s.tap.stop ≤ s.tap.made + 1 → exec i s = .next (({ copied with
      tap := { s.tap with made := s.tap.made + 1, running := false } }).post
        (.tapEnded (s.tap.made + 1) s.tap.skipped .complete)))

/-- The arbiter at an output slot: an aged insert, a forwarded packet, an insert, a null packet; the inserts that remain
age by 1; a starting part sends null packets and a part without power nothing (R152, R157). -/
def Obligations.Arbiter : Prop :=
  ∀ (s : State) (time : Nat) (i : Insert) (rest : List Insert) (f : Packet) (more : List Packet),
    let u := s.atTime time
    let aged (l : List Insert) : List Insert := l.map fun x => { x with age := x.age + 1 }
    let null : Packet := [0x47, 0xFF, 0xF8, 0x04] ++ List.replicate 184 0xFF
    (s.phase = .running → s.insertQueue = i :: rest → i.kind ≠ .restartReply → 32 ≤ i.age ∨ s.forwardQueue = [] →
      exec (.outputSlot time) s = .next { u with outputLink := i.packet, insertQueue := aged rest }) ∧
    (s.phase = .running → (∀ x ∈ s.insertQueue.head?, x.age < 32) → s.forwardQueue = f :: more →
      exec (.outputSlot time) s =
        .next { u with outputLink := f, forwardQueue := more, insertQueue := aged s.insertQueue }) ∧
    (s.phase = .running → s.insertQueue = [] → s.forwardQueue = [] →
      exec (.outputSlot time) s = .next { u with outputLink := null, insertQueue := [] }) ∧
    (s.phase = .starting → exec (.outputSlot time) s = .next { u with outputLink := null }) ∧
    (s.phase = .off → exec (.outputSlot time) s = .next u) ∧
    (s.phase = .running → (∀ x ∈ s.insertQueue.head?, x.kind ≠ .restartReply) →
      exec (.restartTakesEffect time) s = .next s)

/-- A waiting reply is placed at a free place; a report packet of up to 8 oldest notices where a free place is left; both
take the report lane and its next counter, in a packet with the start flag and adaptation control 01 (R150, R151, R159,
R173). The octets of a reply record, a report record and a notice record of each kind stand where section 10.9 puts them,
the first two closed by their CRC-16. -/
def Obligations.Placements : Prop :=
  (∀ s : State, s.phase = .running →
    let n : BitVec 4 := s.reportCounter + 1
    let placed (u : State) (kind : InsertKind) (record : List Byte) : State := { u with
      reportCounter := n, insertQueue := s.insertQueue ++ [⟨insertPacket s.settings.reportLane n record, kind, 0⟩] }
    (∀ r, s.replyInHand = some r → s.insertQueue.length < 16 → s.restart = none →
      exec .replyPlacement s = .next (placed { s with replyInHand := none } .reply (replyOctets r))) ∧
    (∀ r k, s.replyInHand = some r → s.insertQueue.length < 16 → s.restart = some k →
      exec .replyPlacement s = .next (placed { s with replyInHand := none } .restartReply (replyOctets r))) ∧
    (s.replyInHand = none ∨ 16 ≤ s.insertQueue.length → exec .replyPlacement s = .next s) ∧
    (s.noticeQueue ≠ [] → s.replyInHand = none → s.insertQueue.length < 16 → exec .reportPlacement s =
      .next (placed { s with noticeQueue := s.noticeQueue.drop 8 } .report (reportOctets (s.noticeQueue.take 8)))) ∧
    (s.noticeQueue ≠ [] → s.replyInHand.isSome = true → s.insertQueue.length < 15 → exec .reportPlacement s =
      .next (placed { s with noticeQueue := s.noticeQueue.drop 8 } .report (reportOctets (s.noticeQueue.take 8)))) ∧
    (s.noticeQueue = [] ∨ 16 ≤ s.insertQueue.length ∨ (s.replyInHand.isSome = true ∧ 15 ≤ s.insertQueue.length) →
      exec .reportPlacement s = .next s)) ∧
  (∀ (lane : Nat) (n : BitVec 4) (record : List Byte), lane < 8192 → record.length ≤ 184 →
    let p := insertPacket lane n record
    p.length = 188 ∧ laneOf p = lane ∧ seqOf p = n.toNat ∧ isStart p = true ∧ isDamaged p = false ∧
      adaptationOf p = 1 ∧ payloadOf p = record ++ List.replicate (184 - record.length) 0xFF) ∧
  (∀ r : Reply, r.body.length ≤ 175 →
    let b := replyOctets r
    let n := r.body.length
    b.length = 9 + n ∧ octetAt b 0 = 1 ∧ beAt b 1 2 = r.tag.toNat ∧ b.getD 3 0 = r.code ∧
      octetAt b 4 = (match r.outcome with | .done => 0 | .accepted => 1 | .refused => 2) ∧
      octetAt b 5 = (match r.reason with
        | .none => 0 | .badCheck => 1 | .unknown => 2 | .badLength => 3 | .level => 4 | .range => 5 | .state => 6
        | .busy => 7 | .full => 8) ∧
      octetAt b 6 = n ∧ (b.drop 7).take n = r.body ∧ beAt b (7 + n) 2 = (crc16 (b.take (7 + n))).toNat) ∧
  (∀ l : List NoticeRecord, l.length ≤ 8 →
    let b := reportOctets l
    let n := 22 * l.length
    b.length = 4 + n ∧ octetAt b 0 = 2 ∧ octetAt b 1 = l.length ∧ (b.drop 2).take n = l.flatMap noticeOctets ∧
      beAt b (2 + n) 2 = (crc16 (b.take (2 + n))).toNat) ∧
  (∀ r : NoticeRecord, (noticeOctets r).length = 22) ∧
  (∀ (st : IntervalStamp) (k b c n p e g : Nat) (old best : Option Nat) (kind : CutKind) (cause : SwitchCause)
    (why : QuarantineReason) (outcome : VisitOutcome) (tag : BitVec 16) (reason : FailReason) (how : TapEnd) (ok : Bool)
    (generation : BitVec 32),
    let holds (notice : Notice) (code : Nat) (fields : List Byte) : Prop := noticeOctets ⟨notice, st⟩ =
      be8 code ++ be32 st.number.toNat ++ be16 st.time ++ fields ++ List.replicate (15 - fields.length) 0xFF
    holds (.switched k b old n kind cause) 1 (be16 k ++ be16 b ++ be16 (old.getD 0xFFFF) ++ be16 n ++
      be8 (match kind with | .clean => 0 | .forced => 1 | .immediate => 2) ++
      be8 (match cause with | .first => 0 | .challenge => 1 | .urgent => 2 | .pin => 3)) ∧
    holds (.switchAbandoned k b c n) 2 (be16 k ++ be16 b ++ be16 c ++ be8 n) ∧
    holds (.dark k b) 3 (be16 k ++ be16 b) ∧ holds (.restored k b) 4 (be16 k ++ be16 b) ∧
    holds (.quarantined c why) 5 (be16 c ++ be8 (match why with | .flap => 0 | .directory => 1 | .manual => 2)) ∧
    holds (.quarantineEnded c) 6 (be16 c) ∧
    holds (.advisory k b c e g best) 7
      (be16 k ++ be16 b ++ be16 c ++ be8 e ++ be16 g ++ be16 (best.getD 0xFFFF)) ∧
    holds (.portOutage p) 8 (be8 p) ∧ holds (.portRestored p n) 9 (be8 p ++ be32 n) ∧
    holds (.visitFailed e p outcome) 10 (be8 e ++ be8 p ++ be8 (match outcome with
      | .notVisited => 0 | .graded => 1 | .noAck => 2 | .noLock => 3 | .aborted => 4)) ∧
    holds (.discovery n) 11 (be8 n) ∧
    holds (.changeFailed tag b n reason) 12 (be16 tag.toNat ++ be8 b ++ be16 n ++ be8 (match reason with
      | .noOwner => 1 | .listFull => 2 | .laneConflict => 3 | .mapFull => 4 | .outputConflict => 5 | .notEmpty => 6
      | .stateMismatch => 7)) ∧
    holds (.tapEnded n c how) 13 (be16 n ++ be16 c ++ be8 (match how with | .complete => 0 | .stopped => 1)) ∧
    holds (.saveDone ok generation) 14 (be8 (if ok then 0 else 1) ++ be32 generation.toNat) ∧
    holds (.fault n) 15 (be8 n))

/-- START TAP and STOP TAP (R153, R156). -/
def Obligations.TapStartedAndStopped : Prop :=
  ∀ (s : State) (c : Cmd) (p lane stop : Nat), s.takesCommand → s.admitsLevel c.level 1 → p < 256 → lane < 65536 →
    stop < 65536 →
    let named : Prop := c.body = be8 p ++ be16 lane ++ be16 stop
    let good : Prop := p ≤ 13 ∧ (lane ≤ 8190 ∨ lane = 65535) ∧ 1 ≤ stop
    (named → ¬good → exec (.startTap c) s = .next (s.refuses c 0x38 .range)) ∧
    (named → good → s.tap.running = true → exec (.startTap c) s = .next (s.refuses c 0x38 .busy)) ∧
    (named → good → s.tap.running = false → exec (.startTap c) s = .next (({ s with
      tap := ⟨true, p, if lane = 65535 then none else some lane, stop, 0, 0⟩
      inFlight := s.inFlight.filter fun i => match i with | .tapOffer _ _ => false | _ => true }).replies c 0x38 .done
        (c.body ++ be16 s.tap.made ++ be16 s.tap.skipped))) ∧
    (c.body = [] → s.tap.running = false → exec (.stopTap c) s = .next (s.refuses c 0x3A .state)) ∧
    (c.body = [] → s.tap.running = true → exec (.stopTap c) s = .next ((({ s with
      tap := { s.tap with running := false } }).post (.tapEnded s.tap.made s.tap.skipped .stopped)).replies c 0x3A .done
        (be16 s.tap.made ++ be16 s.tap.skipped)))

/-- EXTEND TAP, with its two orders against the copy that would have reached the old stop count (R155). -/
def Obligations.TapExtended : Prop :=
  ∀ (s : State) (c : Cmd) (n : Nat), s.takesCommand → c.body = be16 n → n < 65536 →
    (1 < c.level → exec (.extendTap c) s = .next (s.refuses c 0x39 .level)) ∧
    (s.admitsLevel c.level 1 → n = 0 → exec (.extendTap c) s = .next (s.refuses c 0x39 .range)) ∧
    (s.admitsLevel c.level 1 → 1 ≤ n → s.tap.running = false →
      exec (.extendTap c) s = .next (s.refuses c 0x39 .state)) ∧
    (s.admitsLevel c.level 1 → 1 ≤ n → s.tap.running = true → 65535 < s.tap.stop + n →
      exec (.extendTap c) s = .next (s.refuses c 0x39 .range)) ∧
    (s.admitsLevel c.level 1 → 1 ≤ n → s.tap.running = true → s.tap.stop + n ≤ 65535 →
      exec (.extendTap c) s = .next (({ s with tap := { s.tap with stop := s.tap.stop + n } }).replies c 0x39 .done
        (be16 (s.tap.stop + n) ++ be16 s.tap.made ++ be16 s.tap.skipped))) ∧
    (∀ packet : Packet, packet.length = 188 → s.tap.port < 15 → s.tap.running = true → s.tap.lane = none →
      s.tap.made + 1 = s.tap.stop → s.insertQueue.length < 4 → s.admitsLevel c.level 1 → 1 ≤ n → s.tap.stop + n ≤ 65535 →
      (∃ t u, exec (.extendTap c) s = .next t ∧ exec (.tapOffer s.tap.port packet) t = .next u ∧
        u.tap = { s.tap with stop := s.tap.stop + n, made := s.tap.stop }) ∧
      (∃ t, exec (.tapOffer s.tap.port packet) s = .next t ∧ t.tap = { s.tap with running := false, made := s.tap.stop } ∧
        .noticePost (.tapEnded s.tap.stop s.tap.skipped .complete) s.clock ∈ t.inFlight ∧
        exec (.extendTap c) t = .next (t.refuses c 0x39 .state)))

/-! ### The Report Unit -/

/-- A notice is queued, not posted, or lost with fault NOTICE OVERFLOW (R172); a fault enters the Summary, and fills and
locks the Record or sets its lost flag, with its FAULT notice when its kind is new (R174). -/
def Obligations.NoticesAndFaults : Prop :=
  (∀ (s : State) (n : Notice) (stamp : IntervalStamp), s.phase = .running →
    let i : Instr := .noticePost n stamp
    let u := s.take i
    let on : Prop := s.settings.noticeEnable.getLsbD (noticeCode n) = true
    let overflow : BitVec 8 := 0x20
    let lost (m : Nat) : State := { u with
      noticeLoss := min 65535 (s.noticeLoss + m), faultSummary := s.faultSummary ||| overflow
      faultRecord := if s.faultRecord.locked then { s.faultRecord with lost := true }
        else ⟨true, false, some ⟨.noticeOverflow, s.intervalNumber⟩⟩ }
    (¬on → exec i s = .next u) ∧
    (on → s.noticeQueue.length < 64 → exec i s = .next { u with noticeQueue := s.noticeQueue ++ [⟨n, stamp⟩] }) ∧
    (on → 64 ≤ s.noticeQueue.length → s.noticeLoss ≤ 65535 → s.faultSummary.getLsbD 5 = true →
      exec i s = .next (lost 1)) ∧
    (on → 64 ≤ s.noticeQueue.length → s.noticeLoss ≤ 65535 → s.faultSummary.getLsbD 5 = false →
      s.settings.noticeEnable.getLsbD 15 = true → exec i s = .next (lost 2)) ∧
    (on → 64 ≤ s.noticeQueue.length → s.noticeLoss ≤ 65535 → s.faultSummary.getLsbD 5 = false →
      s.settings.noticeEnable.getLsbD 15 = false → exec i s = .next (lost 1))) ∧
  (∀ (s : State) (f : FaultReport), s.phase = .running →
    let i : Instr := .faultRecord f
    let entered : State := { s.take i with
      faultSummary := s.faultSummary ||| (1 <<< faultCode f)
      faultRecord := if s.faultRecord.locked then { s.faultRecord with lost := true }
        else ⟨true, false, some ⟨f, s.intervalNumber⟩⟩ }
    (s.faultSummary.getLsbD (faultCode f) = true → exec i s = .next entered) ∧
    (s.faultSummary.getLsbD (faultCode f) = false → s.settings.noticeEnable.getLsbD 15 = false →
      exec i s = .next entered) ∧
    (s.faultSummary.getLsbD (faultCode f) = false → s.settings.noticeEnable.getLsbD 15 = true →
      s.noticeQueue.length < 64 → exec i s = .next { entered with
        noticeQueue := s.noticeQueue ++ [⟨.fault (faultCode f), s.clock⟩] }) ∧
    (∃ t, exec i s = .next t ∧ t.alert = true))

/-- READ FAULTS reports the Summary, the Record and the Notice Queue in 22 octets and changes nothing (R175); CLEAR
FAULTS removes the named kinds, and ALERT follows the Summary (R176). -/
def Obligations.FaultsReadAndCleared : Prop :=
  ∀ (s : State) (c : Cmd) (kinds : Byte), s.takesCommand →
    let e := s.faultRecord.entry
    let field (get : FaultReport → Option Nat) (none_ : Nat) : Nat := ((e.map FaultEntry.fault).bind get).getD none_
    (s.admitsLevel c.level 3 → c.body = [] → s.noticeLoss ≤ 65535 → s.noticeQueue.length ≤ 64 →
      (∀ x, e = some x → x.fault.wf = true) → ∃ b,
      exec (.readFaults c) s = .next (s.replies c 0x30 .done b) ∧ b.length = 22 ∧
      octetAt b 0 = s.faultSummary.toNat ∧ octetAt b 1 = s.faultRecord.locked.toNat ∧
      octetAt b 2 = (e.map fun x => faultCode x.fault).getD 0xFF ∧
      beAt b 3 4 = (e.map fun x => x.interval.toNat).getD 0xFFFFFFFF ∧
      octetAt b 7 = field (fun f => match f with | .tunerLink p _ => some p | _ => none) 0xFF ∧
      octetAt b 8 = field (fun f => match f with | .tunerLink _ n => some n | _ => none) 0xFF ∧
      beAt b 9 2 = field (fun f => match f with
        | .switchAbandoned k _ => some k | .outputOverrun k => some k | _ => none) 0xFFFF ∧
      beAt b 11 2 = field (fun f => match f with | .switchAbandoned _ x => some x | _ => none) 0xFFFF ∧
      beAt b 13 2 = field (fun f => match f with | .changeFailed tag _ _ => some tag.toNat | _ => none) 0xFFFF ∧
      octetAt b 15 = field (fun f => match f with | .changeFailed _ t _ => some t | _ => none) 0xFF ∧
      beAt b 16 2 = field (fun f => match f with | .changeFailed _ _ i => some i | _ => none) 0xFFFF ∧
      octetAt b 18 = s.faultRecord.lost.toNat ∧ beAt b 19 2 = s.noticeLoss ∧ octetAt b 21 = s.noticeQueue.length) ∧
    (s.admitsLevel c.level 1 → c.body = [kinds] →
      let named : Bool := e.any fun x => kinds.getLsbD (faultCode x.fault)
      let t : State := { s with
        faultSummary := s.faultSummary &&& ~~~kinds
        faultRecord := if s.faultRecord.locked = true ∧ named = true
          then { s.faultRecord with locked := false, lost := false } else s.faultRecord
        noticeLoss := if kinds.getLsbD 5 = true then 0 else s.noticeLoss }
      exec (.clearFaults c) s = .next (t.replies c 0x31 .done [s.faultSummary &&& ~~~kinds]) ∧
      (t.alert = true ↔ s.faultSummary &&& ~~~kinds ≠ 0))

/-! ### The Management Unit -/

/-- A control-lane packet joins the Command Queue as its record, overflows it, or is malformed (R158). -/
def Obligations.ControlPacket : Prop :=
  ∀ (s : State) (packet : Packet), s.phase = .running → packet.length = 188 →
    let i : Instr := .controlPacket packet
    let u := s.take i
    let command : Prop := isDamaged packet = false ∧ isStart packet = true ∧ adaptationOf packet = 1
    let l := packet.drop 4
    let b := octetAt l 4
    (¬command → exec i s = .next { u with malformedControl := min 0xFFFFFFFF (s.malformedControl + 1) }) ∧
    (command → s.commandQueue.length < 8 → b ≤ 176 → exec i s = .next { u with
      commandQueue := s.commandQueue ++ [⟨l.getD 0 0,
        decide ((crc16 (l.take (5 + b))).toNat = beAt l (5 + b) 2),
        ⟨BitVec.ofNat 16 (beAt l 2 2), octetAt l 1, (l.drop 5).take b⟩⟩] }) ∧
    (command → s.commandQueue.length < 8 → 176 < b → exec i s = .next { u with
      commandQueue := s.commandQueue ++ [⟨l.getD 0 0, false, ⟨BitVec.ofNat 16 (beAt l 2 2), octetAt l 1, []⟩⟩] }) ∧
    (command → 8 ≤ s.commandQueue.length → exec i s =
      .next (({ u with commandOverflow := min 0xFFFFFFFF (s.commandOverflow + 1) }).raise .commandOverflow))

/-- IDENTIFY (R167). The revision numbers are free values (log 8). -/
def Obligations.Identify : Prop :=
  ∀ (s : State) (c : Cmd), s.takesCommand → s.admitsLevel c.level 3 →
    (c.body = [] → exec (.identify c) s = .next (s.replies c 0x01 .done
      ([0x5A, 0x42, 0x46, 0x48, 0x32, 0x34, 0x31, 0x36] ++ [Config.revisionMajor, Config.revisionMinor] ++
        be32 s.generation.toNat ++ be8 s.store.valid.toNat ++ be8 s.save.isSome.toNat ++ be8 s.commission.toNat))) ∧
    (c.body ≠ [] → exec (.identify c) s = .next (s.refuses c 0x01 .badLength))

/-- READ ENTRY returns the values of the named fields and changes nothing (R163), with what each field of SERVICE,
CANDIDATE, GRADES, LANEMAP and DIRECTORY reads (R23, R31, R32, R34, R69, R140); PROBE ACCESS answers for a read and for a
write of a SERVICE entry and changes nothing (R165). -/
def Obligations.ReadAndProbe : Prop :=
  (∀ (s : State) (c : Cmd) (r : TableRead) (t : TableId), s.takesCommand → s.admitsLevel c.level 3 →
    (readEntryBody c.body = some r → tableOf r.table = some t → t.holds r.index = true → 1 ≤ r.fields.length →
      r.fields.length ≤ 34 → (∀ f ∈ r.fields, t.hasField r.index f = true) →
      exec (.readEntry c) s = .next (s.replies c 0x02 .done
        (be8 r.table ++ be16 r.index ++ be8 (changePending s t r.index).toNat ++ be8 r.fields.length ++
          r.fields.flatMap fun f => be8 f ++ be32 (readField s t r.index f)))) ∧
    (readEntryBody c.body = some r → (tableOf r.table = none ∨ (tableOf r.table = some t ∧ t.holds r.index = false) ∨
      r.fields = [] ∨ 34 < r.fields.length ∨ (tableOf r.table = some t ∧ ∃ f ∈ r.fields, t.hasField r.index f = false)) →
      exec (.readEntry c) s = .next (s.refuses c 0x02 .range)) ∧
    (readEntryBody c.body = none → exec (.readEntry c) s = .next (s.refuses c 0x02 .badLength))) ∧
  (∀ (s : State) (i : Nat),
    let reads (t : TableId) (last : Nat) : List Nat := (List.range' 1 last).map (readField s t i)
    let opt (o : Option Nat) : Nat := o.getD 0xFFFFFFFF
    let pending (service : Bool) : Nat := (s.changes.filter fun h => h.service == service && h.index == i).length
    (let v := s.service i
     reads .service 30 = [match v.cfg.state with | .unused => 0 | .defined => 1 | .active => 2, v.cfg.base,
       match v.cfg.policy with | .clean => 0 | .cleanOrForce => 1 | .immediate => 2, v.cfg.hysteresis, v.cfg.confirm,
       v.cfg.minGrade, v.cfg.cleanWait, v.cfg.retryLimit, v.cfg.guardLevel, v.cfg.broadcast, v.rank.length,
       opt v.rank[0]?, opt v.rank[1]?, opt v.rank[2]?, opt v.rank[3]?, opt v.rank[4]?, opt v.rank[5]?,
       opt v.challenger, v.streak, v.dark.toNat, v.advisory.isSome.toNat, opt v.advisory, opt v.selected, opt v.pinned,
       v.armed.isSome.toNat, opt (v.armed.map fun a => a.target),
       opt (v.armed.map fun a => match a.cause with | .first => 0 | .challenge => 1 | .urgent => 2 | .pin => 3),
       v.attempts, opt (v.armed.map fun a => a.timer - s.now), pending true]) ∧
    (let x := s.candidate i
     let code := match x.cfg.state with | .free => 0 | .ready => 1 | .survey => 2 | .barred => 4
     reads .candidate 23 = [if x.quarantine.isSome then 3 else code, opt x.cfg.owner, opt x.cfg.source,
       x.cfg.lanes.length, opt x.cfg.lanes[0]?, opt x.cfg.lanes[1]?, opt x.cfg.lanes[2]?, opt x.cfg.lanes[3]?,
       opt x.cfg.lanes[4]?, opt x.cfg.lanes[5]?, opt x.cfg.lanes[6]?, opt x.cfg.lanes[7]?, opt x.cfg.expected,
       x.cfg.weightSet, x.flaps, x.decay,
       opt (x.quarantine.map fun q => match q.reason with | .flap => 0 | .directory => 1 | .manual => 2),
       opt (x.quarantine.map fun q => q.remaining), opt (x.quarantine.map fun _ => code),
       match x.directory with | .unchecked => 0 | .confirmed => 1 | .missing => 2, x.misses,
       (match x.cfg.owner with
        | some k => if i ∈ (s.service k).rank then (s.service k).rank.idxOf i + 1 else 0xFFFFFFFF
        | none => 0xFFFFFFFF), pending false]) ∧
    (reads .grades 18 = match (s.candidate i).grade with
      | none => List.replicate 18 0xFFFFFFFF
      | some g => [g.grade, g.silent.toNat, g.unlocked.toNat, g.marginAbsent.toNat, g.damagePenalty, g.gapPenalty,
        g.marginPenalty, g.uncorrectedPenalty, g.correctedPenalty, g.packets, g.damaged, g.gaps, g.silence, g.duplicates,
        g.interval.toNat, g.weightSet, opt (g.survey.map Prod.fst), opt (g.survey.map Prod.snd)]) ∧
    (reads .laneMap 7 = match s.lanePlace i with
      | none => [0, 0xFFFFFFFF, 0xFFFFFFFF, 0xFFFFFFFF, 0xFFFFFFFF, 0xFFFFFFFF, s.laneMap.length]
      | some e => [1, e.source, e.lane, e.candidate, e.slot, opt e.lastSeq, s.laneMap.length]) ∧
    (let source := if i = 12 ∨ i = 13 then (s.port i).given.map (64 + ·) else some i
     match source.bind s.snapshot with
     | none => reads .directory 9 = [0, opt source, 0xFFFFFFFF, 0xFFFFFFFF, 0, 0, 0, 0xFFFFFFFF, 0] ∧
       ∀ k, readField s .directory i (16 + 2 * k) = 0xFFFFFFFF ∧ readField s .directory i (17 + 2 * k) = 0xFFFFFFFF
     | some w => reads .directory 9 = [1, opt source, w.stream, w.version, w.entries.length,
         if 64 < w.offered then 1 else 0, w.offered, w.interval.toNat, w.completions.toNat] ∧
       ∀ k, readField s .directory i (16 + 2 * k) = opt (w.entries[k]?.map Prod.fst) ∧
         readField s .directory i (17 + 2 * k) = opt (w.entries[k]?.map Prod.snd))) ∧
  (∀ (s : State) (c : Cmd) (k level kind : Nat), s.takesCommand → s.admitsLevel c.level 3 → k < 65536 → level < 256 →
    kind < 256 → c.body = be8 4 ++ be16 k ++ be8 level ++ be8 kind →
    let guard := if (s.service k).cfg.state = .unused then 1 else (s.service k).cfg.guardLevel
    let ceiling : Prop := s.commission = true ∨ level ≠ 0
    let answers (writable pending : Nat) (why : Nat) : List Byte := [1, 1] ++ be8 writable ++ be8 pending ++ be8 why
    let waits : Nat := if ∃ h ∈ s.changes, h.service = true ∧ h.index = k then 1 else 0
    (3 < level ∨ 1 < kind → exec (.probeAccess c) s = .next (s.refuses c 0x05 .range)) ∧
    (level ≤ 3 → kind = 0 → k < 512 → ceiling → 2 < level ∨ guard < level →
      exec (.probeAccess c) s = .next (s.replies c 0x05 .done (answers 0 waits 0))) ∧
    (level ≤ 3 → kind = 1 → k < 512 → ceiling → 2 < level ∨ guard < level →
      exec (.probeAccess c) s = .next (s.replies c 0x05 .done (answers 0 waits 4))) ∧
    (level ≤ 2 → kind = 1 → k < 512 → ceiling → level ≤ guard → s.changes.length < 32 →
      exec (.probeAccess c) s = .next (s.replies c 0x05 .done (answers 1 waits 0))) ∧
    (level ≤ 2 → kind = 1 → k < 512 → ceiling → level ≤ guard → 32 ≤ s.changes.length →
      exec (.probeAccess c) s = .next (s.replies c 0x05 .done (answers 0 waits 8))))

/-- A SETTINGS write takes effect whole, or is refused for its lanes (R166). -/
def Obligations.SettingsWrite : Prop :=
  ∀ (s : State) (run : Bool) (q : Cmd) (w : TableWrite), s.takesCommand → s.canonical → writeBody run q.body = some w →
    w.table = 0 → w.inRange = true → s.admitsLevel q.level 0 →
    let code : Byte := if run then 0x04 else 0x03
    let both (t : State) : Prop :=
      exec (.settingsWrite run q) s = .next t ∧ exec (if run then .loadRun q else .writeEntry q) s = .next t
    let fields := w.covers.flatMap Prod.snd
    let value (f : Nat) : Nat := ((fields.find? fun x => x.1 == f).map Prod.snd).getD (readField s .settings 0 f)
    let equalLanes : Prop := value 1 = value 2 ∨ value 1 = value 3 ∨ value 2 = value 3
    let forbidden : Prop := (∃ i e, s.lanePlace i = some e ∧ e.source = 14 ∧ e.lane = value 1) ∨
      ∃ k f, (s.service k).cfg.state ≠ .unused ∧ (f = 1 ∨ f = 2 ∨ f = 3) ∧ (s.service k).cfg.base ≤ value f ∧
        value f ≤ (s.service k).cfg.base + 7
    (equalLanes → both (s.refuses q code .range)) ∧
    (¬equalLanes → forbidden → both (s.refuses q code .state)) ∧
    (¬equalLanes → ¬forbidden → ∃ t, both t ∧ (∀ f, f ≤ 12 → readField t .settings 0 f = value f) ∧
      t.replyInHand = some ⟨q.tag, code, .done, .none, be8 0 ++ be16 0 ++ be8 1⟩ ∧
      t = { s with settings := t.settings, replyInHand := t.replyInHand })

/-- A WEIGHT write takes effect at once; a COUNTERS write sets each selected counter to 0 whatever value it carries (R15,
R33, R64, R158). -/
def Obligations.WeightAndCounterWrites : Prop :=
  ∀ (s : State) (run : Bool) (q : Cmd) (w : TableWrite), s.takesCommand → writeBody run q.body = some w →
    w.inRange = true → s.admitsLevel q.level 1 →
    let code : Byte := if run then 0x04 else 0x03
    let done : Reply := ⟨q.tag, code, .done, .none, be8 w.table ++ be16 w.index ++ be8 w.entries.length⟩
    let generic : Instr := if run then .loadRun q else .writeEntry q
    (w.table = 2 → ∃ t, exec (.weightWrite run q) s = .next t ∧ exec generic s = .next t ∧
      (∀ e ∈ w.covers, ∀ x ∈ e.2, readField t .weight e.1 x.1 = x.2) ∧
      (∀ i f, (∀ e ∈ w.covers, e.1 = i → f ∉ e.2.map Prod.fst) → readField t .weight i f = readField s .weight i f) ∧
      t.replyInHand = some done ∧ t = { s with weights := t.weights, replyInHand := t.replyInHand }) ∧
    (w.table = 9 → ∃ t, exec (.countersWrite run q) s = .next t ∧ exec generic s = .next t ∧
      (∀ e ∈ w.covers, ∀ x ∈ e.2, readField t .counters e.1 x.1 = 0) ∧
      (∀ i f, TableId.counters.hasField i f = true → (∀ e ∈ w.covers, e.1 = i → f ∉ e.2.map Prod.fst) →
        readField t .counters i f = readField s .counters i f) ∧
      (∀ p, t.port p = { s.port p with counters := (t.port p).counters }) ∧
      (∀ k, t.service k = { s.service k with
        switches := (t.service k).switches, forcedCuts := (t.service k).forcedCuts, abandoned := (t.service k).abandoned
        forwardDrops := (t.service k).forwardDrops }) ∧
      t.replyInHand = some done ∧
      t = { s with
        ports := t.ports, services := t.services, malformedControl := t.malformedControl
        commandOverflow := t.commandOverflow, replyInHand := t.replyInHand })

/-- PORT and SWEEP writes of one entry: applied at once, with the restart of a changed enable or margin lane, the feed
context that follows a changed directory check, and the choice of an idle sweep port whose enable is turned on, or held
behind the visit in progress; a margin lane that meets a Lane Map entry is refused (R2, R3, R118, R119, R121, R134). -/
def Obligations.PortAndSweepWrites : Prop :=
  ∀ (s : State) (run : Bool) (q : Cmd) (w : TableWrite) (i : Nat) (fields : List (Nat × Nat)), s.takesCommand →
    s.canonical → writeBody run q.body = some w → w.inRange = true → w.covers = [(i, fields)] →
    let code : Byte := if run then 0x04 else 0x03
    let reply (outcome : ReplyOutcome) : Reply := ⟨q.tag, code, outcome, .none, be8 w.table ++ be16 i ++ be8 1⟩
    let both (row : Instr) (t : State) : Prop :=
      exec row s = .next t ∧ exec (if run then .loadRun q else .writeEntry q) s = .next t
    let v := s.port i
    let conflict : Prop := ∃ j e m, s.lanePlace j = some e ∧ (2, m) ∈ fields ∧ e.lane = m ∧ m ≤ 8190 ∧
      (if i = 12 ∨ i = 13 then 64 ≤ e.source else e.source = i)
    let written (t : State) (id : TableId) (last : Nat) : Prop := ∀ f, 1 ≤ f → f ≤ last →
      readField t id i f = ((fields.find? fun x => x.1 == f).map Prod.snd).getD (readField s id i f)
    let applied (t : State) : Prop :=
      written t .port 5 ∧ t.replyInHand = some (reply .done) ∧ (∀ p, p ≠ i → t.port p = s.port p) ∧
      (t.port i).counters = v.counters ∧ (t.port i).outage = v.outage ∧
      ((t.port i).cfg.enable = v.cfg.enable → (t.port i).cfg.marginLane = v.cfg.marginLane →
        t.port i = { v with cfg := (t.port i).cfg } ∧ t.inFlight = s.inFlight) ∧
      ((t.port i).cfg.enable ≠ v.cfg.enable ∨ (t.port i).cfg.marginLane ≠ v.cfg.marginLane →
        (t.port i).state = (if (t.port i).cfg.enable = true then .seeking else .disabled) ∧ (t.port i).confirm = 0 ∧
        (t.port i).badSync = 0 ∧ (t.port i).starvation = none ∧ (t.port i).holdoverTimer = none ∧
        (t.port i).readings = ⟨none, 0, 0, false⟩ ∧ (t.port i).lastMarginSeq = none ∧
        t.inFlight = s.inFlight ++ (if v.state = .locked ∨ v.state = .holdover
          then [.classifierLeftLocked i, .directoryLeftLocked i] else []))
    (w.table = 1 → s.admitsLevel q.level 0 → conflict → both (.portWrite run q) (s.refuses q code .state)) ∧
    (w.table = 1 → s.admitsLevel q.level 0 → ¬conflict → i ≠ 12 → i ≠ 13 → ∃ t, both (.portWrite run q) t ∧ applied t ∧
      (i < 12 → (t.port i).cfg.dirCheck ≠ v.cfg.dirCheck → t.dirContext i =
        ⟨if (t.port i).cfg.dirCheck = true then some i else none, none, .none, ⟨none, []⟩⟩) ∧
      (12 ≤ i ∨ (t.port i).cfg.dirCheck = v.cfg.dirCheck → t.contexts = s.contexts) ∧
      (∀ p, p ≠ i → t.dirContext p = s.dirContext p) ∧
      t = { s with ports := t.ports, contexts := t.contexts, inFlight := t.inFlight, replyInHand := t.replyInHand }) ∧
    (w.table = 1 → s.admitsLevel q.level 0 → ¬conflict → i = 12 ∨ i = 13 → s.visiting i = none → ∃ t,
      both (.portWrite run q) t ∧ applied t ∧
      (v.cfg.enable = true ∨ (t.port i).cfg.enable = false ∨ (s.sweepPort i).held = true →
        t = { s with ports := t.ports, inFlight := t.inFlight, replyInHand := t.replyInHand }) ∧
      (∀ e rest, v.cfg.enable = false → (t.port i).cfg.enable = true → (s.sweepPort i).held = false →
        s.visitQueue = e :: rest → (s.sweepEntry e).cfg.affinity = .any →
        t.sweepPort i = { s.sweepPort i with visit := some ⟨e, true, .tuning 1 (.attempt
          (be8 (2 * (t.port i).cfg.tunerAddr) ++ be32 (s.sweepEntry e).cfg.frequency ++ be8 (s.sweepEntry e).cfg.profile)
          (s.now + 2))⟩ } ∧
        t.visitQueue = rest ∧ t = { s with
          ports := t.ports, inFlight := t.inFlight, replyInHand := t.replyInHand, visitQueue := t.visitQueue
          sweepPorts := t.sweepPorts })) ∧
    (w.table = 1 → s.admitsLevel q.level 0 → ¬conflict → i = 12 ∨ i = 13 → (s.visiting i).isSome = true → ∃ t,
      both (.portWrite run q) t ∧ t.replyInHand = some (reply .accepted) ∧
      (v.held = none → t.port i = { v with held := some ⟨fields, if 2 ∈ fields.map Prod.fst then some q.tag else none⟩ }) ∧
      (∃ h, t.port i = { v with held := some h }) ∧ (∀ p, p ≠ i → t.port p = s.port p) ∧
      t = { s with ports := t.ports, replyInHand := t.replyInHand }) ∧
    (w.table = 3 → s.admitsLevel q.level 1 → s.underVisit i = true → ∃ t, both (.sweepWrite run q) t ∧
      t.replyInHand = some (reply .accepted) ∧ (∃ h, t.sweepEntry i = { s.sweepEntry i with held := some h }) ∧
      ((s.sweepEntry i).held = none → t.sweepEntry i = { s.sweepEntry i with held := some fields }) ∧
      (∀ e, e ≠ i → t.sweepEntry e = s.sweepEntry e) ∧
      t = { s with sweepList := t.sweepList, replyInHand := t.replyInHand }) ∧
    (w.table = 3 → s.admitsLevel q.level 1 → s.underVisit i = false → (s.sweepPort 12).held = true →
      (s.sweepPort 13).held = true → ∃ t, both (.sweepWrite run q) t ∧ t.replyInHand = some (reply .done) ∧
      written t .sweep 6 ∧ t.sweepEntry i = { s.sweepEntry i with cfg := (t.sweepEntry i).cfg } ∧
      t.visitQueue = (if (t.sweepEntry i).cfg.state = .enabled then s.visitQueue else s.visitQueue.erase i) ∧
      (∀ e, e ≠ i → t.sweepEntry e = s.sweepEntry e) ∧
      t = { s with sweepList := t.sweepList, visitQueue := t.visitQueue, replyInHand := t.replyInHand })

/-- SAVE SETTINGS takes a snapshot of the applied configuration and makes the image invalid; the end of the write makes it
valid with the next generation and its CRC-32, or leaves it invalid with fault STORE WRITE (R168, R169); an image is valid
exactly when its last write was read back good and its CRC-32 is correct; SOFT RESTART and HARD RESTART wait for their
reply (R170, R171). -/
def Obligations.SavesAndRestarts : Prop :=
  (∀ (s : State) (c : Cmd), s.takesCommand → s.canonical → s.admitsLevel c.level 0 → c.body = [] →
    (s.save = none → ∃ i, exec (.saveSettings c) s = .next (({ s with
        save := some i, store := { s.store with readBack := false } }).replies c 0x40 .accepted []) ∧
      (∀ t, exec (.saveSettings c) s = .next t → t.store.valid = false) ∧
      i.generation = s.generation ∧ i.settings = s.settings ∧ i.weights = s.weights ∧
      (∀ p, Table.get PortConfig.default i.ports p = (s.port p).cfg) ∧
      (∀ e, Table.get SweepConfig.default i.sweep e = (s.sweepEntry e).cfg) ∧
      (∀ k, Table.get ServiceSaved.default i.services k = ⟨(s.service k).cfg, (s.service k).pinned⟩) ∧
      (∀ d, Table.get (fun _ => CandidateConfig.free) i.candidates d = (s.candidate d).cfg)) ∧
    (s.save.isSome = true → exec (.saveSettings c) s = .next (s.refuses c 0x40 .busy)) ∧
    (s.save = none → exec (.softRestart c) s = .next (({ s with restart := some .soft }).replies c 0x41 .done [])) ∧
    (s.save.isSome = true → exec (.softRestart c) s = .next (s.refuses c 0x41 .busy)) ∧
    exec (.hardRestart c) s = .next (({ s with restart := some .hard }).replies c 0x42 .done [])) ∧
  (∀ (s : State) (i : Image) (time : Nat), s.phase = .running →
    (s.save = none → ∀ good, exec (.saveWriteDone good time) s = .next (s.atTime time)) ∧
    (s.save = some i → s.generation ≠ 0xFFFFFFFF → exec (.saveWriteDone true time) s =
      .next (({ s.atTime time with
        save := none, generation := s.generation + 1
        store := ⟨true, { i with generation := s.generation + 1 },
          crc32 (imageOctets { i with generation := s.generation + 1 })⟩ }).post (.saveDone true (s.generation + 1)))) ∧
    (s.save = some i → exec (.saveWriteDone false time) s =
      .next ((({ s.atTime time with save := none, store := { s.store with readBack := false } }).raise .storeWrite).post
        (.saveDone false s.generation)))) ∧
  (∀ x : Store, x.valid = true ↔ x.readBack = true ∧ x.crc = crc32 (imageOctets x.image))

/-- The checks that refuse a command whatever it would do: BAD LENGTH, LEVEL by the ceiling and by the command's own
requirement, RANGE for a table write, BAD CHECK and UNKNOWN, for a command taken directly or as the head of the Command
Queue; the head is taken when the unit has no command in hand and makes one reply; a command that finds others waiting
joins the queue (R158 to R161, R163, R164; log 6). -/
def Obligations.RefusalsAndWaiting : Prop :=
  let rows : List ((Cmd → Instr) × Byte × Nat × Nat) :=
    [(.identify, 0x01, 0, 3), (.probeAccess, 0x05, 5, 3), (.closeInterval, 0x10, 0, 1), (.pin, 0x11, 4, 1),
      (.releasePin, 0x12, 2, 1), (.quarantine, 0x13, 4, 1), (.liftQuarantine, 0x14, 2, 1), (.sweepHold, 0x20, 1, 1),
      (.sweepResume, 0x21, 1, 1), (.visitNow, 0x22, 1, 2), (.takeDiscoveries, 0x28, 0, 2), (.clearDiscoveries, 0x29, 0, 1),
      (.readFaults, 0x30, 0, 3), (.clearFaults, 0x31, 1, 1), (.startTap, 0x38, 5, 1), (.extendTap, 0x39, 2, 1),
      (.stopTap, 0x3A, 0, 1), (.saveSettings, 0x40, 0, 0), (.softRestart, 0x41, 0, 0), (.hardRestart, 0x42, 0, 0)]
  let tables : List ((Bool → Cmd → Instr) × Nat) :=
    [(.settingsWrite, 0), (.portWrite, 1), (.weightWrite, 2), (.sweepWrite, 3), (.serviceWrite, 4), (.candidateWrite, 5),
      (.countersWrite, 9)]
  let generic (run : Bool) (q : Cmd) : Instr := if run then .loadRun q else .writeEntry q
  let code (run : Bool) : Byte := if run then 0x04 else 0x03
  -- The unit is free and takes `r`, directly or from the head of its queue, and `u` is the state without it.
  let taken (s : State) (r : CommandRecord) (u : State) : Prop := s.phase = .running ∧ s.replyInHand = none ∧
    s.restart = none ∧ ((s.commandQueue = [] ∧ u = s) ∨ ∃ rest, s.commandQueue = r :: rest ∧ u = { s with commandQueue := rest })
  (∀ row ∈ rows, ∀ (s u : State) (c : Cmd), taken s ⟨row.2.1, true, c⟩ u →
    (c.body.length ≠ row.2.2.1 → exec (row.1 c) s = .next (u.refuses c row.2.1 .badLength)) ∧
    (c.body.length = row.2.2.1 → row.2.2.2 < c.level ∨ (c.level = 0 ∧ s.commission = false) →
      exec (row.1 c) s = .next (u.refuses c row.2.1 .level))) ∧
  (∀ row ∈ tables, ∀ (s : State) (run : Bool) (q : Cmd), q.body ≠ [] → octetAt q.body 0 = row.2 →
    exec (row.1 run q) s = exec (generic run q) s) ∧
  (∀ (s u : State) (run : Bool) (q : Cmd), taken s ⟨code run, true, q⟩ u →
    (writeBody run q.body = none → exec (generic run q) s = .next (u.refuses q (code run) .badLength)) ∧
    (∀ w, writeBody run q.body = some w →
      let refused (why : Reason) : Prop := exec (generic run q) s = .next (u.refuses q (code run) why)
      (2 < q.level ∨ (q.level = 0 ∧ s.commission = false) → refused .level) ∧
      (∀ e ∈ w.covers, ∀ t, tableOf w.table = some t → t.holds e.1 = true →
        (w.table ≤ 1 ∧ 0 < q.level) ∨ ((w.table = 2 ∨ w.table = 3 ∨ w.table = 9) ∧ 1 < q.level) → refused .level) ∧
      (w.table ≤ 1 → s.admitsLevel q.level 0 → w.inRange = false → refused .range) ∧
      (w.table = 2 ∨ w.table = 3 ∨ w.table = 9 → s.admitsLevel q.level 1 → w.inRange = false → refused .range) ∧
      (w.table = 6 ∨ w.table = 7 ∨ w.table = 8 ∨ 9 < w.table → s.admitsLevel q.level 2 → refused .range))) ∧
  (∀ row ∈ rows, ∀ (s : State) (c : Cmd) (h : CommandRecord) (rest : List CommandRecord), s.phase = .running →
    s.commandQueue = h :: rest → h ≠ ⟨row.2.1, true, c⟩ →
    (s.commandQueue.length < 8 →
      exec (row.1 c) s = .next { s with commandQueue := s.commandQueue ++ [⟨row.2.1, true, c⟩] }) ∧
    (8 ≤ s.commandQueue.length → exec (row.1 c) s =
      .next (({ s with commandOverflow := min 0xFFFFFFFF (s.commandOverflow + 1) }).raise .commandOverflow))) ∧
  (∀ (s u : State) (r : CommandRecord), taken s r u →
    (r.checkGood = false → exec (.unknownCommand r) s = .next (u.refuses r.cmd r.code .badCheck)) ∧
    (r.checkGood = true → r.code ∉ [0x01, 0x02, 0x03, 0x04, 0x05, 0x10, 0x11, 0x12, 0x13, 0x14, 0x20, 0x21, 0x22, 0x28,
        0x29, 0x30, 0x31, 0x38, 0x39, 0x3A, 0x40, 0x41, 0x42] →
      exec (.unknownCommand r) s = .next (u.refuses r.cmd r.code .unknown))) ∧
  (∀ (s : State) (r : CommandRecord) (rest : List CommandRecord), s.phase = .running → s.commandQueue = r :: rest →
    (s.replyInHand ≠ none ∨ s.restart ≠ none → exec (commandInstr r) s = .next s) ∧
    (s.replyInHand = none → s.restart = none →
      (∃ t reply, exec (commandInstr r) s = .next t ∧ t.commandQueue = rest ∧ t.replyInHand = some reply ∧
        reply.tag = r.cmd.tag ∧ reply.code = r.code) ∧
      (rest = [] → exec (commandInstr r) s = exec (commandInstr r) { s with commandQueue := [] }) ∧
      (s.pending = [] → s.inFlight = [] → s.changes = [] ∨ s.headHeld = true → s.noticeQueue = [] →
        step s = exec (commandInstr r) s)))
end

