-- ==== Sys2Proof/Laws/State.lean ====
section
/-! SUPPORT. One lemma for each field of State under each named update, and for each accessor of a table: an update of
one field leaves every other as it was. -/

namespace Sys2Proof.Machine

variable (s : State)

/-! ### setPort -/

@[simp] theorem State.setPort_pending (p : Nat) (v : Port) : (s.setPort p v).pending = s.pending := rfl
@[simp] theorem State.setPort_inFlight (p : Nat) (v : Port) : (s.setPort p v).inFlight = s.inFlight := rfl
@[simp] theorem State.setPort_now (p : Nat) (v : Port) : (s.setPort p v).now = s.now := rfl
@[simp] theorem State.setPort_phase (p : Nat) (v : Port) : (s.setPort p v).phase = s.phase := rfl
@[simp] theorem State.setPort_commission (p : Nat) (v : Port) : (s.setPort p v).commission = s.commission := rfl
@[simp] theorem State.setPort_outputLink (p : Nat) (v : Port) : (s.setPort p v).outputLink = s.outputLink := rfl
@[simp] theorem State.setPort_laneMap (p : Nat) (v : Port) : (s.setPort p v).laneMap = s.laneMap := rfl
@[simp] theorem State.setPort_services (p : Nat) (v : Port) : (s.setPort p v).services = s.services := rfl
@[simp] theorem State.setPort_candidates (p : Nat) (v : Port) : (s.setPort p v).candidates = s.candidates := rfl
@[simp] theorem State.setPort_changes (p : Nat) (v : Port) : (s.setPort p v).changes = s.changes := rfl
@[simp] theorem State.setPort_headHeld (p : Nat) (v : Port) : (s.setPort p v).headHeld = s.headHeld := rfl
@[simp] theorem State.setPort_weights (p : Nat) (v : Port) : (s.setPort p v).weights = s.weights := rfl
@[simp] theorem State.setPort_intervalNumber (p : Nat) (v : Port) : (s.setPort p v).intervalNumber = s.intervalNumber := rfl
@[simp] theorem State.setPort_intervalStart (p : Nat) (v : Port) : (s.setPort p v).intervalStart = s.intervalStart := rfl
@[simp] theorem State.setPort_intervalLength (p : Nat) (v : Port) : (s.setPort p v).intervalLength = s.intervalLength := rfl
@[simp] theorem State.setPort_gradingTimer (p : Nat) (v : Port) : (s.setPort p v).gradingTimer = s.gradingTimer := rfl
@[simp] theorem State.setPort_sweepList (p : Nat) (v : Port) : (s.setPort p v).sweepList = s.sweepList := rfl
@[simp] theorem State.setPort_visitQueue (p : Nat) (v : Port) : (s.setPort p v).visitQueue = s.visitQueue := rfl
@[simp] theorem State.setPort_sweepPorts (p : Nat) (v : Port) : (s.setPort p v).sweepPorts = s.sweepPorts := rfl
@[simp] theorem State.setPort_contexts (p : Nat) (v : Port) : (s.setPort p v).contexts = s.contexts := rfl
@[simp] theorem State.setPort_snapshots (p : Nat) (v : Port) : (s.setPort p v).snapshots = s.snapshots := rfl
@[simp] theorem State.setPort_discoveries (p : Nat) (v : Port) : (s.setPort p v).discoveries = s.discoveries := rfl
@[simp] theorem State.setPort_discoveryOverflow (p : Nat) (v : Port) : (s.setPort p v).discoveryOverflow = s.discoveryOverflow := rfl
@[simp] theorem State.setPort_forwardQueue (p : Nat) (v : Port) : (s.setPort p v).forwardQueue = s.forwardQueue := rfl
@[simp] theorem State.setPort_insertQueue (p : Nat) (v : Port) : (s.setPort p v).insertQueue = s.insertQueue := rfl
@[simp] theorem State.setPort_reportCounter (p : Nat) (v : Port) : (s.setPort p v).reportCounter = s.reportCounter := rfl
@[simp] theorem State.setPort_tapCounter (p : Nat) (v : Port) : (s.setPort p v).tapCounter = s.tapCounter := rfl
@[simp] theorem State.setPort_tap (p : Nat) (v : Port) : (s.setPort p v).tap = s.tap := rfl
@[simp] theorem State.setPort_settings (p : Nat) (v : Port) : (s.setPort p v).settings = s.settings := rfl
@[simp] theorem State.setPort_generation (p : Nat) (v : Port) : (s.setPort p v).generation = s.generation := rfl
@[simp] theorem State.setPort_store (p : Nat) (v : Port) : (s.setPort p v).store = s.store := rfl
@[simp] theorem State.setPort_save (p : Nat) (v : Port) : (s.setPort p v).save = s.save := rfl
@[simp] theorem State.setPort_commandQueue (p : Nat) (v : Port) : (s.setPort p v).commandQueue = s.commandQueue := rfl
@[simp] theorem State.setPort_replyInHand (p : Nat) (v : Port) : (s.setPort p v).replyInHand = s.replyInHand := rfl
@[simp] theorem State.setPort_restart (p : Nat) (v : Port) : (s.setPort p v).restart = s.restart := rfl
@[simp] theorem State.setPort_malformedControl (p : Nat) (v : Port) : (s.setPort p v).malformedControl = s.malformedControl := rfl
@[simp] theorem State.setPort_commandOverflow (p : Nat) (v : Port) : (s.setPort p v).commandOverflow = s.commandOverflow := rfl
@[simp] theorem State.setPort_noticeQueue (p : Nat) (v : Port) : (s.setPort p v).noticeQueue = s.noticeQueue := rfl
@[simp] theorem State.setPort_noticeLoss (p : Nat) (v : Port) : (s.setPort p v).noticeLoss = s.noticeLoss := rfl
@[simp] theorem State.setPort_faultSummary (p : Nat) (v : Port) : (s.setPort p v).faultSummary = s.faultSummary := rfl
@[simp] theorem State.setPort_faultRecord (p : Nat) (v : Port) : (s.setPort p v).faultRecord = s.faultRecord := rfl
@[simp] theorem State.setPort_acc_lanePlace (p : Nat) (v : Port) (j : Nat) : (s.setPort p v).lanePlace j = s.lanePlace j := rfl
@[simp] theorem State.setPort_acc_service (p : Nat) (v : Port) (j : Nat) : (s.setPort p v).service j = s.service j := rfl
@[simp] theorem State.setPort_acc_candidate (p : Nat) (v : Port) (j : Nat) : (s.setPort p v).candidate j = s.candidate j := rfl
@[simp] theorem State.setPort_acc_weightSet (p : Nat) (v : Port) (j : Nat) : (s.setPort p v).weightSet j = s.weightSet j := rfl
@[simp] theorem State.setPort_acc_sweepEntry (p : Nat) (v : Port) (j : Nat) : (s.setPort p v).sweepEntry j = s.sweepEntry j := rfl
@[simp] theorem State.setPort_acc_sweepPort (p : Nat) (v : Port) (j : Nat) : (s.setPort p v).sweepPort j = s.sweepPort j := rfl
@[simp] theorem State.setPort_acc_dirContext (p : Nat) (v : Port) (j : Nat) : (s.setPort p v).dirContext j = s.dirContext j := rfl
@[simp] theorem State.setPort_acc_snapshot (p : Nat) (v : Port) (j : Nat) : (s.setPort p v).snapshot j = s.snapshot j := rfl

/-! ### setLanePlace -/

@[simp] theorem State.setLanePlace_pending (i : Nat) (v : Option LaneEntry) : (s.setLanePlace i v).pending = s.pending := rfl
@[simp] theorem State.setLanePlace_inFlight (i : Nat) (v : Option LaneEntry) : (s.setLanePlace i v).inFlight = s.inFlight := rfl
@[simp] theorem State.setLanePlace_now (i : Nat) (v : Option LaneEntry) : (s.setLanePlace i v).now = s.now := rfl
@[simp] theorem State.setLanePlace_phase (i : Nat) (v : Option LaneEntry) : (s.setLanePlace i v).phase = s.phase := rfl
@[simp] theorem State.setLanePlace_commission (i : Nat) (v : Option LaneEntry) : (s.setLanePlace i v).commission = s.commission := rfl
@[simp] theorem State.setLanePlace_outputLink (i : Nat) (v : Option LaneEntry) : (s.setLanePlace i v).outputLink = s.outputLink := rfl
@[simp] theorem State.setLanePlace_ports (i : Nat) (v : Option LaneEntry) : (s.setLanePlace i v).ports = s.ports := rfl
@[simp] theorem State.setLanePlace_services (i : Nat) (v : Option LaneEntry) : (s.setLanePlace i v).services = s.services := rfl
@[simp] theorem State.setLanePlace_candidates (i : Nat) (v : Option LaneEntry) : (s.setLanePlace i v).candidates = s.candidates := rfl
@[simp] theorem State.setLanePlace_changes (i : Nat) (v : Option LaneEntry) : (s.setLanePlace i v).changes = s.changes := rfl
@[simp] theorem State.setLanePlace_headHeld (i : Nat) (v : Option LaneEntry) : (s.setLanePlace i v).headHeld = s.headHeld := rfl
@[simp] theorem State.setLanePlace_weights (i : Nat) (v : Option LaneEntry) : (s.setLanePlace i v).weights = s.weights := rfl
@[simp] theorem State.setLanePlace_intervalNumber (i : Nat) (v : Option LaneEntry) : (s.setLanePlace i v).intervalNumber = s.intervalNumber := rfl
@[simp] theorem State.setLanePlace_intervalStart (i : Nat) (v : Option LaneEntry) : (s.setLanePlace i v).intervalStart = s.intervalStart := rfl
@[simp] theorem State.setLanePlace_intervalLength (i : Nat) (v : Option LaneEntry) : (s.setLanePlace i v).intervalLength = s.intervalLength := rfl
@[simp] theorem State.setLanePlace_gradingTimer (i : Nat) (v : Option LaneEntry) : (s.setLanePlace i v).gradingTimer = s.gradingTimer := rfl
@[simp] theorem State.setLanePlace_sweepList (i : Nat) (v : Option LaneEntry) : (s.setLanePlace i v).sweepList = s.sweepList := rfl
@[simp] theorem State.setLanePlace_visitQueue (i : Nat) (v : Option LaneEntry) : (s.setLanePlace i v).visitQueue = s.visitQueue := rfl
@[simp] theorem State.setLanePlace_sweepPorts (i : Nat) (v : Option LaneEntry) : (s.setLanePlace i v).sweepPorts = s.sweepPorts := rfl
@[simp] theorem State.setLanePlace_contexts (i : Nat) (v : Option LaneEntry) : (s.setLanePlace i v).contexts = s.contexts := rfl
@[simp] theorem State.setLanePlace_snapshots (i : Nat) (v : Option LaneEntry) : (s.setLanePlace i v).snapshots = s.snapshots := rfl
@[simp] theorem State.setLanePlace_discoveries (i : Nat) (v : Option LaneEntry) : (s.setLanePlace i v).discoveries = s.discoveries := rfl
@[simp] theorem State.setLanePlace_discoveryOverflow (i : Nat) (v : Option LaneEntry) : (s.setLanePlace i v).discoveryOverflow = s.discoveryOverflow := rfl
@[simp] theorem State.setLanePlace_forwardQueue (i : Nat) (v : Option LaneEntry) : (s.setLanePlace i v).forwardQueue = s.forwardQueue := rfl
@[simp] theorem State.setLanePlace_insertQueue (i : Nat) (v : Option LaneEntry) : (s.setLanePlace i v).insertQueue = s.insertQueue := rfl
@[simp] theorem State.setLanePlace_reportCounter (i : Nat) (v : Option LaneEntry) : (s.setLanePlace i v).reportCounter = s.reportCounter := rfl
@[simp] theorem State.setLanePlace_tapCounter (i : Nat) (v : Option LaneEntry) : (s.setLanePlace i v).tapCounter = s.tapCounter := rfl
@[simp] theorem State.setLanePlace_tap (i : Nat) (v : Option LaneEntry) : (s.setLanePlace i v).tap = s.tap := rfl
@[simp] theorem State.setLanePlace_settings (i : Nat) (v : Option LaneEntry) : (s.setLanePlace i v).settings = s.settings := rfl
@[simp] theorem State.setLanePlace_generation (i : Nat) (v : Option LaneEntry) : (s.setLanePlace i v).generation = s.generation := rfl
@[simp] theorem State.setLanePlace_store (i : Nat) (v : Option LaneEntry) : (s.setLanePlace i v).store = s.store := rfl
@[simp] theorem State.setLanePlace_save (i : Nat) (v : Option LaneEntry) : (s.setLanePlace i v).save = s.save := rfl
@[simp] theorem State.setLanePlace_commandQueue (i : Nat) (v : Option LaneEntry) : (s.setLanePlace i v).commandQueue = s.commandQueue := rfl
@[simp] theorem State.setLanePlace_replyInHand (i : Nat) (v : Option LaneEntry) : (s.setLanePlace i v).replyInHand = s.replyInHand := rfl
@[simp] theorem State.setLanePlace_restart (i : Nat) (v : Option LaneEntry) : (s.setLanePlace i v).restart = s.restart := rfl
@[simp] theorem State.setLanePlace_malformedControl (i : Nat) (v : Option LaneEntry) : (s.setLanePlace i v).malformedControl = s.malformedControl := rfl
@[simp] theorem State.setLanePlace_commandOverflow (i : Nat) (v : Option LaneEntry) : (s.setLanePlace i v).commandOverflow = s.commandOverflow := rfl
@[simp] theorem State.setLanePlace_noticeQueue (i : Nat) (v : Option LaneEntry) : (s.setLanePlace i v).noticeQueue = s.noticeQueue := rfl
@[simp] theorem State.setLanePlace_noticeLoss (i : Nat) (v : Option LaneEntry) : (s.setLanePlace i v).noticeLoss = s.noticeLoss := rfl
@[simp] theorem State.setLanePlace_faultSummary (i : Nat) (v : Option LaneEntry) : (s.setLanePlace i v).faultSummary = s.faultSummary := rfl
@[simp] theorem State.setLanePlace_faultRecord (i : Nat) (v : Option LaneEntry) : (s.setLanePlace i v).faultRecord = s.faultRecord := rfl
@[simp] theorem State.setLanePlace_acc_port (i : Nat) (v : Option LaneEntry) (j : Nat) : (s.setLanePlace i v).port j = s.port j := rfl
@[simp] theorem State.setLanePlace_acc_service (i : Nat) (v : Option LaneEntry) (j : Nat) : (s.setLanePlace i v).service j = s.service j := rfl
@[simp] theorem State.setLanePlace_acc_candidate (i : Nat) (v : Option LaneEntry) (j : Nat) : (s.setLanePlace i v).candidate j = s.candidate j := rfl
@[simp] theorem State.setLanePlace_acc_weightSet (i : Nat) (v : Option LaneEntry) (j : Nat) : (s.setLanePlace i v).weightSet j = s.weightSet j := rfl
@[simp] theorem State.setLanePlace_acc_sweepEntry (i : Nat) (v : Option LaneEntry) (j : Nat) : (s.setLanePlace i v).sweepEntry j = s.sweepEntry j := rfl
@[simp] theorem State.setLanePlace_acc_sweepPort (i : Nat) (v : Option LaneEntry) (j : Nat) : (s.setLanePlace i v).sweepPort j = s.sweepPort j := rfl
@[simp] theorem State.setLanePlace_acc_dirContext (i : Nat) (v : Option LaneEntry) (j : Nat) : (s.setLanePlace i v).dirContext j = s.dirContext j := rfl
@[simp] theorem State.setLanePlace_acc_snapshot (i : Nat) (v : Option LaneEntry) (j : Nat) : (s.setLanePlace i v).snapshot j = s.snapshot j := rfl

/-! ### setService -/

@[simp] theorem State.setService_pending (k : Nat) (v : Service) : (s.setService k v).pending = s.pending := rfl
@[simp] theorem State.setService_inFlight (k : Nat) (v : Service) : (s.setService k v).inFlight = s.inFlight := rfl
@[simp] theorem State.setService_now (k : Nat) (v : Service) : (s.setService k v).now = s.now := rfl
@[simp] theorem State.setService_phase (k : Nat) (v : Service) : (s.setService k v).phase = s.phase := rfl
@[simp] theorem State.setService_commission (k : Nat) (v : Service) : (s.setService k v).commission = s.commission := rfl
@[simp] theorem State.setService_outputLink (k : Nat) (v : Service) : (s.setService k v).outputLink = s.outputLink := rfl
@[simp] theorem State.setService_ports (k : Nat) (v : Service) : (s.setService k v).ports = s.ports := rfl
@[simp] theorem State.setService_laneMap (k : Nat) (v : Service) : (s.setService k v).laneMap = s.laneMap := rfl
@[simp] theorem State.setService_candidates (k : Nat) (v : Service) : (s.setService k v).candidates = s.candidates := rfl
@[simp] theorem State.setService_changes (k : Nat) (v : Service) : (s.setService k v).changes = s.changes := rfl
@[simp] theorem State.setService_headHeld (k : Nat) (v : Service) : (s.setService k v).headHeld = s.headHeld := rfl
@[simp] theorem State.setService_weights (k : Nat) (v : Service) : (s.setService k v).weights = s.weights := rfl
@[simp] theorem State.setService_intervalNumber (k : Nat) (v : Service) : (s.setService k v).intervalNumber = s.intervalNumber := rfl
@[simp] theorem State.setService_intervalStart (k : Nat) (v : Service) : (s.setService k v).intervalStart = s.intervalStart := rfl
@[simp] theorem State.setService_intervalLength (k : Nat) (v : Service) : (s.setService k v).intervalLength = s.intervalLength := rfl
@[simp] theorem State.setService_gradingTimer (k : Nat) (v : Service) : (s.setService k v).gradingTimer = s.gradingTimer := rfl
@[simp] theorem State.setService_sweepList (k : Nat) (v : Service) : (s.setService k v).sweepList = s.sweepList := rfl
@[simp] theorem State.setService_visitQueue (k : Nat) (v : Service) : (s.setService k v).visitQueue = s.visitQueue := rfl
@[simp] theorem State.setService_sweepPorts (k : Nat) (v : Service) : (s.setService k v).sweepPorts = s.sweepPorts := rfl
@[simp] theorem State.setService_contexts (k : Nat) (v : Service) : (s.setService k v).contexts = s.contexts := rfl
@[simp] theorem State.setService_snapshots (k : Nat) (v : Service) : (s.setService k v).snapshots = s.snapshots := rfl
@[simp] theorem State.setService_discoveries (k : Nat) (v : Service) : (s.setService k v).discoveries = s.discoveries := rfl
@[simp] theorem State.setService_discoveryOverflow (k : Nat) (v : Service) : (s.setService k v).discoveryOverflow = s.discoveryOverflow := rfl
@[simp] theorem State.setService_forwardQueue (k : Nat) (v : Service) : (s.setService k v).forwardQueue = s.forwardQueue := rfl
@[simp] theorem State.setService_insertQueue (k : Nat) (v : Service) : (s.setService k v).insertQueue = s.insertQueue := rfl
@[simp] theorem State.setService_reportCounter (k : Nat) (v : Service) : (s.setService k v).reportCounter = s.reportCounter := rfl
@[simp] theorem State.setService_tapCounter (k : Nat) (v : Service) : (s.setService k v).tapCounter = s.tapCounter := rfl
@[simp] theorem State.setService_tap (k : Nat) (v : Service) : (s.setService k v).tap = s.tap := rfl
@[simp] theorem State.setService_settings (k : Nat) (v : Service) : (s.setService k v).settings = s.settings := rfl
@[simp] theorem State.setService_generation (k : Nat) (v : Service) : (s.setService k v).generation = s.generation := rfl
@[simp] theorem State.setService_store (k : Nat) (v : Service) : (s.setService k v).store = s.store := rfl
@[simp] theorem State.setService_save (k : Nat) (v : Service) : (s.setService k v).save = s.save := rfl
@[simp] theorem State.setService_commandQueue (k : Nat) (v : Service) : (s.setService k v).commandQueue = s.commandQueue := rfl
@[simp] theorem State.setService_replyInHand (k : Nat) (v : Service) : (s.setService k v).replyInHand = s.replyInHand := rfl
@[simp] theorem State.setService_restart (k : Nat) (v : Service) : (s.setService k v).restart = s.restart := rfl
@[simp] theorem State.setService_malformedControl (k : Nat) (v : Service) : (s.setService k v).malformedControl = s.malformedControl := rfl
@[simp] theorem State.setService_commandOverflow (k : Nat) (v : Service) : (s.setService k v).commandOverflow = s.commandOverflow := rfl
@[simp] theorem State.setService_noticeQueue (k : Nat) (v : Service) : (s.setService k v).noticeQueue = s.noticeQueue := rfl
@[simp] theorem State.setService_noticeLoss (k : Nat) (v : Service) : (s.setService k v).noticeLoss = s.noticeLoss := rfl
@[simp] theorem State.setService_faultSummary (k : Nat) (v : Service) : (s.setService k v).faultSummary = s.faultSummary := rfl
@[simp] theorem State.setService_faultRecord (k : Nat) (v : Service) : (s.setService k v).faultRecord = s.faultRecord := rfl
@[simp] theorem State.setService_acc_port (k : Nat) (v : Service) (j : Nat) : (s.setService k v).port j = s.port j := rfl
@[simp] theorem State.setService_acc_lanePlace (k : Nat) (v : Service) (j : Nat) : (s.setService k v).lanePlace j = s.lanePlace j := rfl
@[simp] theorem State.setService_acc_candidate (k : Nat) (v : Service) (j : Nat) : (s.setService k v).candidate j = s.candidate j := rfl
@[simp] theorem State.setService_acc_weightSet (k : Nat) (v : Service) (j : Nat) : (s.setService k v).weightSet j = s.weightSet j := rfl
@[simp] theorem State.setService_acc_sweepEntry (k : Nat) (v : Service) (j : Nat) : (s.setService k v).sweepEntry j = s.sweepEntry j := rfl
@[simp] theorem State.setService_acc_sweepPort (k : Nat) (v : Service) (j : Nat) : (s.setService k v).sweepPort j = s.sweepPort j := rfl
@[simp] theorem State.setService_acc_dirContext (k : Nat) (v : Service) (j : Nat) : (s.setService k v).dirContext j = s.dirContext j := rfl
@[simp] theorem State.setService_acc_snapshot (k : Nat) (v : Service) (j : Nat) : (s.setService k v).snapshot j = s.snapshot j := rfl

/-! ### setCandidate -/

@[simp] theorem State.setCandidate_pending (c : Nat) (v : Candidate) : (s.setCandidate c v).pending = s.pending := rfl
@[simp] theorem State.setCandidate_inFlight (c : Nat) (v : Candidate) : (s.setCandidate c v).inFlight = s.inFlight := rfl
@[simp] theorem State.setCandidate_now (c : Nat) (v : Candidate) : (s.setCandidate c v).now = s.now := rfl
@[simp] theorem State.setCandidate_phase (c : Nat) (v : Candidate) : (s.setCandidate c v).phase = s.phase := rfl
@[simp] theorem State.setCandidate_commission (c : Nat) (v : Candidate) : (s.setCandidate c v).commission = s.commission := rfl
@[simp] theorem State.setCandidate_outputLink (c : Nat) (v : Candidate) : (s.setCandidate c v).outputLink = s.outputLink := rfl
@[simp] theorem State.setCandidate_ports (c : Nat) (v : Candidate) : (s.setCandidate c v).ports = s.ports := rfl
@[simp] theorem State.setCandidate_laneMap (c : Nat) (v : Candidate) : (s.setCandidate c v).laneMap = s.laneMap := rfl
@[simp] theorem State.setCandidate_services (c : Nat) (v : Candidate) : (s.setCandidate c v).services = s.services := rfl
@[simp] theorem State.setCandidate_changes (c : Nat) (v : Candidate) : (s.setCandidate c v).changes = s.changes := rfl
@[simp] theorem State.setCandidate_headHeld (c : Nat) (v : Candidate) : (s.setCandidate c v).headHeld = s.headHeld := rfl
@[simp] theorem State.setCandidate_weights (c : Nat) (v : Candidate) : (s.setCandidate c v).weights = s.weights := rfl
@[simp] theorem State.setCandidate_intervalNumber (c : Nat) (v : Candidate) : (s.setCandidate c v).intervalNumber = s.intervalNumber := rfl
@[simp] theorem State.setCandidate_intervalStart (c : Nat) (v : Candidate) : (s.setCandidate c v).intervalStart = s.intervalStart := rfl
@[simp] theorem State.setCandidate_intervalLength (c : Nat) (v : Candidate) : (s.setCandidate c v).intervalLength = s.intervalLength := rfl
@[simp] theorem State.setCandidate_gradingTimer (c : Nat) (v : Candidate) : (s.setCandidate c v).gradingTimer = s.gradingTimer := rfl
@[simp] theorem State.setCandidate_sweepList (c : Nat) (v : Candidate) : (s.setCandidate c v).sweepList = s.sweepList := rfl
@[simp] theorem State.setCandidate_visitQueue (c : Nat) (v : Candidate) : (s.setCandidate c v).visitQueue = s.visitQueue := rfl
@[simp] theorem State.setCandidate_sweepPorts (c : Nat) (v : Candidate) : (s.setCandidate c v).sweepPorts = s.sweepPorts := rfl
@[simp] theorem State.setCandidate_contexts (c : Nat) (v : Candidate) : (s.setCandidate c v).contexts = s.contexts := rfl
@[simp] theorem State.setCandidate_snapshots (c : Nat) (v : Candidate) : (s.setCandidate c v).snapshots = s.snapshots := rfl
@[simp] theorem State.setCandidate_discoveries (c : Nat) (v : Candidate) : (s.setCandidate c v).discoveries = s.discoveries := rfl
@[simp] theorem State.setCandidate_discoveryOverflow (c : Nat) (v : Candidate) : (s.setCandidate c v).discoveryOverflow = s.discoveryOverflow := rfl
@[simp] theorem State.setCandidate_forwardQueue (c : Nat) (v : Candidate) : (s.setCandidate c v).forwardQueue = s.forwardQueue := rfl
@[simp] theorem State.setCandidate_insertQueue (c : Nat) (v : Candidate) : (s.setCandidate c v).insertQueue = s.insertQueue := rfl
@[simp] theorem State.setCandidate_reportCounter (c : Nat) (v : Candidate) : (s.setCandidate c v).reportCounter = s.reportCounter := rfl
@[simp] theorem State.setCandidate_tapCounter (c : Nat) (v : Candidate) : (s.setCandidate c v).tapCounter = s.tapCounter := rfl
@[simp] theorem State.setCandidate_tap (c : Nat) (v : Candidate) : (s.setCandidate c v).tap = s.tap := rfl
@[simp] theorem State.setCandidate_settings (c : Nat) (v : Candidate) : (s.setCandidate c v).settings = s.settings := rfl
@[simp] theorem State.setCandidate_generation (c : Nat) (v : Candidate) : (s.setCandidate c v).generation = s.generation := rfl
@[simp] theorem State.setCandidate_store (c : Nat) (v : Candidate) : (s.setCandidate c v).store = s.store := rfl
@[simp] theorem State.setCandidate_save (c : Nat) (v : Candidate) : (s.setCandidate c v).save = s.save := rfl
@[simp] theorem State.setCandidate_commandQueue (c : Nat) (v : Candidate) : (s.setCandidate c v).commandQueue = s.commandQueue := rfl
@[simp] theorem State.setCandidate_replyInHand (c : Nat) (v : Candidate) : (s.setCandidate c v).replyInHand = s.replyInHand := rfl
@[simp] theorem State.setCandidate_restart (c : Nat) (v : Candidate) : (s.setCandidate c v).restart = s.restart := rfl
@[simp] theorem State.setCandidate_malformedControl (c : Nat) (v : Candidate) : (s.setCandidate c v).malformedControl = s.malformedControl := rfl
@[simp] theorem State.setCandidate_commandOverflow (c : Nat) (v : Candidate) : (s.setCandidate c v).commandOverflow = s.commandOverflow := rfl
@[simp] theorem State.setCandidate_noticeQueue (c : Nat) (v : Candidate) : (s.setCandidate c v).noticeQueue = s.noticeQueue := rfl
@[simp] theorem State.setCandidate_noticeLoss (c : Nat) (v : Candidate) : (s.setCandidate c v).noticeLoss = s.noticeLoss := rfl
@[simp] theorem State.setCandidate_faultSummary (c : Nat) (v : Candidate) : (s.setCandidate c v).faultSummary = s.faultSummary := rfl
@[simp] theorem State.setCandidate_faultRecord (c : Nat) (v : Candidate) : (s.setCandidate c v).faultRecord = s.faultRecord := rfl
@[simp] theorem State.setCandidate_acc_port (c : Nat) (v : Candidate) (j : Nat) : (s.setCandidate c v).port j = s.port j := rfl
@[simp] theorem State.setCandidate_acc_lanePlace (c : Nat) (v : Candidate) (j : Nat) : (s.setCandidate c v).lanePlace j = s.lanePlace j := rfl
@[simp] theorem State.setCandidate_acc_service (c : Nat) (v : Candidate) (j : Nat) : (s.setCandidate c v).service j = s.service j := rfl
@[simp] theorem State.setCandidate_acc_weightSet (c : Nat) (v : Candidate) (j : Nat) : (s.setCandidate c v).weightSet j = s.weightSet j := rfl
@[simp] theorem State.setCandidate_acc_sweepEntry (c : Nat) (v : Candidate) (j : Nat) : (s.setCandidate c v).sweepEntry j = s.sweepEntry j := rfl
@[simp] theorem State.setCandidate_acc_sweepPort (c : Nat) (v : Candidate) (j : Nat) : (s.setCandidate c v).sweepPort j = s.sweepPort j := rfl
@[simp] theorem State.setCandidate_acc_dirContext (c : Nat) (v : Candidate) (j : Nat) : (s.setCandidate c v).dirContext j = s.dirContext j := rfl
@[simp] theorem State.setCandidate_acc_snapshot (c : Nat) (v : Candidate) (j : Nat) : (s.setCandidate c v).snapshot j = s.snapshot j := rfl

/-! ### setWeightSet -/

@[simp] theorem State.setWeightSet_pending (w : Nat) (v : WeightSet) : (s.setWeightSet w v).pending = s.pending := rfl
@[simp] theorem State.setWeightSet_inFlight (w : Nat) (v : WeightSet) : (s.setWeightSet w v).inFlight = s.inFlight := rfl
@[simp] theorem State.setWeightSet_now (w : Nat) (v : WeightSet) : (s.setWeightSet w v).now = s.now := rfl
@[simp] theorem State.setWeightSet_phase (w : Nat) (v : WeightSet) : (s.setWeightSet w v).phase = s.phase := rfl
@[simp] theorem State.setWeightSet_commission (w : Nat) (v : WeightSet) : (s.setWeightSet w v).commission = s.commission := rfl
@[simp] theorem State.setWeightSet_outputLink (w : Nat) (v : WeightSet) : (s.setWeightSet w v).outputLink = s.outputLink := rfl
@[simp] theorem State.setWeightSet_ports (w : Nat) (v : WeightSet) : (s.setWeightSet w v).ports = s.ports := rfl
@[simp] theorem State.setWeightSet_laneMap (w : Nat) (v : WeightSet) : (s.setWeightSet w v).laneMap = s.laneMap := rfl
@[simp] theorem State.setWeightSet_services (w : Nat) (v : WeightSet) : (s.setWeightSet w v).services = s.services := rfl
@[simp] theorem State.setWeightSet_candidates (w : Nat) (v : WeightSet) : (s.setWeightSet w v).candidates = s.candidates := rfl
@[simp] theorem State.setWeightSet_changes (w : Nat) (v : WeightSet) : (s.setWeightSet w v).changes = s.changes := rfl
@[simp] theorem State.setWeightSet_headHeld (w : Nat) (v : WeightSet) : (s.setWeightSet w v).headHeld = s.headHeld := rfl
@[simp] theorem State.setWeightSet_intervalNumber (w : Nat) (v : WeightSet) : (s.setWeightSet w v).intervalNumber = s.intervalNumber := rfl
@[simp] theorem State.setWeightSet_intervalStart (w : Nat) (v : WeightSet) : (s.setWeightSet w v).intervalStart = s.intervalStart := rfl
@[simp] theorem State.setWeightSet_intervalLength (w : Nat) (v : WeightSet) : (s.setWeightSet w v).intervalLength = s.intervalLength := rfl
@[simp] theorem State.setWeightSet_gradingTimer (w : Nat) (v : WeightSet) : (s.setWeightSet w v).gradingTimer = s.gradingTimer := rfl
@[simp] theorem State.setWeightSet_sweepList (w : Nat) (v : WeightSet) : (s.setWeightSet w v).sweepList = s.sweepList := rfl
@[simp] theorem State.setWeightSet_visitQueue (w : Nat) (v : WeightSet) : (s.setWeightSet w v).visitQueue = s.visitQueue := rfl
@[simp] theorem State.setWeightSet_sweepPorts (w : Nat) (v : WeightSet) : (s.setWeightSet w v).sweepPorts = s.sweepPorts := rfl
@[simp] theorem State.setWeightSet_contexts (w : Nat) (v : WeightSet) : (s.setWeightSet w v).contexts = s.contexts := rfl
@[simp] theorem State.setWeightSet_snapshots (w : Nat) (v : WeightSet) : (s.setWeightSet w v).snapshots = s.snapshots := rfl
@[simp] theorem State.setWeightSet_discoveries (w : Nat) (v : WeightSet) : (s.setWeightSet w v).discoveries = s.discoveries := rfl
@[simp] theorem State.setWeightSet_discoveryOverflow (w : Nat) (v : WeightSet) : (s.setWeightSet w v).discoveryOverflow = s.discoveryOverflow := rfl
@[simp] theorem State.setWeightSet_forwardQueue (w : Nat) (v : WeightSet) : (s.setWeightSet w v).forwardQueue = s.forwardQueue := rfl
@[simp] theorem State.setWeightSet_insertQueue (w : Nat) (v : WeightSet) : (s.setWeightSet w v).insertQueue = s.insertQueue := rfl
@[simp] theorem State.setWeightSet_reportCounter (w : Nat) (v : WeightSet) : (s.setWeightSet w v).reportCounter = s.reportCounter := rfl
@[simp] theorem State.setWeightSet_tapCounter (w : Nat) (v : WeightSet) : (s.setWeightSet w v).tapCounter = s.tapCounter := rfl
@[simp] theorem State.setWeightSet_tap (w : Nat) (v : WeightSet) : (s.setWeightSet w v).tap = s.tap := rfl
@[simp] theorem State.setWeightSet_settings (w : Nat) (v : WeightSet) : (s.setWeightSet w v).settings = s.settings := rfl
@[simp] theorem State.setWeightSet_generation (w : Nat) (v : WeightSet) : (s.setWeightSet w v).generation = s.generation := rfl
@[simp] theorem State.setWeightSet_store (w : Nat) (v : WeightSet) : (s.setWeightSet w v).store = s.store := rfl
@[simp] theorem State.setWeightSet_save (w : Nat) (v : WeightSet) : (s.setWeightSet w v).save = s.save := rfl
@[simp] theorem State.setWeightSet_commandQueue (w : Nat) (v : WeightSet) : (s.setWeightSet w v).commandQueue = s.commandQueue := rfl
@[simp] theorem State.setWeightSet_replyInHand (w : Nat) (v : WeightSet) : (s.setWeightSet w v).replyInHand = s.replyInHand := rfl
@[simp] theorem State.setWeightSet_restart (w : Nat) (v : WeightSet) : (s.setWeightSet w v).restart = s.restart := rfl
@[simp] theorem State.setWeightSet_malformedControl (w : Nat) (v : WeightSet) : (s.setWeightSet w v).malformedControl = s.malformedControl := rfl
@[simp] theorem State.setWeightSet_commandOverflow (w : Nat) (v : WeightSet) : (s.setWeightSet w v).commandOverflow = s.commandOverflow := rfl
@[simp] theorem State.setWeightSet_noticeQueue (w : Nat) (v : WeightSet) : (s.setWeightSet w v).noticeQueue = s.noticeQueue := rfl
@[simp] theorem State.setWeightSet_noticeLoss (w : Nat) (v : WeightSet) : (s.setWeightSet w v).noticeLoss = s.noticeLoss := rfl
@[simp] theorem State.setWeightSet_faultSummary (w : Nat) (v : WeightSet) : (s.setWeightSet w v).faultSummary = s.faultSummary := rfl
@[simp] theorem State.setWeightSet_faultRecord (w : Nat) (v : WeightSet) : (s.setWeightSet w v).faultRecord = s.faultRecord := rfl
@[simp] theorem State.setWeightSet_acc_port (w : Nat) (v : WeightSet) (j : Nat) : (s.setWeightSet w v).port j = s.port j := rfl
@[simp] theorem State.setWeightSet_acc_lanePlace (w : Nat) (v : WeightSet) (j : Nat) : (s.setWeightSet w v).lanePlace j = s.lanePlace j := rfl
@[simp] theorem State.setWeightSet_acc_service (w : Nat) (v : WeightSet) (j : Nat) : (s.setWeightSet w v).service j = s.service j := rfl
@[simp] theorem State.setWeightSet_acc_candidate (w : Nat) (v : WeightSet) (j : Nat) : (s.setWeightSet w v).candidate j = s.candidate j := rfl
@[simp] theorem State.setWeightSet_acc_sweepEntry (w : Nat) (v : WeightSet) (j : Nat) : (s.setWeightSet w v).sweepEntry j = s.sweepEntry j := rfl
@[simp] theorem State.setWeightSet_acc_sweepPort (w : Nat) (v : WeightSet) (j : Nat) : (s.setWeightSet w v).sweepPort j = s.sweepPort j := rfl
@[simp] theorem State.setWeightSet_acc_dirContext (w : Nat) (v : WeightSet) (j : Nat) : (s.setWeightSet w v).dirContext j = s.dirContext j := rfl
@[simp] theorem State.setWeightSet_acc_snapshot (w : Nat) (v : WeightSet) (j : Nat) : (s.setWeightSet w v).snapshot j = s.snapshot j := rfl

/-! ### setSweepEntry -/

@[simp] theorem State.setSweepEntry_pending (e : Nat) (v : SweepEntry) : (s.setSweepEntry e v).pending = s.pending := rfl
@[simp] theorem State.setSweepEntry_inFlight (e : Nat) (v : SweepEntry) : (s.setSweepEntry e v).inFlight = s.inFlight := rfl
@[simp] theorem State.setSweepEntry_now (e : Nat) (v : SweepEntry) : (s.setSweepEntry e v).now = s.now := rfl
@[simp] theorem State.setSweepEntry_phase (e : Nat) (v : SweepEntry) : (s.setSweepEntry e v).phase = s.phase := rfl
@[simp] theorem State.setSweepEntry_commission (e : Nat) (v : SweepEntry) : (s.setSweepEntry e v).commission = s.commission := rfl
@[simp] theorem State.setSweepEntry_outputLink (e : Nat) (v : SweepEntry) : (s.setSweepEntry e v).outputLink = s.outputLink := rfl
@[simp] theorem State.setSweepEntry_ports (e : Nat) (v : SweepEntry) : (s.setSweepEntry e v).ports = s.ports := rfl
@[simp] theorem State.setSweepEntry_laneMap (e : Nat) (v : SweepEntry) : (s.setSweepEntry e v).laneMap = s.laneMap := rfl
@[simp] theorem State.setSweepEntry_services (e : Nat) (v : SweepEntry) : (s.setSweepEntry e v).services = s.services := rfl
@[simp] theorem State.setSweepEntry_candidates (e : Nat) (v : SweepEntry) : (s.setSweepEntry e v).candidates = s.candidates := rfl
@[simp] theorem State.setSweepEntry_changes (e : Nat) (v : SweepEntry) : (s.setSweepEntry e v).changes = s.changes := rfl
@[simp] theorem State.setSweepEntry_headHeld (e : Nat) (v : SweepEntry) : (s.setSweepEntry e v).headHeld = s.headHeld := rfl
@[simp] theorem State.setSweepEntry_weights (e : Nat) (v : SweepEntry) : (s.setSweepEntry e v).weights = s.weights := rfl
@[simp] theorem State.setSweepEntry_intervalNumber (e : Nat) (v : SweepEntry) : (s.setSweepEntry e v).intervalNumber = s.intervalNumber := rfl
@[simp] theorem State.setSweepEntry_intervalStart (e : Nat) (v : SweepEntry) : (s.setSweepEntry e v).intervalStart = s.intervalStart := rfl
@[simp] theorem State.setSweepEntry_intervalLength (e : Nat) (v : SweepEntry) : (s.setSweepEntry e v).intervalLength = s.intervalLength := rfl
@[simp] theorem State.setSweepEntry_gradingTimer (e : Nat) (v : SweepEntry) : (s.setSweepEntry e v).gradingTimer = s.gradingTimer := rfl
@[simp] theorem State.setSweepEntry_visitQueue (e : Nat) (v : SweepEntry) : (s.setSweepEntry e v).visitQueue = s.visitQueue := rfl
@[simp] theorem State.setSweepEntry_sweepPorts (e : Nat) (v : SweepEntry) : (s.setSweepEntry e v).sweepPorts = s.sweepPorts := rfl
@[simp] theorem State.setSweepEntry_contexts (e : Nat) (v : SweepEntry) : (s.setSweepEntry e v).contexts = s.contexts := rfl
@[simp] theorem State.setSweepEntry_snapshots (e : Nat) (v : SweepEntry) : (s.setSweepEntry e v).snapshots = s.snapshots := rfl
@[simp] theorem State.setSweepEntry_discoveries (e : Nat) (v : SweepEntry) : (s.setSweepEntry e v).discoveries = s.discoveries := rfl
@[simp] theorem State.setSweepEntry_discoveryOverflow (e : Nat) (v : SweepEntry) : (s.setSweepEntry e v).discoveryOverflow = s.discoveryOverflow := rfl
@[simp] theorem State.setSweepEntry_forwardQueue (e : Nat) (v : SweepEntry) : (s.setSweepEntry e v).forwardQueue = s.forwardQueue := rfl
@[simp] theorem State.setSweepEntry_insertQueue (e : Nat) (v : SweepEntry) : (s.setSweepEntry e v).insertQueue = s.insertQueue := rfl
@[simp] theorem State.setSweepEntry_reportCounter (e : Nat) (v : SweepEntry) : (s.setSweepEntry e v).reportCounter = s.reportCounter := rfl
@[simp] theorem State.setSweepEntry_tapCounter (e : Nat) (v : SweepEntry) : (s.setSweepEntry e v).tapCounter = s.tapCounter := rfl
@[simp] theorem State.setSweepEntry_tap (e : Nat) (v : SweepEntry) : (s.setSweepEntry e v).tap = s.tap := rfl
@[simp] theorem State.setSweepEntry_settings (e : Nat) (v : SweepEntry) : (s.setSweepEntry e v).settings = s.settings := rfl
@[simp] theorem State.setSweepEntry_generation (e : Nat) (v : SweepEntry) : (s.setSweepEntry e v).generation = s.generation := rfl
@[simp] theorem State.setSweepEntry_store (e : Nat) (v : SweepEntry) : (s.setSweepEntry e v).store = s.store := rfl
@[simp] theorem State.setSweepEntry_save (e : Nat) (v : SweepEntry) : (s.setSweepEntry e v).save = s.save := rfl
@[simp] theorem State.setSweepEntry_commandQueue (e : Nat) (v : SweepEntry) : (s.setSweepEntry e v).commandQueue = s.commandQueue := rfl
@[simp] theorem State.setSweepEntry_replyInHand (e : Nat) (v : SweepEntry) : (s.setSweepEntry e v).replyInHand = s.replyInHand := rfl
@[simp] theorem State.setSweepEntry_restart (e : Nat) (v : SweepEntry) : (s.setSweepEntry e v).restart = s.restart := rfl
@[simp] theorem State.setSweepEntry_malformedControl (e : Nat) (v : SweepEntry) : (s.setSweepEntry e v).malformedControl = s.malformedControl := rfl
@[simp] theorem State.setSweepEntry_commandOverflow (e : Nat) (v : SweepEntry) : (s.setSweepEntry e v).commandOverflow = s.commandOverflow := rfl
@[simp] theorem State.setSweepEntry_noticeQueue (e : Nat) (v : SweepEntry) : (s.setSweepEntry e v).noticeQueue = s.noticeQueue := rfl
@[simp] theorem State.setSweepEntry_noticeLoss (e : Nat) (v : SweepEntry) : (s.setSweepEntry e v).noticeLoss = s.noticeLoss := rfl
@[simp] theorem State.setSweepEntry_faultSummary (e : Nat) (v : SweepEntry) : (s.setSweepEntry e v).faultSummary = s.faultSummary := rfl
@[simp] theorem State.setSweepEntry_faultRecord (e : Nat) (v : SweepEntry) : (s.setSweepEntry e v).faultRecord = s.faultRecord := rfl
@[simp] theorem State.setSweepEntry_acc_port (e : Nat) (v : SweepEntry) (j : Nat) : (s.setSweepEntry e v).port j = s.port j := rfl
@[simp] theorem State.setSweepEntry_acc_lanePlace (e : Nat) (v : SweepEntry) (j : Nat) : (s.setSweepEntry e v).lanePlace j = s.lanePlace j := rfl
@[simp] theorem State.setSweepEntry_acc_service (e : Nat) (v : SweepEntry) (j : Nat) : (s.setSweepEntry e v).service j = s.service j := rfl
@[simp] theorem State.setSweepEntry_acc_candidate (e : Nat) (v : SweepEntry) (j : Nat) : (s.setSweepEntry e v).candidate j = s.candidate j := rfl
@[simp] theorem State.setSweepEntry_acc_weightSet (e : Nat) (v : SweepEntry) (j : Nat) : (s.setSweepEntry e v).weightSet j = s.weightSet j := rfl
@[simp] theorem State.setSweepEntry_acc_sweepPort (e : Nat) (v : SweepEntry) (j : Nat) : (s.setSweepEntry e v).sweepPort j = s.sweepPort j := rfl
@[simp] theorem State.setSweepEntry_acc_dirContext (e : Nat) (v : SweepEntry) (j : Nat) : (s.setSweepEntry e v).dirContext j = s.dirContext j := rfl
@[simp] theorem State.setSweepEntry_acc_snapshot (e : Nat) (v : SweepEntry) (j : Nat) : (s.setSweepEntry e v).snapshot j = s.snapshot j := rfl

/-! ### setSweepPort -/

@[simp] theorem State.setSweepPort_pending (p : Nat) (v : SweepPort) : (s.setSweepPort p v).pending = s.pending := rfl
@[simp] theorem State.setSweepPort_inFlight (p : Nat) (v : SweepPort) : (s.setSweepPort p v).inFlight = s.inFlight := rfl
@[simp] theorem State.setSweepPort_now (p : Nat) (v : SweepPort) : (s.setSweepPort p v).now = s.now := rfl
@[simp] theorem State.setSweepPort_phase (p : Nat) (v : SweepPort) : (s.setSweepPort p v).phase = s.phase := rfl
@[simp] theorem State.setSweepPort_commission (p : Nat) (v : SweepPort) : (s.setSweepPort p v).commission = s.commission := rfl
@[simp] theorem State.setSweepPort_outputLink (p : Nat) (v : SweepPort) : (s.setSweepPort p v).outputLink = s.outputLink := rfl
@[simp] theorem State.setSweepPort_ports (p : Nat) (v : SweepPort) : (s.setSweepPort p v).ports = s.ports := rfl
@[simp] theorem State.setSweepPort_laneMap (p : Nat) (v : SweepPort) : (s.setSweepPort p v).laneMap = s.laneMap := rfl
@[simp] theorem State.setSweepPort_services (p : Nat) (v : SweepPort) : (s.setSweepPort p v).services = s.services := rfl
@[simp] theorem State.setSweepPort_candidates (p : Nat) (v : SweepPort) : (s.setSweepPort p v).candidates = s.candidates := rfl
@[simp] theorem State.setSweepPort_changes (p : Nat) (v : SweepPort) : (s.setSweepPort p v).changes = s.changes := rfl
@[simp] theorem State.setSweepPort_headHeld (p : Nat) (v : SweepPort) : (s.setSweepPort p v).headHeld = s.headHeld := rfl
@[simp] theorem State.setSweepPort_weights (p : Nat) (v : SweepPort) : (s.setSweepPort p v).weights = s.weights := rfl
@[simp] theorem State.setSweepPort_intervalNumber (p : Nat) (v : SweepPort) : (s.setSweepPort p v).intervalNumber = s.intervalNumber := rfl
@[simp] theorem State.setSweepPort_intervalStart (p : Nat) (v : SweepPort) : (s.setSweepPort p v).intervalStart = s.intervalStart := rfl
@[simp] theorem State.setSweepPort_intervalLength (p : Nat) (v : SweepPort) : (s.setSweepPort p v).intervalLength = s.intervalLength := rfl
@[simp] theorem State.setSweepPort_gradingTimer (p : Nat) (v : SweepPort) : (s.setSweepPort p v).gradingTimer = s.gradingTimer := rfl
@[simp] theorem State.setSweepPort_sweepList (p : Nat) (v : SweepPort) : (s.setSweepPort p v).sweepList = s.sweepList := rfl
@[simp] theorem State.setSweepPort_visitQueue (p : Nat) (v : SweepPort) : (s.setSweepPort p v).visitQueue = s.visitQueue := rfl
@[simp] theorem State.setSweepPort_contexts (p : Nat) (v : SweepPort) : (s.setSweepPort p v).contexts = s.contexts := rfl
@[simp] theorem State.setSweepPort_snapshots (p : Nat) (v : SweepPort) : (s.setSweepPort p v).snapshots = s.snapshots := rfl
@[simp] theorem State.setSweepPort_discoveries (p : Nat) (v : SweepPort) : (s.setSweepPort p v).discoveries = s.discoveries := rfl
@[simp] theorem State.setSweepPort_discoveryOverflow (p : Nat) (v : SweepPort) : (s.setSweepPort p v).discoveryOverflow = s.discoveryOverflow := rfl
@[simp] theorem State.setSweepPort_forwardQueue (p : Nat) (v : SweepPort) : (s.setSweepPort p v).forwardQueue = s.forwardQueue := rfl
@[simp] theorem State.setSweepPort_insertQueue (p : Nat) (v : SweepPort) : (s.setSweepPort p v).insertQueue = s.insertQueue := rfl
@[simp] theorem State.setSweepPort_reportCounter (p : Nat) (v : SweepPort) : (s.setSweepPort p v).reportCounter = s.reportCounter := rfl
@[simp] theorem State.setSweepPort_tapCounter (p : Nat) (v : SweepPort) : (s.setSweepPort p v).tapCounter = s.tapCounter := rfl
@[simp] theorem State.setSweepPort_tap (p : Nat) (v : SweepPort) : (s.setSweepPort p v).tap = s.tap := rfl
@[simp] theorem State.setSweepPort_settings (p : Nat) (v : SweepPort) : (s.setSweepPort p v).settings = s.settings := rfl
@[simp] theorem State.setSweepPort_generation (p : Nat) (v : SweepPort) : (s.setSweepPort p v).generation = s.generation := rfl
@[simp] theorem State.setSweepPort_store (p : Nat) (v : SweepPort) : (s.setSweepPort p v).store = s.store := rfl
@[simp] theorem State.setSweepPort_save (p : Nat) (v : SweepPort) : (s.setSweepPort p v).save = s.save := rfl
@[simp] theorem State.setSweepPort_commandQueue (p : Nat) (v : SweepPort) : (s.setSweepPort p v).commandQueue = s.commandQueue := rfl
@[simp] theorem State.setSweepPort_replyInHand (p : Nat) (v : SweepPort) : (s.setSweepPort p v).replyInHand = s.replyInHand := rfl
@[simp] theorem State.setSweepPort_restart (p : Nat) (v : SweepPort) : (s.setSweepPort p v).restart = s.restart := rfl
@[simp] theorem State.setSweepPort_malformedControl (p : Nat) (v : SweepPort) : (s.setSweepPort p v).malformedControl = s.malformedControl := rfl
@[simp] theorem State.setSweepPort_commandOverflow (p : Nat) (v : SweepPort) : (s.setSweepPort p v).commandOverflow = s.commandOverflow := rfl
@[simp] theorem State.setSweepPort_noticeQueue (p : Nat) (v : SweepPort) : (s.setSweepPort p v).noticeQueue = s.noticeQueue := rfl
@[simp] theorem State.setSweepPort_noticeLoss (p : Nat) (v : SweepPort) : (s.setSweepPort p v).noticeLoss = s.noticeLoss := rfl
@[simp] theorem State.setSweepPort_faultSummary (p : Nat) (v : SweepPort) : (s.setSweepPort p v).faultSummary = s.faultSummary := rfl
@[simp] theorem State.setSweepPort_faultRecord (p : Nat) (v : SweepPort) : (s.setSweepPort p v).faultRecord = s.faultRecord := rfl
@[simp] theorem State.setSweepPort_acc_port (p : Nat) (v : SweepPort) (j : Nat) : (s.setSweepPort p v).port j = s.port j := rfl
@[simp] theorem State.setSweepPort_acc_lanePlace (p : Nat) (v : SweepPort) (j : Nat) : (s.setSweepPort p v).lanePlace j = s.lanePlace j := rfl
@[simp] theorem State.setSweepPort_acc_service (p : Nat) (v : SweepPort) (j : Nat) : (s.setSweepPort p v).service j = s.service j := rfl
@[simp] theorem State.setSweepPort_acc_candidate (p : Nat) (v : SweepPort) (j : Nat) : (s.setSweepPort p v).candidate j = s.candidate j := rfl
@[simp] theorem State.setSweepPort_acc_weightSet (p : Nat) (v : SweepPort) (j : Nat) : (s.setSweepPort p v).weightSet j = s.weightSet j := rfl
@[simp] theorem State.setSweepPort_acc_sweepEntry (p : Nat) (v : SweepPort) (j : Nat) : (s.setSweepPort p v).sweepEntry j = s.sweepEntry j := rfl
@[simp] theorem State.setSweepPort_acc_dirContext (p : Nat) (v : SweepPort) (j : Nat) : (s.setSweepPort p v).dirContext j = s.dirContext j := rfl
@[simp] theorem State.setSweepPort_acc_snapshot (p : Nat) (v : SweepPort) (j : Nat) : (s.setSweepPort p v).snapshot j = s.snapshot j := rfl

/-! ### setDirContext -/

@[simp] theorem State.setDirContext_pending (p : Nat) (v : DirContext) : (s.setDirContext p v).pending = s.pending := rfl
@[simp] theorem State.setDirContext_inFlight (p : Nat) (v : DirContext) : (s.setDirContext p v).inFlight = s.inFlight := rfl
@[simp] theorem State.setDirContext_now (p : Nat) (v : DirContext) : (s.setDirContext p v).now = s.now := rfl
@[simp] theorem State.setDirContext_phase (p : Nat) (v : DirContext) : (s.setDirContext p v).phase = s.phase := rfl
@[simp] theorem State.setDirContext_commission (p : Nat) (v : DirContext) : (s.setDirContext p v).commission = s.commission := rfl
@[simp] theorem State.setDirContext_outputLink (p : Nat) (v : DirContext) : (s.setDirContext p v).outputLink = s.outputLink := rfl
@[simp] theorem State.setDirContext_ports (p : Nat) (v : DirContext) : (s.setDirContext p v).ports = s.ports := rfl
@[simp] theorem State.setDirContext_laneMap (p : Nat) (v : DirContext) : (s.setDirContext p v).laneMap = s.laneMap := rfl
@[simp] theorem State.setDirContext_services (p : Nat) (v : DirContext) : (s.setDirContext p v).services = s.services := rfl
@[simp] theorem State.setDirContext_candidates (p : Nat) (v : DirContext) : (s.setDirContext p v).candidates = s.candidates := rfl
@[simp] theorem State.setDirContext_changes (p : Nat) (v : DirContext) : (s.setDirContext p v).changes = s.changes := rfl
@[simp] theorem State.setDirContext_headHeld (p : Nat) (v : DirContext) : (s.setDirContext p v).headHeld = s.headHeld := rfl
@[simp] theorem State.setDirContext_weights (p : Nat) (v : DirContext) : (s.setDirContext p v).weights = s.weights := rfl
@[simp] theorem State.setDirContext_intervalNumber (p : Nat) (v : DirContext) : (s.setDirContext p v).intervalNumber = s.intervalNumber := rfl
@[simp] theorem State.setDirContext_intervalStart (p : Nat) (v : DirContext) : (s.setDirContext p v).intervalStart = s.intervalStart := rfl
@[simp] theorem State.setDirContext_intervalLength (p : Nat) (v : DirContext) : (s.setDirContext p v).intervalLength = s.intervalLength := rfl
@[simp] theorem State.setDirContext_gradingTimer (p : Nat) (v : DirContext) : (s.setDirContext p v).gradingTimer = s.gradingTimer := rfl
@[simp] theorem State.setDirContext_sweepList (p : Nat) (v : DirContext) : (s.setDirContext p v).sweepList = s.sweepList := rfl
@[simp] theorem State.setDirContext_visitQueue (p : Nat) (v : DirContext) : (s.setDirContext p v).visitQueue = s.visitQueue := rfl
@[simp] theorem State.setDirContext_sweepPorts (p : Nat) (v : DirContext) : (s.setDirContext p v).sweepPorts = s.sweepPorts := rfl
@[simp] theorem State.setDirContext_snapshots (p : Nat) (v : DirContext) : (s.setDirContext p v).snapshots = s.snapshots := rfl
@[simp] theorem State.setDirContext_discoveries (p : Nat) (v : DirContext) : (s.setDirContext p v).discoveries = s.discoveries := rfl
@[simp] theorem State.setDirContext_discoveryOverflow (p : Nat) (v : DirContext) : (s.setDirContext p v).discoveryOverflow = s.discoveryOverflow := rfl
@[simp] theorem State.setDirContext_forwardQueue (p : Nat) (v : DirContext) : (s.setDirContext p v).forwardQueue = s.forwardQueue := rfl
@[simp] theorem State.setDirContext_insertQueue (p : Nat) (v : DirContext) : (s.setDirContext p v).insertQueue = s.insertQueue := rfl
@[simp] theorem State.setDirContext_reportCounter (p : Nat) (v : DirContext) : (s.setDirContext p v).reportCounter = s.reportCounter := rfl
@[simp] theorem State.setDirContext_tapCounter (p : Nat) (v : DirContext) : (s.setDirContext p v).tapCounter = s.tapCounter := rfl
@[simp] theorem State.setDirContext_tap (p : Nat) (v : DirContext) : (s.setDirContext p v).tap = s.tap := rfl
@[simp] theorem State.setDirContext_settings (p : Nat) (v : DirContext) : (s.setDirContext p v).settings = s.settings := rfl
@[simp] theorem State.setDirContext_generation (p : Nat) (v : DirContext) : (s.setDirContext p v).generation = s.generation := rfl
@[simp] theorem State.setDirContext_store (p : Nat) (v : DirContext) : (s.setDirContext p v).store = s.store := rfl
@[simp] theorem State.setDirContext_save (p : Nat) (v : DirContext) : (s.setDirContext p v).save = s.save := rfl
@[simp] theorem State.setDirContext_commandQueue (p : Nat) (v : DirContext) : (s.setDirContext p v).commandQueue = s.commandQueue := rfl
@[simp] theorem State.setDirContext_replyInHand (p : Nat) (v : DirContext) : (s.setDirContext p v).replyInHand = s.replyInHand := rfl
@[simp] theorem State.setDirContext_restart (p : Nat) (v : DirContext) : (s.setDirContext p v).restart = s.restart := rfl
@[simp] theorem State.setDirContext_malformedControl (p : Nat) (v : DirContext) : (s.setDirContext p v).malformedControl = s.malformedControl := rfl
@[simp] theorem State.setDirContext_commandOverflow (p : Nat) (v : DirContext) : (s.setDirContext p v).commandOverflow = s.commandOverflow := rfl
@[simp] theorem State.setDirContext_noticeQueue (p : Nat) (v : DirContext) : (s.setDirContext p v).noticeQueue = s.noticeQueue := rfl
@[simp] theorem State.setDirContext_noticeLoss (p : Nat) (v : DirContext) : (s.setDirContext p v).noticeLoss = s.noticeLoss := rfl
@[simp] theorem State.setDirContext_faultSummary (p : Nat) (v : DirContext) : (s.setDirContext p v).faultSummary = s.faultSummary := rfl
@[simp] theorem State.setDirContext_faultRecord (p : Nat) (v : DirContext) : (s.setDirContext p v).faultRecord = s.faultRecord := rfl
@[simp] theorem State.setDirContext_acc_port (p : Nat) (v : DirContext) (j : Nat) : (s.setDirContext p v).port j = s.port j := rfl
@[simp] theorem State.setDirContext_acc_lanePlace (p : Nat) (v : DirContext) (j : Nat) : (s.setDirContext p v).lanePlace j = s.lanePlace j := rfl
@[simp] theorem State.setDirContext_acc_service (p : Nat) (v : DirContext) (j : Nat) : (s.setDirContext p v).service j = s.service j := rfl
@[simp] theorem State.setDirContext_acc_candidate (p : Nat) (v : DirContext) (j : Nat) : (s.setDirContext p v).candidate j = s.candidate j := rfl
@[simp] theorem State.setDirContext_acc_weightSet (p : Nat) (v : DirContext) (j : Nat) : (s.setDirContext p v).weightSet j = s.weightSet j := rfl
@[simp] theorem State.setDirContext_acc_sweepEntry (p : Nat) (v : DirContext) (j : Nat) : (s.setDirContext p v).sweepEntry j = s.sweepEntry j := rfl
@[simp] theorem State.setDirContext_acc_sweepPort (p : Nat) (v : DirContext) (j : Nat) : (s.setDirContext p v).sweepPort j = s.sweepPort j := rfl
@[simp] theorem State.setDirContext_acc_snapshot (p : Nat) (v : DirContext) (j : Nat) : (s.setDirContext p v).snapshot j = s.snapshot j := rfl

/-! ### setSnapshot -/

@[simp] theorem State.setSnapshot_pending (x : Nat) (v : Option Snapshot) : (s.setSnapshot x v).pending = s.pending := rfl
@[simp] theorem State.setSnapshot_inFlight (x : Nat) (v : Option Snapshot) : (s.setSnapshot x v).inFlight = s.inFlight := rfl
@[simp] theorem State.setSnapshot_now (x : Nat) (v : Option Snapshot) : (s.setSnapshot x v).now = s.now := rfl
@[simp] theorem State.setSnapshot_phase (x : Nat) (v : Option Snapshot) : (s.setSnapshot x v).phase = s.phase := rfl
@[simp] theorem State.setSnapshot_commission (x : Nat) (v : Option Snapshot) : (s.setSnapshot x v).commission = s.commission := rfl
@[simp] theorem State.setSnapshot_outputLink (x : Nat) (v : Option Snapshot) : (s.setSnapshot x v).outputLink = s.outputLink := rfl
@[simp] theorem State.setSnapshot_ports (x : Nat) (v : Option Snapshot) : (s.setSnapshot x v).ports = s.ports := rfl
@[simp] theorem State.setSnapshot_laneMap (x : Nat) (v : Option Snapshot) : (s.setSnapshot x v).laneMap = s.laneMap := rfl
@[simp] theorem State.setSnapshot_services (x : Nat) (v : Option Snapshot) : (s.setSnapshot x v).services = s.services := rfl
@[simp] theorem State.setSnapshot_candidates (x : Nat) (v : Option Snapshot) : (s.setSnapshot x v).candidates = s.candidates := rfl
@[simp] theorem State.setSnapshot_changes (x : Nat) (v : Option Snapshot) : (s.setSnapshot x v).changes = s.changes := rfl
@[simp] theorem State.setSnapshot_headHeld (x : Nat) (v : Option Snapshot) : (s.setSnapshot x v).headHeld = s.headHeld := rfl
@[simp] theorem State.setSnapshot_weights (x : Nat) (v : Option Snapshot) : (s.setSnapshot x v).weights = s.weights := rfl
@[simp] theorem State.setSnapshot_intervalNumber (x : Nat) (v : Option Snapshot) : (s.setSnapshot x v).intervalNumber = s.intervalNumber := rfl
@[simp] theorem State.setSnapshot_intervalStart (x : Nat) (v : Option Snapshot) : (s.setSnapshot x v).intervalStart = s.intervalStart := rfl
@[simp] theorem State.setSnapshot_intervalLength (x : Nat) (v : Option Snapshot) : (s.setSnapshot x v).intervalLength = s.intervalLength := rfl
@[simp] theorem State.setSnapshot_gradingTimer (x : Nat) (v : Option Snapshot) : (s.setSnapshot x v).gradingTimer = s.gradingTimer := rfl
@[simp] theorem State.setSnapshot_sweepList (x : Nat) (v : Option Snapshot) : (s.setSnapshot x v).sweepList = s.sweepList := rfl
@[simp] theorem State.setSnapshot_visitQueue (x : Nat) (v : Option Snapshot) : (s.setSnapshot x v).visitQueue = s.visitQueue := rfl
@[simp] theorem State.setSnapshot_sweepPorts (x : Nat) (v : Option Snapshot) : (s.setSnapshot x v).sweepPorts = s.sweepPorts := rfl
@[simp] theorem State.setSnapshot_contexts (x : Nat) (v : Option Snapshot) : (s.setSnapshot x v).contexts = s.contexts := rfl
@[simp] theorem State.setSnapshot_discoveries (x : Nat) (v : Option Snapshot) : (s.setSnapshot x v).discoveries = s.discoveries := rfl
@[simp] theorem State.setSnapshot_discoveryOverflow (x : Nat) (v : Option Snapshot) : (s.setSnapshot x v).discoveryOverflow = s.discoveryOverflow := rfl
@[simp] theorem State.setSnapshot_forwardQueue (x : Nat) (v : Option Snapshot) : (s.setSnapshot x v).forwardQueue = s.forwardQueue := rfl
@[simp] theorem State.setSnapshot_insertQueue (x : Nat) (v : Option Snapshot) : (s.setSnapshot x v).insertQueue = s.insertQueue := rfl
@[simp] theorem State.setSnapshot_reportCounter (x : Nat) (v : Option Snapshot) : (s.setSnapshot x v).reportCounter = s.reportCounter := rfl
@[simp] theorem State.setSnapshot_tapCounter (x : Nat) (v : Option Snapshot) : (s.setSnapshot x v).tapCounter = s.tapCounter := rfl
@[simp] theorem State.setSnapshot_tap (x : Nat) (v : Option Snapshot) : (s.setSnapshot x v).tap = s.tap := rfl
@[simp] theorem State.setSnapshot_settings (x : Nat) (v : Option Snapshot) : (s.setSnapshot x v).settings = s.settings := rfl
@[simp] theorem State.setSnapshot_generation (x : Nat) (v : Option Snapshot) : (s.setSnapshot x v).generation = s.generation := rfl
@[simp] theorem State.setSnapshot_store (x : Nat) (v : Option Snapshot) : (s.setSnapshot x v).store = s.store := rfl
@[simp] theorem State.setSnapshot_save (x : Nat) (v : Option Snapshot) : (s.setSnapshot x v).save = s.save := rfl
@[simp] theorem State.setSnapshot_commandQueue (x : Nat) (v : Option Snapshot) : (s.setSnapshot x v).commandQueue = s.commandQueue := rfl
@[simp] theorem State.setSnapshot_replyInHand (x : Nat) (v : Option Snapshot) : (s.setSnapshot x v).replyInHand = s.replyInHand := rfl
@[simp] theorem State.setSnapshot_restart (x : Nat) (v : Option Snapshot) : (s.setSnapshot x v).restart = s.restart := rfl
@[simp] theorem State.setSnapshot_malformedControl (x : Nat) (v : Option Snapshot) : (s.setSnapshot x v).malformedControl = s.malformedControl := rfl
@[simp] theorem State.setSnapshot_commandOverflow (x : Nat) (v : Option Snapshot) : (s.setSnapshot x v).commandOverflow = s.commandOverflow := rfl
@[simp] theorem State.setSnapshot_noticeQueue (x : Nat) (v : Option Snapshot) : (s.setSnapshot x v).noticeQueue = s.noticeQueue := rfl
@[simp] theorem State.setSnapshot_noticeLoss (x : Nat) (v : Option Snapshot) : (s.setSnapshot x v).noticeLoss = s.noticeLoss := rfl
@[simp] theorem State.setSnapshot_faultSummary (x : Nat) (v : Option Snapshot) : (s.setSnapshot x v).faultSummary = s.faultSummary := rfl
@[simp] theorem State.setSnapshot_faultRecord (x : Nat) (v : Option Snapshot) : (s.setSnapshot x v).faultRecord = s.faultRecord := rfl
@[simp] theorem State.setSnapshot_acc_port (x : Nat) (v : Option Snapshot) (j : Nat) : (s.setSnapshot x v).port j = s.port j := rfl
@[simp] theorem State.setSnapshot_acc_lanePlace (x : Nat) (v : Option Snapshot) (j : Nat) : (s.setSnapshot x v).lanePlace j = s.lanePlace j := rfl
@[simp] theorem State.setSnapshot_acc_service (x : Nat) (v : Option Snapshot) (j : Nat) : (s.setSnapshot x v).service j = s.service j := rfl
@[simp] theorem State.setSnapshot_acc_candidate (x : Nat) (v : Option Snapshot) (j : Nat) : (s.setSnapshot x v).candidate j = s.candidate j := rfl
@[simp] theorem State.setSnapshot_acc_weightSet (x : Nat) (v : Option Snapshot) (j : Nat) : (s.setSnapshot x v).weightSet j = s.weightSet j := rfl
@[simp] theorem State.setSnapshot_acc_sweepEntry (x : Nat) (v : Option Snapshot) (j : Nat) : (s.setSnapshot x v).sweepEntry j = s.sweepEntry j := rfl
@[simp] theorem State.setSnapshot_acc_sweepPort (x : Nat) (v : Option Snapshot) (j : Nat) : (s.setSnapshot x v).sweepPort j = s.sweepPort j := rfl
@[simp] theorem State.setSnapshot_acc_dirContext (x : Nat) (v : Option Snapshot) (j : Nat) : (s.setSnapshot x v).dirContext j = s.dirContext j := rfl

/-! ### send -/

@[simp] theorem State.send_pending (l : List Instr) : (s.send l).pending = s.pending := rfl
@[simp] theorem State.send_now (l : List Instr) : (s.send l).now = s.now := rfl
@[simp] theorem State.send_phase (l : List Instr) : (s.send l).phase = s.phase := rfl
@[simp] theorem State.send_commission (l : List Instr) : (s.send l).commission = s.commission := rfl
@[simp] theorem State.send_outputLink (l : List Instr) : (s.send l).outputLink = s.outputLink := rfl
@[simp] theorem State.send_ports (l : List Instr) : (s.send l).ports = s.ports := rfl
@[simp] theorem State.send_laneMap (l : List Instr) : (s.send l).laneMap = s.laneMap := rfl
@[simp] theorem State.send_services (l : List Instr) : (s.send l).services = s.services := rfl
@[simp] theorem State.send_candidates (l : List Instr) : (s.send l).candidates = s.candidates := rfl
@[simp] theorem State.send_changes (l : List Instr) : (s.send l).changes = s.changes := rfl
@[simp] theorem State.send_headHeld (l : List Instr) : (s.send l).headHeld = s.headHeld := rfl
@[simp] theorem State.send_weights (l : List Instr) : (s.send l).weights = s.weights := rfl
@[simp] theorem State.send_intervalNumber (l : List Instr) : (s.send l).intervalNumber = s.intervalNumber := rfl
@[simp] theorem State.send_intervalStart (l : List Instr) : (s.send l).intervalStart = s.intervalStart := rfl
@[simp] theorem State.send_intervalLength (l : List Instr) : (s.send l).intervalLength = s.intervalLength := rfl
@[simp] theorem State.send_gradingTimer (l : List Instr) : (s.send l).gradingTimer = s.gradingTimer := rfl
@[simp] theorem State.send_sweepList (l : List Instr) : (s.send l).sweepList = s.sweepList := rfl
@[simp] theorem State.send_visitQueue (l : List Instr) : (s.send l).visitQueue = s.visitQueue := rfl
@[simp] theorem State.send_sweepPorts (l : List Instr) : (s.send l).sweepPorts = s.sweepPorts := rfl
@[simp] theorem State.send_contexts (l : List Instr) : (s.send l).contexts = s.contexts := rfl
@[simp] theorem State.send_snapshots (l : List Instr) : (s.send l).snapshots = s.snapshots := rfl
@[simp] theorem State.send_discoveries (l : List Instr) : (s.send l).discoveries = s.discoveries := rfl
@[simp] theorem State.send_discoveryOverflow (l : List Instr) : (s.send l).discoveryOverflow = s.discoveryOverflow := rfl
@[simp] theorem State.send_forwardQueue (l : List Instr) : (s.send l).forwardQueue = s.forwardQueue := rfl
@[simp] theorem State.send_insertQueue (l : List Instr) : (s.send l).insertQueue = s.insertQueue := rfl
@[simp] theorem State.send_reportCounter (l : List Instr) : (s.send l).reportCounter = s.reportCounter := rfl
@[simp] theorem State.send_tapCounter (l : List Instr) : (s.send l).tapCounter = s.tapCounter := rfl
@[simp] theorem State.send_tap (l : List Instr) : (s.send l).tap = s.tap := rfl
@[simp] theorem State.send_settings (l : List Instr) : (s.send l).settings = s.settings := rfl
@[simp] theorem State.send_generation (l : List Instr) : (s.send l).generation = s.generation := rfl
@[simp] theorem State.send_store (l : List Instr) : (s.send l).store = s.store := rfl
@[simp] theorem State.send_save (l : List Instr) : (s.send l).save = s.save := rfl
@[simp] theorem State.send_commandQueue (l : List Instr) : (s.send l).commandQueue = s.commandQueue := rfl
@[simp] theorem State.send_replyInHand (l : List Instr) : (s.send l).replyInHand = s.replyInHand := rfl
@[simp] theorem State.send_restart (l : List Instr) : (s.send l).restart = s.restart := rfl
@[simp] theorem State.send_malformedControl (l : List Instr) : (s.send l).malformedControl = s.malformedControl := rfl
@[simp] theorem State.send_commandOverflow (l : List Instr) : (s.send l).commandOverflow = s.commandOverflow := rfl
@[simp] theorem State.send_noticeQueue (l : List Instr) : (s.send l).noticeQueue = s.noticeQueue := rfl
@[simp] theorem State.send_noticeLoss (l : List Instr) : (s.send l).noticeLoss = s.noticeLoss := rfl
@[simp] theorem State.send_faultSummary (l : List Instr) : (s.send l).faultSummary = s.faultSummary := rfl
@[simp] theorem State.send_faultRecord (l : List Instr) : (s.send l).faultRecord = s.faultRecord := rfl
@[simp] theorem State.send_acc_port (l : List Instr) (j : Nat) : (s.send l).port j = s.port j := rfl
@[simp] theorem State.send_acc_lanePlace (l : List Instr) (j : Nat) : (s.send l).lanePlace j = s.lanePlace j := rfl
@[simp] theorem State.send_acc_service (l : List Instr) (j : Nat) : (s.send l).service j = s.service j := rfl
@[simp] theorem State.send_acc_candidate (l : List Instr) (j : Nat) : (s.send l).candidate j = s.candidate j := rfl
@[simp] theorem State.send_acc_weightSet (l : List Instr) (j : Nat) : (s.send l).weightSet j = s.weightSet j := rfl
@[simp] theorem State.send_acc_sweepEntry (l : List Instr) (j : Nat) : (s.send l).sweepEntry j = s.sweepEntry j := rfl
@[simp] theorem State.send_acc_sweepPort (l : List Instr) (j : Nat) : (s.send l).sweepPort j = s.sweepPort j := rfl
@[simp] theorem State.send_acc_dirContext (l : List Instr) (j : Nat) : (s.send l).dirContext j = s.dirContext j := rfl
@[simp] theorem State.send_acc_snapshot (l : List Instr) (j : Nat) : (s.send l).snapshot j = s.snapshot j := rfl

/-! ### take -/

@[simp] theorem State.take_pending (i : Instr) : (s.take i).pending = s.pending := rfl
@[simp] theorem State.take_now (i : Instr) : (s.take i).now = s.now := rfl
@[simp] theorem State.take_phase (i : Instr) : (s.take i).phase = s.phase := rfl
@[simp] theorem State.take_commission (i : Instr) : (s.take i).commission = s.commission := rfl
@[simp] theorem State.take_outputLink (i : Instr) : (s.take i).outputLink = s.outputLink := rfl
@[simp] theorem State.take_ports (i : Instr) : (s.take i).ports = s.ports := rfl
@[simp] theorem State.take_laneMap (i : Instr) : (s.take i).laneMap = s.laneMap := rfl
@[simp] theorem State.take_services (i : Instr) : (s.take i).services = s.services := rfl
@[simp] theorem State.take_candidates (i : Instr) : (s.take i).candidates = s.candidates := rfl
@[simp] theorem State.take_changes (i : Instr) : (s.take i).changes = s.changes := rfl
@[simp] theorem State.take_headHeld (i : Instr) : (s.take i).headHeld = s.headHeld := rfl
@[simp] theorem State.take_weights (i : Instr) : (s.take i).weights = s.weights := rfl
@[simp] theorem State.take_intervalNumber (i : Instr) : (s.take i).intervalNumber = s.intervalNumber := rfl
@[simp] theorem State.take_intervalStart (i : Instr) : (s.take i).intervalStart = s.intervalStart := rfl
@[simp] theorem State.take_intervalLength (i : Instr) : (s.take i).intervalLength = s.intervalLength := rfl
@[simp] theorem State.take_gradingTimer (i : Instr) : (s.take i).gradingTimer = s.gradingTimer := rfl
@[simp] theorem State.take_sweepList (i : Instr) : (s.take i).sweepList = s.sweepList := rfl
@[simp] theorem State.take_visitQueue (i : Instr) : (s.take i).visitQueue = s.visitQueue := rfl
@[simp] theorem State.take_sweepPorts (i : Instr) : (s.take i).sweepPorts = s.sweepPorts := rfl
@[simp] theorem State.take_contexts (i : Instr) : (s.take i).contexts = s.contexts := rfl
@[simp] theorem State.take_snapshots (i : Instr) : (s.take i).snapshots = s.snapshots := rfl
@[simp] theorem State.take_discoveries (i : Instr) : (s.take i).discoveries = s.discoveries := rfl
@[simp] theorem State.take_discoveryOverflow (i : Instr) : (s.take i).discoveryOverflow = s.discoveryOverflow := rfl
@[simp] theorem State.take_forwardQueue (i : Instr) : (s.take i).forwardQueue = s.forwardQueue := rfl
@[simp] theorem State.take_insertQueue (i : Instr) : (s.take i).insertQueue = s.insertQueue := rfl
@[simp] theorem State.take_reportCounter (i : Instr) : (s.take i).reportCounter = s.reportCounter := rfl
@[simp] theorem State.take_tapCounter (i : Instr) : (s.take i).tapCounter = s.tapCounter := rfl
@[simp] theorem State.take_tap (i : Instr) : (s.take i).tap = s.tap := rfl
@[simp] theorem State.take_settings (i : Instr) : (s.take i).settings = s.settings := rfl
@[simp] theorem State.take_generation (i : Instr) : (s.take i).generation = s.generation := rfl
@[simp] theorem State.take_store (i : Instr) : (s.take i).store = s.store := rfl
@[simp] theorem State.take_save (i : Instr) : (s.take i).save = s.save := rfl
@[simp] theorem State.take_commandQueue (i : Instr) : (s.take i).commandQueue = s.commandQueue := rfl
@[simp] theorem State.take_replyInHand (i : Instr) : (s.take i).replyInHand = s.replyInHand := rfl
@[simp] theorem State.take_restart (i : Instr) : (s.take i).restart = s.restart := rfl
@[simp] theorem State.take_malformedControl (i : Instr) : (s.take i).malformedControl = s.malformedControl := rfl
@[simp] theorem State.take_commandOverflow (i : Instr) : (s.take i).commandOverflow = s.commandOverflow := rfl
@[simp] theorem State.take_noticeQueue (i : Instr) : (s.take i).noticeQueue = s.noticeQueue := rfl
@[simp] theorem State.take_noticeLoss (i : Instr) : (s.take i).noticeLoss = s.noticeLoss := rfl
@[simp] theorem State.take_faultSummary (i : Instr) : (s.take i).faultSummary = s.faultSummary := rfl
@[simp] theorem State.take_faultRecord (i : Instr) : (s.take i).faultRecord = s.faultRecord := rfl
@[simp] theorem State.take_acc_port (i : Instr) (j : Nat) : (s.take i).port j = s.port j := rfl
@[simp] theorem State.take_acc_lanePlace (i : Instr) (j : Nat) : (s.take i).lanePlace j = s.lanePlace j := rfl
@[simp] theorem State.take_acc_service (i : Instr) (j : Nat) : (s.take i).service j = s.service j := rfl
@[simp] theorem State.take_acc_candidate (i : Instr) (j : Nat) : (s.take i).candidate j = s.candidate j := rfl
@[simp] theorem State.take_acc_weightSet (i : Instr) (j : Nat) : (s.take i).weightSet j = s.weightSet j := rfl
@[simp] theorem State.take_acc_sweepEntry (i : Instr) (j : Nat) : (s.take i).sweepEntry j = s.sweepEntry j := rfl
@[simp] theorem State.take_acc_sweepPort (i : Instr) (j : Nat) : (s.take i).sweepPort j = s.sweepPort j := rfl
@[simp] theorem State.take_acc_dirContext (i : Instr) (j : Nat) : (s.take i).dirContext j = s.dirContext j := rfl
@[simp] theorem State.take_acc_snapshot (i : Instr) (j : Nat) : (s.take i).snapshot j = s.snapshot j := rfl

/-! ### post -/

@[simp] theorem State.post_pending (n : Notice) : (s.post n).pending = s.pending := rfl
@[simp] theorem State.post_now (n : Notice) : (s.post n).now = s.now := rfl
@[simp] theorem State.post_phase (n : Notice) : (s.post n).phase = s.phase := rfl
@[simp] theorem State.post_commission (n : Notice) : (s.post n).commission = s.commission := rfl
@[simp] theorem State.post_outputLink (n : Notice) : (s.post n).outputLink = s.outputLink := rfl
@[simp] theorem State.post_ports (n : Notice) : (s.post n).ports = s.ports := rfl
@[simp] theorem State.post_laneMap (n : Notice) : (s.post n).laneMap = s.laneMap := rfl
@[simp] theorem State.post_services (n : Notice) : (s.post n).services = s.services := rfl
@[simp] theorem State.post_candidates (n : Notice) : (s.post n).candidates = s.candidates := rfl
@[simp] theorem State.post_changes (n : Notice) : (s.post n).changes = s.changes := rfl
@[simp] theorem State.post_headHeld (n : Notice) : (s.post n).headHeld = s.headHeld := rfl
@[simp] theorem State.post_weights (n : Notice) : (s.post n).weights = s.weights := rfl
@[simp] theorem State.post_intervalNumber (n : Notice) : (s.post n).intervalNumber = s.intervalNumber := rfl
@[simp] theorem State.post_intervalStart (n : Notice) : (s.post n).intervalStart = s.intervalStart := rfl
@[simp] theorem State.post_intervalLength (n : Notice) : (s.post n).intervalLength = s.intervalLength := rfl
@[simp] theorem State.post_gradingTimer (n : Notice) : (s.post n).gradingTimer = s.gradingTimer := rfl
@[simp] theorem State.post_sweepList (n : Notice) : (s.post n).sweepList = s.sweepList := rfl
@[simp] theorem State.post_visitQueue (n : Notice) : (s.post n).visitQueue = s.visitQueue := rfl
@[simp] theorem State.post_sweepPorts (n : Notice) : (s.post n).sweepPorts = s.sweepPorts := rfl
@[simp] theorem State.post_contexts (n : Notice) : (s.post n).contexts = s.contexts := rfl
@[simp] theorem State.post_snapshots (n : Notice) : (s.post n).snapshots = s.snapshots := rfl
@[simp] theorem State.post_discoveries (n : Notice) : (s.post n).discoveries = s.discoveries := rfl
@[simp] theorem State.post_discoveryOverflow (n : Notice) : (s.post n).discoveryOverflow = s.discoveryOverflow := rfl
@[simp] theorem State.post_forwardQueue (n : Notice) : (s.post n).forwardQueue = s.forwardQueue := rfl
@[simp] theorem State.post_insertQueue (n : Notice) : (s.post n).insertQueue = s.insertQueue := rfl
@[simp] theorem State.post_reportCounter (n : Notice) : (s.post n).reportCounter = s.reportCounter := rfl
@[simp] theorem State.post_tapCounter (n : Notice) : (s.post n).tapCounter = s.tapCounter := rfl
@[simp] theorem State.post_tap (n : Notice) : (s.post n).tap = s.tap := rfl
@[simp] theorem State.post_settings (n : Notice) : (s.post n).settings = s.settings := rfl
@[simp] theorem State.post_generation (n : Notice) : (s.post n).generation = s.generation := rfl
@[simp] theorem State.post_store (n : Notice) : (s.post n).store = s.store := rfl
@[simp] theorem State.post_save (n : Notice) : (s.post n).save = s.save := rfl
@[simp] theorem State.post_commandQueue (n : Notice) : (s.post n).commandQueue = s.commandQueue := rfl
@[simp] theorem State.post_replyInHand (n : Notice) : (s.post n).replyInHand = s.replyInHand := rfl
@[simp] theorem State.post_restart (n : Notice) : (s.post n).restart = s.restart := rfl
@[simp] theorem State.post_malformedControl (n : Notice) : (s.post n).malformedControl = s.malformedControl := rfl
@[simp] theorem State.post_commandOverflow (n : Notice) : (s.post n).commandOverflow = s.commandOverflow := rfl
@[simp] theorem State.post_noticeQueue (n : Notice) : (s.post n).noticeQueue = s.noticeQueue := rfl
@[simp] theorem State.post_noticeLoss (n : Notice) : (s.post n).noticeLoss = s.noticeLoss := rfl
@[simp] theorem State.post_faultSummary (n : Notice) : (s.post n).faultSummary = s.faultSummary := rfl
@[simp] theorem State.post_faultRecord (n : Notice) : (s.post n).faultRecord = s.faultRecord := rfl
@[simp] theorem State.post_acc_port (n : Notice) (j : Nat) : (s.post n).port j = s.port j := rfl
@[simp] theorem State.post_acc_lanePlace (n : Notice) (j : Nat) : (s.post n).lanePlace j = s.lanePlace j := rfl
@[simp] theorem State.post_acc_service (n : Notice) (j : Nat) : (s.post n).service j = s.service j := rfl
@[simp] theorem State.post_acc_candidate (n : Notice) (j : Nat) : (s.post n).candidate j = s.candidate j := rfl
@[simp] theorem State.post_acc_weightSet (n : Notice) (j : Nat) : (s.post n).weightSet j = s.weightSet j := rfl
@[simp] theorem State.post_acc_sweepEntry (n : Notice) (j : Nat) : (s.post n).sweepEntry j = s.sweepEntry j := rfl
@[simp] theorem State.post_acc_sweepPort (n : Notice) (j : Nat) : (s.post n).sweepPort j = s.sweepPort j := rfl
@[simp] theorem State.post_acc_dirContext (n : Notice) (j : Nat) : (s.post n).dirContext j = s.dirContext j := rfl
@[simp] theorem State.post_acc_snapshot (n : Notice) (j : Nat) : (s.post n).snapshot j = s.snapshot j := rfl

/-! ### raise -/

@[simp] theorem State.raise_pending (f : FaultReport) : (s.raise f).pending = s.pending := rfl
@[simp] theorem State.raise_now (f : FaultReport) : (s.raise f).now = s.now := rfl
@[simp] theorem State.raise_phase (f : FaultReport) : (s.raise f).phase = s.phase := rfl
@[simp] theorem State.raise_commission (f : FaultReport) : (s.raise f).commission = s.commission := rfl
@[simp] theorem State.raise_outputLink (f : FaultReport) : (s.raise f).outputLink = s.outputLink := rfl
@[simp] theorem State.raise_ports (f : FaultReport) : (s.raise f).ports = s.ports := rfl
@[simp] theorem State.raise_laneMap (f : FaultReport) : (s.raise f).laneMap = s.laneMap := rfl
@[simp] theorem State.raise_services (f : FaultReport) : (s.raise f).services = s.services := rfl
@[simp] theorem State.raise_candidates (f : FaultReport) : (s.raise f).candidates = s.candidates := rfl
@[simp] theorem State.raise_changes (f : FaultReport) : (s.raise f).changes = s.changes := rfl
@[simp] theorem State.raise_headHeld (f : FaultReport) : (s.raise f).headHeld = s.headHeld := rfl
@[simp] theorem State.raise_weights (f : FaultReport) : (s.raise f).weights = s.weights := rfl
@[simp] theorem State.raise_intervalNumber (f : FaultReport) : (s.raise f).intervalNumber = s.intervalNumber := rfl
@[simp] theorem State.raise_intervalStart (f : FaultReport) : (s.raise f).intervalStart = s.intervalStart := rfl
@[simp] theorem State.raise_intervalLength (f : FaultReport) : (s.raise f).intervalLength = s.intervalLength := rfl
@[simp] theorem State.raise_gradingTimer (f : FaultReport) : (s.raise f).gradingTimer = s.gradingTimer := rfl
@[simp] theorem State.raise_sweepList (f : FaultReport) : (s.raise f).sweepList = s.sweepList := rfl
@[simp] theorem State.raise_visitQueue (f : FaultReport) : (s.raise f).visitQueue = s.visitQueue := rfl
@[simp] theorem State.raise_sweepPorts (f : FaultReport) : (s.raise f).sweepPorts = s.sweepPorts := rfl
@[simp] theorem State.raise_contexts (f : FaultReport) : (s.raise f).contexts = s.contexts := rfl
@[simp] theorem State.raise_snapshots (f : FaultReport) : (s.raise f).snapshots = s.snapshots := rfl
@[simp] theorem State.raise_discoveries (f : FaultReport) : (s.raise f).discoveries = s.discoveries := rfl
@[simp] theorem State.raise_discoveryOverflow (f : FaultReport) : (s.raise f).discoveryOverflow = s.discoveryOverflow := rfl
@[simp] theorem State.raise_forwardQueue (f : FaultReport) : (s.raise f).forwardQueue = s.forwardQueue := rfl
@[simp] theorem State.raise_insertQueue (f : FaultReport) : (s.raise f).insertQueue = s.insertQueue := rfl
@[simp] theorem State.raise_reportCounter (f : FaultReport) : (s.raise f).reportCounter = s.reportCounter := rfl
@[simp] theorem State.raise_tapCounter (f : FaultReport) : (s.raise f).tapCounter = s.tapCounter := rfl
@[simp] theorem State.raise_tap (f : FaultReport) : (s.raise f).tap = s.tap := rfl
@[simp] theorem State.raise_settings (f : FaultReport) : (s.raise f).settings = s.settings := rfl
@[simp] theorem State.raise_generation (f : FaultReport) : (s.raise f).generation = s.generation := rfl
@[simp] theorem State.raise_store (f : FaultReport) : (s.raise f).store = s.store := rfl
@[simp] theorem State.raise_save (f : FaultReport) : (s.raise f).save = s.save := rfl
@[simp] theorem State.raise_commandQueue (f : FaultReport) : (s.raise f).commandQueue = s.commandQueue := rfl
@[simp] theorem State.raise_replyInHand (f : FaultReport) : (s.raise f).replyInHand = s.replyInHand := rfl
@[simp] theorem State.raise_restart (f : FaultReport) : (s.raise f).restart = s.restart := rfl
@[simp] theorem State.raise_malformedControl (f : FaultReport) : (s.raise f).malformedControl = s.malformedControl := rfl
@[simp] theorem State.raise_commandOverflow (f : FaultReport) : (s.raise f).commandOverflow = s.commandOverflow := rfl
@[simp] theorem State.raise_noticeQueue (f : FaultReport) : (s.raise f).noticeQueue = s.noticeQueue := rfl
@[simp] theorem State.raise_noticeLoss (f : FaultReport) : (s.raise f).noticeLoss = s.noticeLoss := rfl
@[simp] theorem State.raise_faultSummary (f : FaultReport) : (s.raise f).faultSummary = s.faultSummary := rfl
@[simp] theorem State.raise_faultRecord (f : FaultReport) : (s.raise f).faultRecord = s.faultRecord := rfl
@[simp] theorem State.raise_acc_port (f : FaultReport) (j : Nat) : (s.raise f).port j = s.port j := rfl
@[simp] theorem State.raise_acc_lanePlace (f : FaultReport) (j : Nat) : (s.raise f).lanePlace j = s.lanePlace j := rfl
@[simp] theorem State.raise_acc_service (f : FaultReport) (j : Nat) : (s.raise f).service j = s.service j := rfl
@[simp] theorem State.raise_acc_candidate (f : FaultReport) (j : Nat) : (s.raise f).candidate j = s.candidate j := rfl
@[simp] theorem State.raise_acc_weightSet (f : FaultReport) (j : Nat) : (s.raise f).weightSet j = s.weightSet j := rfl
@[simp] theorem State.raise_acc_sweepEntry (f : FaultReport) (j : Nat) : (s.raise f).sweepEntry j = s.sweepEntry j := rfl
@[simp] theorem State.raise_acc_sweepPort (f : FaultReport) (j : Nat) : (s.raise f).sweepPort j = s.sweepPort j := rfl
@[simp] theorem State.raise_acc_dirContext (f : FaultReport) (j : Nat) : (s.raise f).dirContext j = s.dirContext j := rfl
@[simp] theorem State.raise_acc_snapshot (f : FaultReport) (j : Nat) : (s.raise f).snapshot j = s.snapshot j := rfl

/-! ### atTime -/

@[simp] theorem State.atTime_pending (t : Nat) : (s.atTime t).pending = s.pending := rfl
@[simp] theorem State.atTime_inFlight (t : Nat) : (s.atTime t).inFlight = s.inFlight := rfl
@[simp] theorem State.atTime_phase (t : Nat) : (s.atTime t).phase = s.phase := rfl
@[simp] theorem State.atTime_commission (t : Nat) : (s.atTime t).commission = s.commission := rfl
@[simp] theorem State.atTime_outputLink (t : Nat) : (s.atTime t).outputLink = s.outputLink := rfl
@[simp] theorem State.atTime_ports (t : Nat) : (s.atTime t).ports = s.ports := rfl
@[simp] theorem State.atTime_laneMap (t : Nat) : (s.atTime t).laneMap = s.laneMap := rfl
@[simp] theorem State.atTime_services (t : Nat) : (s.atTime t).services = s.services := rfl
@[simp] theorem State.atTime_candidates (t : Nat) : (s.atTime t).candidates = s.candidates := rfl
@[simp] theorem State.atTime_changes (t : Nat) : (s.atTime t).changes = s.changes := rfl
@[simp] theorem State.atTime_headHeld (t : Nat) : (s.atTime t).headHeld = s.headHeld := rfl
@[simp] theorem State.atTime_weights (t : Nat) : (s.atTime t).weights = s.weights := rfl
@[simp] theorem State.atTime_intervalNumber (t : Nat) : (s.atTime t).intervalNumber = s.intervalNumber := rfl
@[simp] theorem State.atTime_intervalStart (t : Nat) : (s.atTime t).intervalStart = s.intervalStart := rfl
@[simp] theorem State.atTime_intervalLength (t : Nat) : (s.atTime t).intervalLength = s.intervalLength := rfl
@[simp] theorem State.atTime_gradingTimer (t : Nat) : (s.atTime t).gradingTimer = s.gradingTimer := rfl
@[simp] theorem State.atTime_sweepList (t : Nat) : (s.atTime t).sweepList = s.sweepList := rfl
@[simp] theorem State.atTime_visitQueue (t : Nat) : (s.atTime t).visitQueue = s.visitQueue := rfl
@[simp] theorem State.atTime_sweepPorts (t : Nat) : (s.atTime t).sweepPorts = s.sweepPorts := rfl
@[simp] theorem State.atTime_contexts (t : Nat) : (s.atTime t).contexts = s.contexts := rfl
@[simp] theorem State.atTime_snapshots (t : Nat) : (s.atTime t).snapshots = s.snapshots := rfl
@[simp] theorem State.atTime_discoveries (t : Nat) : (s.atTime t).discoveries = s.discoveries := rfl
@[simp] theorem State.atTime_discoveryOverflow (t : Nat) : (s.atTime t).discoveryOverflow = s.discoveryOverflow := rfl
@[simp] theorem State.atTime_forwardQueue (t : Nat) : (s.atTime t).forwardQueue = s.forwardQueue := rfl
@[simp] theorem State.atTime_insertQueue (t : Nat) : (s.atTime t).insertQueue = s.insertQueue := rfl
@[simp] theorem State.atTime_reportCounter (t : Nat) : (s.atTime t).reportCounter = s.reportCounter := rfl
@[simp] theorem State.atTime_tapCounter (t : Nat) : (s.atTime t).tapCounter = s.tapCounter := rfl
@[simp] theorem State.atTime_tap (t : Nat) : (s.atTime t).tap = s.tap := rfl
@[simp] theorem State.atTime_settings (t : Nat) : (s.atTime t).settings = s.settings := rfl
@[simp] theorem State.atTime_generation (t : Nat) : (s.atTime t).generation = s.generation := rfl
@[simp] theorem State.atTime_store (t : Nat) : (s.atTime t).store = s.store := rfl
@[simp] theorem State.atTime_save (t : Nat) : (s.atTime t).save = s.save := rfl
@[simp] theorem State.atTime_commandQueue (t : Nat) : (s.atTime t).commandQueue = s.commandQueue := rfl
@[simp] theorem State.atTime_replyInHand (t : Nat) : (s.atTime t).replyInHand = s.replyInHand := rfl
@[simp] theorem State.atTime_restart (t : Nat) : (s.atTime t).restart = s.restart := rfl
@[simp] theorem State.atTime_malformedControl (t : Nat) : (s.atTime t).malformedControl = s.malformedControl := rfl
@[simp] theorem State.atTime_commandOverflow (t : Nat) : (s.atTime t).commandOverflow = s.commandOverflow := rfl
@[simp] theorem State.atTime_noticeQueue (t : Nat) : (s.atTime t).noticeQueue = s.noticeQueue := rfl
@[simp] theorem State.atTime_noticeLoss (t : Nat) : (s.atTime t).noticeLoss = s.noticeLoss := rfl
@[simp] theorem State.atTime_faultSummary (t : Nat) : (s.atTime t).faultSummary = s.faultSummary := rfl
@[simp] theorem State.atTime_faultRecord (t : Nat) : (s.atTime t).faultRecord = s.faultRecord := rfl
@[simp] theorem State.atTime_acc_port (t : Nat) (j : Nat) : (s.atTime t).port j = s.port j := rfl
@[simp] theorem State.atTime_acc_lanePlace (t : Nat) (j : Nat) : (s.atTime t).lanePlace j = s.lanePlace j := rfl
@[simp] theorem State.atTime_acc_service (t : Nat) (j : Nat) : (s.atTime t).service j = s.service j := rfl
@[simp] theorem State.atTime_acc_candidate (t : Nat) (j : Nat) : (s.atTime t).candidate j = s.candidate j := rfl
@[simp] theorem State.atTime_acc_weightSet (t : Nat) (j : Nat) : (s.atTime t).weightSet j = s.weightSet j := rfl
@[simp] theorem State.atTime_acc_sweepEntry (t : Nat) (j : Nat) : (s.atTime t).sweepEntry j = s.sweepEntry j := rfl
@[simp] theorem State.atTime_acc_sweepPort (t : Nat) (j : Nat) : (s.atTime t).sweepPort j = s.sweepPort j := rfl
@[simp] theorem State.atTime_acc_dirContext (t : Nat) (j : Nat) : (s.atTime t).dirContext j = s.dirContext j := rfl
@[simp] theorem State.atTime_acc_snapshot (t : Nat) (j : Nat) : (s.atTime t).snapshot j = s.snapshot j := rfl

/-! ### What each update writes -/

theorem State.setPort_ports (p : Nat) (v : Port) : (s.setPort p v).ports = Table.set Port.default s.ports p v := rfl
theorem State.setLanePlace_laneMap (i : Nat) (v : Option LaneEntry) : (s.setLanePlace i v).laneMap = Table.set (fun _ => none) s.laneMap i v := rfl
theorem State.setService_services (k : Nat) (v : Service) : (s.setService k v).services = Table.set Service.default s.services k v := rfl
theorem State.setCandidate_candidates (c : Nat) (v : Candidate) : (s.setCandidate c v).candidates = Table.set Candidate.default s.candidates c v := rfl
theorem State.setWeightSet_weights (w : Nat) (v : WeightSet) : (s.setWeightSet w v).weights = Table.set WeightSet.default s.weights w v := rfl
theorem State.setSweepEntry_sweepList (e : Nat) (v : SweepEntry) : (s.setSweepEntry e v).sweepList = Table.set SweepEntry.default s.sweepList e v := rfl
theorem State.setSweepPort_sweepPorts (p : Nat) (v : SweepPort) : (s.setSweepPort p v).sweepPorts = Table.set SweepPort.default s.sweepPorts p v := rfl
theorem State.setDirContext_contexts (p : Nat) (v : DirContext) : (s.setDirContext p v).contexts = Table.set DirContext.default s.contexts p v := rfl
theorem State.setSnapshot_snapshots (x : Nat) (v : Option Snapshot) : (s.setSnapshot x v).snapshots = Table.set (fun _ => none) s.snapshots x v := rfl

theorem State.send_inFlight (l : List Instr) : (s.send l).inFlight = s.inFlight ++ l := rfl
theorem State.take_inFlight (i : Instr) : (s.take i).inFlight = s.inFlight.erase i := rfl
theorem State.post_inFlight (n : Notice) : (s.post n).inFlight = s.inFlight ++ [.noticePost n s.clock] := rfl
theorem State.raise_inFlight (f : FaultReport) : (s.raise f).inFlight = s.inFlight ++ [.faultRecord f] := rfl
@[simp] theorem State.atTime_now (t : Nat) : (s.atTime t).now = max s.now t := rfl

end Sys2Proof.Machine
end

