-- ==== Sys2Proof/Laws/Table.lean ====
section
/-! SUPPORT. The laws of the tables: what an entry reads after an update, and the canonical form kept. -/

namespace Sys2Proof.Machine.Table

variable {α β : Type}

theorem get_cons (d : Nat → α) (j : Nat) (v : α) (t : Table α) (k : Nat) :
    get d ((j, v) :: t) k = if j = k then v else get d t k := rfl

theorem get_erase_same (d : Nat → α) (t : Table α) (k : Nat) : get d (erase t k) k = d k := by
  induction t with
  | nil => rfl
  | cons e t ih =>
    by_cases h : e.1 = k
    · simp only [erase, List.filter_cons] at ih ⊢; simp [h, ih]
    · simp only [erase, List.filter_cons] at ih ⊢; simp [h, ih, get]

theorem get_erase_other (d : Nat → α) (t : Table α) {k j : Nat} (h : j ≠ k) : get d (erase t k) j = get d t j := by
  induction t with
  | nil => rfl
  | cons e t ih =>
    by_cases hk : e.1 = k
    · have : e.1 ≠ j := fun hj => h (hj ▸ hk)
      simp only [erase, List.filter_cons] at ih ⊢; simp [hk, ih, get]
      intro h'; exact absurd h'.symm h
    · simp only [erase, List.filter_cons] at ih ⊢; simp [hk, ih, get]

theorem get_insert_same (d : Nat → α) (t : Table α) (k : Nat) (v : α) (h : k ∉ t.map Prod.fst) :
    get d (insert k v t) k = v := by
  induction t with
  | nil => simp [insert, get]
  | cons e t ih =>
    obtain ⟨j, w⟩ := e
    simp only [List.map_cons, List.mem_cons, not_or] at h
    by_cases hj : j < k
    · simp [insert, hj, get, Ne.symm h.1, ih h.2]
    · simp [insert, hj, get]

theorem get_insert_other (d : Nat → α) (t : Table α) {k j : Nat} (v : α) (h : j ≠ k) :
    get d (insert k v t) j = get d t j := by
  induction t with
  | nil => simp [insert, get, Ne.symm h]
  | cons e t ih =>
    obtain ⟨i, w⟩ := e
    by_cases hj : i < k
    · simp [insert, hj, get, ih]
    · simp [insert, hj, get, Ne.symm h]

theorem key_not_mem_erase (t : Table α) (k : Nat) : k ∉ (erase t k).map Prod.fst := by
  simp [erase]

theorem get_set_same [DecidableEq α] (d : Nat → α) (t : Table α) (k : Nat) (v : α) : get d (set d t k v) k = v := by
  unfold set
  split
  · rw [get_erase_same]; exact (‹v = d k›).symm
  · exact get_insert_same d _ k v (key_not_mem_erase t k)

theorem get_set_other [DecidableEq α] (d : Nat → α) (t : Table α) {k j : Nat} (v : α) (h : j ≠ k) :
    get d (set d t k v) j = get d t j := by
  unfold set
  split
  · exact get_erase_other d t h
  · rw [get_insert_other d _ v h, get_erase_other d t h]

theorem get_set [DecidableEq α] (d : Nat → α) (t : Table α) (k j : Nat) (v : α) :
    get d (set d t k v) j = if j = k then v else get d t j := by
  by_cases h : j = k
  · subst h; simp [get_set_same]
  · simp [h, get_set_other]

/-- An erased entry may be put back and erased again. -/
theorem erase_insert (t : Table α) (k : Nat) (v : α) : erase (insert k v t) k = erase t k := by
  induction t with
  | nil => simp [insert, erase]
  | cons e t ih =>
    obtain ⟨j, w⟩ := e
    by_cases h : j < k
    · simp only [insert, h, if_true, erase, List.filter_cons] at ih ⊢
      rw [ih]
    · simp [insert, h, erase]

/-- The later of two updates of one entry stands. -/
theorem set_set [DecidableEq α] (d : Nat → α) (t : Table α) (k : Nat) (v w : α) :
    set d (set d t k v) k w = set d t k w := by
  have h : erase (set d t k v) k = erase t k := by
    unfold set
    split
    · simp [erase]
    · rw [erase_insert]; simp [erase]
  unfold set at h ⊢
  rw [h]

/-! ### The canonical form -/

theorem wf_nil [DecidableEq α] (d : Nat → α) : wf d [] := by simp [wf]

theorem wf_filter [DecidableEq α] (d : Nat → α) (t : Table α) (p : Nat × α → Bool) (h : wf d t) :
    wf d (t.filter p) := by
  refine ⟨?_, fun e he => h.2 e (List.mem_of_mem_filter he)⟩
  exact h.1.sublist (List.filter_sublist.map _)

theorem wf_erase [DecidableEq α] (d : Nat → α) (t : Table α) (k : Nat) (h : wf d t) : wf d (erase t k) :=
  wf_filter d t _ h

theorem mem_insert {k : Nat} {v : α} {t : Table α} {e : Nat × α} (h : e ∈ insert k v t) : e = (k, v) ∨ e ∈ t := by
  induction t with
  | nil => simpa [insert] using h
  | cons a t ih =>
    obtain ⟨j, w⟩ := a
    unfold insert at h
    split at h
    · rcases List.mem_cons.1 h with h | h
      · exact Or.inr (by simp [h])
      · rcases ih h with h | h
        · exact Or.inl h
        · exact Or.inr (List.mem_cons_of_mem _ h)
    · rcases List.mem_cons.1 h with h | h
      · exact Or.inl h
      · exact Or.inr h

theorem wf_insert [DecidableEq α] (d : Nat → α) (t : Table α) (k : Nat) (v : α) (h : wf d t)
    (hk : k ∉ t.map Prod.fst) (hv : v ≠ d k) : wf d (insert k v t) := by
  refine ⟨?_, fun e he => ?_⟩
  · obtain ⟨hs, h2⟩ := h
    clear h2
    induction t with
    | nil => simp [insert]
    | cons a t ih =>
      obtain ⟨j, w⟩ := a
      simp only [List.map_cons, List.mem_cons, not_or] at hk
      simp only [List.map_cons, List.pairwise_cons] at hs
      unfold insert
      split
      · rename_i hjk
        simp only [List.map_cons, List.pairwise_cons]
        refine ⟨fun x hx => ?_, ih hk.2 hs.2⟩
        obtain ⟨e, he, rfl⟩ := List.mem_map.1 hx
        rcases mem_insert he with he | he
        · subst he; exact hjk
        · exact hs.1 _ (List.mem_map_of_mem he)
      · rename_i hjk
        have hlt : k < j := by omega
        simp only [List.map_cons, List.pairwise_cons]
        refine ⟨fun x hx => ?_, hs⟩
        rcases List.mem_cons.1 hx with hx | hx
        · omega
        · exact lt_trans hlt (hs.1 x hx)
  · rcases mem_insert he with he | he
    · subst he; exact hv
    · exact h.2 e he

theorem wf_set [DecidableEq α] (d : Nat → α) (t : Table α) (k : Nat) (v : α) (h : wf d t) : wf d (set d t k v) := by
  unfold set
  split
  · exact wf_erase d t k h
  · exact wf_insert d _ k v (wf_erase d t k h) (key_not_mem_erase t k) ‹_›

theorem wf_remap [DecidableEq β] (d : Nat → β) (f : Nat → α → β) (t : Table α)
    (h : (t.map Prod.fst).Pairwise (· < ·)) : wf d (remap d f t) := by
  induction t with
  | nil => simp [remap, wf]
  | cons a t ih =>
    simp only [List.map_cons, List.pairwise_cons] at h
    have keys : ∀ x ∈ (remap d f t).map Prod.fst, x ∈ t.map Prod.fst := by
      intro x hx
      simp only [remap, List.mem_map, List.mem_filterMap] at hx
      obtain ⟨e, ⟨b, hb, hbe⟩, rfl⟩ := hx
      split at hbe
      · cases hbe
      · cases hbe; exact List.mem_map_of_mem hb
    have ih := ih h.2
    by_cases hd : f a.1 a.2 = d a.1
    · simpa [remap, hd] using ih
    · have : remap d f (a :: t) = (a.1, f a.1 a.2) :: remap d f t := by simp [remap, hd]
      rw [this]
      refine ⟨?_, fun e he => ?_⟩
      · simp only [List.map_cons, List.pairwise_cons]
        exact ⟨fun x hx => h.1 x (keys x hx), ih.1⟩
      · rcases List.mem_cons.1 he with he | he
        · subst he; exact hd
        · exact ih.2 e he

/-- An index below every listed one reads its default. -/
theorem get_of_below (d : Nat → α) (t : Table α) (k : Nat) (h : ∀ x ∈ t.map Prod.fst, k < x) : get d t k = d k := by
  induction t with
  | nil => rfl
  | cons a t ih =>
    obtain ⟨j, v⟩ := a
    have hj : j ≠ k := by have := h j (by simp); omega
    simp only [get, if_neg hj]
    exact ih fun x hx => h x (by simp only [List.map_cons]; exact List.mem_cons_of_mem _ hx)

/-- An entry of a remapped table, for a map that takes the old default to the new one. -/
theorem get_remap [DecidableEq β] (d : Nat → α) (d' : Nat → β) (f : Nat → α → β) (t : Table α)
    (h : (t.map Prod.fst).Pairwise (· < ·)) (k : Nat) (hd : f k (d k) = d' k) :
    get d' (remap d' f t) k = f k (get d t k) := by
  induction t with
  | nil => simp [remap, get, hd]
  | cons a t ih =>
    obtain ⟨j, v⟩ := a
    simp only [List.map_cons, List.pairwise_cons] at h
    have ih := ih h.2
    have out : j = k → get d' (remap d' f t) k = d' k := by
      intro hj
      rw [ih, get_of_below d t k (fun x hx => hj ▸ h.1 x hx), hd]
    by_cases hj : j = k
    · subst hj
      by_cases hv : f j v = d' j
      · have : remap d' f ((j, v) :: t) = remap d' f t := by simp [remap, hv]
        rw [this, out rfl]; simp [get, hv]
      · have : remap d' f ((j, v) :: t) = (j, f j v) :: remap d' f t := by simp [remap, hv]
        rw [this]; simp [get]
    · by_cases hv : f j v = d' j
      · have : remap d' f ((j, v) :: t) = remap d' f t := by simp [remap, hv]
        rw [this, ih]; simp [get, hj]
      · have : remap d' f ((j, v) :: t) = (j, f j v) :: remap d' f t := by simp [remap, hv]
        rw [this]; simp [get, hj, ih]

end Sys2Proof.Machine.Table
end

