-- ==== Sys2Proof/Laws/Ops.lean ====
section
/-! SUPPORT. What the shared operations of Machine/Ops.lean do: records read back, the shape of a step, and the
judgements that an update of another field leaves alone. -/

namespace Sys2Proof.Machine

/-! ### Records read back -/

theorem State.port_setPort (s : State) (i j : Nat) (v : Port) : (s.setPort i v).port j = if j = i then v else s.port j :=
  Table.get_set _ _ _ _ _

@[simp] theorem State.port_setPort_same (s : State) (i : Nat) (v : Port) : (s.setPort i v).port i = v :=
  Table.get_set_same _ _ _ _

@[simp] theorem State.port_setPort_other (s : State) (i j : Nat) (v : Port) (h : j ≠ i) : (s.setPort i v).port j = s.port j :=
  Table.get_set_other _ _ _ h

theorem State.lanePlace_setLanePlace (s : State) (i j : Nat) (v : Option LaneEntry) : (s.setLanePlace i v).lanePlace j = if j = i then v else s.lanePlace j :=
  Table.get_set _ _ _ _ _

@[simp] theorem State.lanePlace_setLanePlace_same (s : State) (i : Nat) (v : Option LaneEntry) : (s.setLanePlace i v).lanePlace i = v :=
  Table.get_set_same _ _ _ _

@[simp] theorem State.lanePlace_setLanePlace_other (s : State) (i j : Nat) (v : Option LaneEntry) (h : j ≠ i) : (s.setLanePlace i v).lanePlace j = s.lanePlace j :=
  Table.get_set_other _ _ _ h

theorem State.service_setService (s : State) (i j : Nat) (v : Service) : (s.setService i v).service j = if j = i then v else s.service j :=
  Table.get_set _ _ _ _ _

@[simp] theorem State.service_setService_same (s : State) (i : Nat) (v : Service) : (s.setService i v).service i = v :=
  Table.get_set_same _ _ _ _

@[simp] theorem State.service_setService_other (s : State) (i j : Nat) (v : Service) (h : j ≠ i) : (s.setService i v).service j = s.service j :=
  Table.get_set_other _ _ _ h

theorem State.candidate_setCandidate (s : State) (i j : Nat) (v : Candidate) : (s.setCandidate i v).candidate j = if j = i then v else s.candidate j :=
  Table.get_set _ _ _ _ _

@[simp] theorem State.candidate_setCandidate_same (s : State) (i : Nat) (v : Candidate) : (s.setCandidate i v).candidate i = v :=
  Table.get_set_same _ _ _ _

@[simp] theorem State.candidate_setCandidate_other (s : State) (i j : Nat) (v : Candidate) (h : j ≠ i) : (s.setCandidate i v).candidate j = s.candidate j :=
  Table.get_set_other _ _ _ h

theorem State.weightSet_setWeightSet (s : State) (i j : Nat) (v : WeightSet) : (s.setWeightSet i v).weightSet j = if j = i then v else s.weightSet j :=
  Table.get_set _ _ _ _ _

@[simp] theorem State.weightSet_setWeightSet_same (s : State) (i : Nat) (v : WeightSet) : (s.setWeightSet i v).weightSet i = v :=
  Table.get_set_same _ _ _ _

@[simp] theorem State.weightSet_setWeightSet_other (s : State) (i j : Nat) (v : WeightSet) (h : j ≠ i) : (s.setWeightSet i v).weightSet j = s.weightSet j :=
  Table.get_set_other _ _ _ h

theorem State.sweepEntry_setSweepEntry (s : State) (i j : Nat) (v : SweepEntry) : (s.setSweepEntry i v).sweepEntry j = if j = i then v else s.sweepEntry j :=
  Table.get_set _ _ _ _ _

@[simp] theorem State.sweepEntry_setSweepEntry_same (s : State) (i : Nat) (v : SweepEntry) : (s.setSweepEntry i v).sweepEntry i = v :=
  Table.get_set_same _ _ _ _

@[simp] theorem State.sweepEntry_setSweepEntry_other (s : State) (i j : Nat) (v : SweepEntry) (h : j ≠ i) : (s.setSweepEntry i v).sweepEntry j = s.sweepEntry j :=
  Table.get_set_other _ _ _ h

theorem State.sweepPort_setSweepPort (s : State) (i j : Nat) (v : SweepPort) : (s.setSweepPort i v).sweepPort j = if j = i then v else s.sweepPort j :=
  Table.get_set _ _ _ _ _

@[simp] theorem State.sweepPort_setSweepPort_same (s : State) (i : Nat) (v : SweepPort) : (s.setSweepPort i v).sweepPort i = v :=
  Table.get_set_same _ _ _ _

@[simp] theorem State.sweepPort_setSweepPort_other (s : State) (i j : Nat) (v : SweepPort) (h : j ≠ i) : (s.setSweepPort i v).sweepPort j = s.sweepPort j :=
  Table.get_set_other _ _ _ h

theorem State.dirContext_setDirContext (s : State) (i j : Nat) (v : DirContext) : (s.setDirContext i v).dirContext j = if j = i then v else s.dirContext j :=
  Table.get_set _ _ _ _ _

@[simp] theorem State.dirContext_setDirContext_same (s : State) (i : Nat) (v : DirContext) : (s.setDirContext i v).dirContext i = v :=
  Table.get_set_same _ _ _ _

@[simp] theorem State.dirContext_setDirContext_other (s : State) (i j : Nat) (v : DirContext) (h : j ≠ i) : (s.setDirContext i v).dirContext j = s.dirContext j :=
  Table.get_set_other _ _ _ h

theorem State.snapshot_setSnapshot (s : State) (i j : Nat) (v : Option Snapshot) : (s.setSnapshot i v).snapshot j = if j = i then v else s.snapshot j :=
  Table.get_set _ _ _ _ _

@[simp] theorem State.snapshot_setSnapshot_same (s : State) (i : Nat) (v : Option Snapshot) : (s.setSnapshot i v).snapshot i = v :=
  Table.get_set_same _ _ _ _

@[simp] theorem State.snapshot_setSnapshot_other (s : State) (i j : Nat) (v : Option Snapshot) (h : j ≠ i) : (s.setSnapshot i v).snapshot j = s.snapshot j :=
  Table.get_set_other _ _ _ h

/-! ### Updates of one entry twice -/

@[simp] theorem State.setPort_setPort (s : State) (i : Nat) (v w : Port) : (s.setPort i v).setPort i w = s.setPort i w := by
  unfold State.setPort; simp only [Table.set_set]

@[simp] theorem State.setLanePlace_setLanePlace (s : State) (i : Nat) (v w : Option LaneEntry) : (s.setLanePlace i v).setLanePlace i w = s.setLanePlace i w := by
  unfold State.setLanePlace; simp only [Table.set_set]

@[simp] theorem State.setService_setService (s : State) (i : Nat) (v w : Service) : (s.setService i v).setService i w = s.setService i w := by
  unfold State.setService; simp only [Table.set_set]

@[simp] theorem State.setCandidate_setCandidate (s : State) (i : Nat) (v w : Candidate) : (s.setCandidate i v).setCandidate i w = s.setCandidate i w := by
  unfold State.setCandidate; simp only [Table.set_set]

@[simp] theorem State.setWeightSet_setWeightSet (s : State) (i : Nat) (v w : WeightSet) : (s.setWeightSet i v).setWeightSet i w = s.setWeightSet i w := by
  unfold State.setWeightSet; simp only [Table.set_set]

@[simp] theorem State.setSweepEntry_setSweepEntry (s : State) (i : Nat) (v w : SweepEntry) : (s.setSweepEntry i v).setSweepEntry i w = s.setSweepEntry i w := by
  unfold State.setSweepEntry; simp only [Table.set_set]

@[simp] theorem State.setSweepPort_setSweepPort (s : State) (i : Nat) (v w : SweepPort) : (s.setSweepPort i v).setSweepPort i w = s.setSweepPort i w := by
  unfold State.setSweepPort; simp only [Table.set_set]

@[simp] theorem State.setDirContext_setDirContext (s : State) (i : Nat) (v w : DirContext) : (s.setDirContext i v).setDirContext i w = s.setDirContext i w := by
  unfold State.setDirContext; simp only [Table.set_set]

@[simp] theorem State.setSnapshot_setSnapshot (s : State) (i : Nat) (v w : Option Snapshot) : (s.setSnapshot i v).setSnapshot i w = s.setSnapshot i w := by
  unfold State.setSnapshot; simp only [Table.set_set]

/-! ### The shape of a step -/

theorem whenRunning_next {s : State} (h : s.phase = .running) (f : State → State) : whenRunning s f = .next (f s) := by
  simp [whenRunning, h]

theorem whenRunning_stopped {s : State} (h : s.phase ≠ .running) (f : State → State) : whenRunning s f = .next s := by
  simp [whenRunning, h]

theorem onPort_of_lt {p : Nat} (h : p < 15) (a : Answer) : onPort p a = a := if_pos h
theorem onSweepPort_of {p : Nat} (h : p = 12 ∨ p = 13) (a : Answer) : onSweepPort p a = a := if_pos h
theorem onService_of_lt {k : Nat} (h : k < 512) (a : Answer) : onService k a = a := if_pos h
theorem onCandidate_of_lt {c : Nat} (h : c < 2048) (a : Answer) : onCandidate c a = a := if_pos h
theorem onEntry_of_lt {e : Nat} (h : e < 64) (a : Answer) : onEntry e a = a := if_pos h
theorem onSlot_of_lt {k : Nat} (h : k < 8) (a : Answer) : onSlot k a = a := if_pos h
theorem onPacket_of_length {p : Packet} (h : p.length = 188) (a : Answer) : onPacket p a = a := if_pos h

/-- What a step of the running part leaves: its function's result, or the state when the part is not running. -/
theorem of_whenRunning_next {s t : State} {f : State → State} (h : whenRunning s f = .next t) :
    (s.phase = .running ∧ t = f s) ∨ (s.phase ≠ .running ∧ t = s) := by
  unfold whenRunning at h
  split at h
  · exact Or.inl ⟨‹_›, by cases h; rfl⟩
  · exact Or.inr ⟨‹_›, by cases h; rfl⟩

theorem of_onPort_next {p : Nat} {a : Answer} {t : State} (h : onPort p a = .next t) : p < 15 ∧ a = .next t := by
  unfold onPort at h; split at h <;> simp_all
theorem of_onSweepPort_next {p : Nat} {a : Answer} {t : State} (h : onSweepPort p a = .next t) :
    (p = 12 ∨ p = 13) ∧ a = .next t := by
  unfold onSweepPort at h; split at h
  · exact ⟨‹_›, h⟩
  · cases h
theorem of_onService_next {k : Nat} {a : Answer} {t : State} (h : onService k a = .next t) : k < 512 ∧ a = .next t := by
  unfold onService at h; split at h <;> simp_all
theorem of_onCandidate_next {c : Nat} {a : Answer} {t : State} (h : onCandidate c a = .next t) : c < 2048 ∧ a = .next t := by
  unfold onCandidate at h; split at h <;> simp_all
theorem of_onEntry_next {e : Nat} {a : Answer} {t : State} (h : onEntry e a = .next t) : e < 64 ∧ a = .next t := by
  unfold onEntry at h; split at h <;> simp_all
theorem of_onSlot_next {k : Nat} {a : Answer} {t : State} (h : onSlot k a = .next t) : k < 8 ∧ a = .next t := by
  unfold onSlot at h; split at h <;> simp_all
theorem of_onPacket_next {p : Packet} {a : Answer} {t : State} (h : onPacket p a = .next t) : p.length = 188 ∧ a = .next t := by
  unfold onPacket at h; split at h <;> simp_all

/-! ### The clock and the judgements under updates of other fields -/

@[simp] theorem State.clock_send (s : State) (l : List Instr) : (s.send l).clock = s.clock := rfl
@[simp] theorem State.inOutage_send (s : State) (l : List Instr) (c : Nat) : (s.send l).inOutage c = s.inOutage c := rfl
@[simp] theorem State.isReady_send (s : State) (l : List Instr) (c : Nat) : (s.send l).isReady c = s.isReady c := rfl
@[simp] theorem State.minimumGrade_send (s : State) (l : List Instr) (c : Nat) : (s.send l).minimumGrade c = s.minimumGrade c := rfl
@[simp] theorem State.gradeOf_send (s : State) (l : List Instr) (c : Nat) : (s.send l).gradeOf c = s.gradeOf c := rfl
@[simp] theorem State.gradePasses_send (s : State) (l : List Instr) (c : Nat) : (s.send l).gradePasses c = s.gradePasses c := rfl
@[simp] theorem State.eligible_send (s : State) (l : List Instr) (c : Nat) : (s.send l).eligible c = s.eligible c := rfl
@[simp] theorem State.sourceOfPort_send (s : State) (l : List Instr) (c : Nat) : (s.send l).sourceOfPort c = s.sourceOfPort c := rfl
@[simp] theorem State.visiting_send (s : State) (l : List Instr) (c : Nat) : (s.send l).visiting c = s.visiting c := rfl
@[simp] theorem State.underVisit_send (s : State) (l : List Instr) (c : Nat) : (s.send l).underVisit c = s.underVisit c := rfl
@[simp] theorem State.pinFit_send (s : State) (l : List Instr) (k c : Nat) : (s.send l).pinFit k c = s.pinFit k c := rfl
@[simp] theorem State.firstEligible_send (s : State) (l : List Instr) (a b : List Nat) : (s.send l).firstEligible a b = s.firstEligible a b := rfl
@[simp] theorem State.clock_take (s : State) (i : Instr) : (s.take i).clock = s.clock := rfl
@[simp] theorem State.inOutage_take (s : State) (i : Instr) (c : Nat) : (s.take i).inOutage c = s.inOutage c := rfl
@[simp] theorem State.isReady_take (s : State) (i : Instr) (c : Nat) : (s.take i).isReady c = s.isReady c := rfl
@[simp] theorem State.minimumGrade_take (s : State) (i : Instr) (c : Nat) : (s.take i).minimumGrade c = s.minimumGrade c := rfl
@[simp] theorem State.gradeOf_take (s : State) (i : Instr) (c : Nat) : (s.take i).gradeOf c = s.gradeOf c := rfl
@[simp] theorem State.gradePasses_take (s : State) (i : Instr) (c : Nat) : (s.take i).gradePasses c = s.gradePasses c := rfl
@[simp] theorem State.eligible_take (s : State) (i : Instr) (c : Nat) : (s.take i).eligible c = s.eligible c := rfl
@[simp] theorem State.sourceOfPort_take (s : State) (i : Instr) (c : Nat) : (s.take i).sourceOfPort c = s.sourceOfPort c := rfl
@[simp] theorem State.visiting_take (s : State) (i : Instr) (c : Nat) : (s.take i).visiting c = s.visiting c := rfl
@[simp] theorem State.underVisit_take (s : State) (i : Instr) (c : Nat) : (s.take i).underVisit c = s.underVisit c := rfl
@[simp] theorem State.pinFit_take (s : State) (i : Instr) (k c : Nat) : (s.take i).pinFit k c = s.pinFit k c := rfl
@[simp] theorem State.firstEligible_take (s : State) (i : Instr) (a b : List Nat) : (s.take i).firstEligible a b = s.firstEligible a b := rfl
@[simp] theorem State.clock_post (s : State) (n : Notice) : (s.post n).clock = s.clock := rfl
@[simp] theorem State.inOutage_post (s : State) (n : Notice) (c : Nat) : (s.post n).inOutage c = s.inOutage c := rfl
@[simp] theorem State.isReady_post (s : State) (n : Notice) (c : Nat) : (s.post n).isReady c = s.isReady c := rfl
@[simp] theorem State.minimumGrade_post (s : State) (n : Notice) (c : Nat) : (s.post n).minimumGrade c = s.minimumGrade c := rfl
@[simp] theorem State.gradeOf_post (s : State) (n : Notice) (c : Nat) : (s.post n).gradeOf c = s.gradeOf c := rfl
@[simp] theorem State.gradePasses_post (s : State) (n : Notice) (c : Nat) : (s.post n).gradePasses c = s.gradePasses c := rfl
@[simp] theorem State.eligible_post (s : State) (n : Notice) (c : Nat) : (s.post n).eligible c = s.eligible c := rfl
@[simp] theorem State.sourceOfPort_post (s : State) (n : Notice) (c : Nat) : (s.post n).sourceOfPort c = s.sourceOfPort c := rfl
@[simp] theorem State.visiting_post (s : State) (n : Notice) (c : Nat) : (s.post n).visiting c = s.visiting c := rfl
@[simp] theorem State.underVisit_post (s : State) (n : Notice) (c : Nat) : (s.post n).underVisit c = s.underVisit c := rfl
@[simp] theorem State.pinFit_post (s : State) (n : Notice) (k c : Nat) : (s.post n).pinFit k c = s.pinFit k c := rfl
@[simp] theorem State.firstEligible_post (s : State) (n : Notice) (a b : List Nat) : (s.post n).firstEligible a b = s.firstEligible a b := rfl
@[simp] theorem State.clock_raise (s : State) (f : FaultReport) : (s.raise f).clock = s.clock := rfl
@[simp] theorem State.inOutage_raise (s : State) (f : FaultReport) (c : Nat) : (s.raise f).inOutage c = s.inOutage c := rfl
@[simp] theorem State.isReady_raise (s : State) (f : FaultReport) (c : Nat) : (s.raise f).isReady c = s.isReady c := rfl
@[simp] theorem State.minimumGrade_raise (s : State) (f : FaultReport) (c : Nat) : (s.raise f).minimumGrade c = s.minimumGrade c := rfl
@[simp] theorem State.gradeOf_raise (s : State) (f : FaultReport) (c : Nat) : (s.raise f).gradeOf c = s.gradeOf c := rfl
@[simp] theorem State.gradePasses_raise (s : State) (f : FaultReport) (c : Nat) : (s.raise f).gradePasses c = s.gradePasses c := rfl
@[simp] theorem State.eligible_raise (s : State) (f : FaultReport) (c : Nat) : (s.raise f).eligible c = s.eligible c := rfl
@[simp] theorem State.sourceOfPort_raise (s : State) (f : FaultReport) (c : Nat) : (s.raise f).sourceOfPort c = s.sourceOfPort c := rfl
@[simp] theorem State.visiting_raise (s : State) (f : FaultReport) (c : Nat) : (s.raise f).visiting c = s.visiting c := rfl
@[simp] theorem State.underVisit_raise (s : State) (f : FaultReport) (c : Nat) : (s.raise f).underVisit c = s.underVisit c := rfl
@[simp] theorem State.pinFit_raise (s : State) (f : FaultReport) (k c : Nat) : (s.raise f).pinFit k c = s.pinFit k c := rfl
@[simp] theorem State.firstEligible_raise (s : State) (f : FaultReport) (a b : List Nat) : (s.raise f).firstEligible a b = s.firstEligible a b := rfl

/-- A service whose minimum grade is kept is no part of a judgement of eligibility: R75 reads the candidate, the minimum
grade of its owner and the outage flag of its port. -/
theorem State.eligible_setService (s : State) (k : Nat) (v : Service) (h : v.cfg.minGrade = (s.service k).cfg.minGrade)
    (c : Nat) : (s.setService k v).eligible c = s.eligible c := by
  have hm : (s.setService k v).minimumGrade c = s.minimumGrade c := by
    unfold State.minimumGrade
    simp only [State.setService_acc_candidate]
    split
    · rename_i j _
      by_cases hj : j = k
      · subst hj; simp [h]
      · simp [hj]
    · rfl
  unfold State.eligible State.gradePasses
  rw [hm]
  rfl

theorem State.firstEligible_setService (s : State) (k : Nat) (v : Service)
    (h : v.cfg.minGrade = (s.service k).cfg.minGrade) (a b : List Nat) :
    (s.setService k v).firstEligible a b = s.firstEligible a b := by
  unfold State.firstEligible
  congr 1
  funext c
  rw [s.eligible_setService k v h c]

/-- What firstEligible answers: an eligible member that is not excluded, with none before it. -/
theorem State.firstEligible_some {s : State} {order except : List Nat} {c : Nat}
    (h : s.firstEligible order except = some c) : c ∈ order ∧ s.eligible c = true ∧ c ∉ except := by
  have h1 := List.find?_some h
  have h2 := List.mem_of_find?_eq_some h
  simp_all

theorem State.firstEligible_none {s : State} {order except : List Nat} (h : s.firstEligible order except = none) :
    ∀ c ∈ order, s.eligible c = true → c ∈ except := by
  intro c hc he
  have := List.find?_eq_none.1 h c hc
  simp_all

end Sys2Proof.Machine
end

