-- ==== Sys2Proof/Laws/Frame.lean ====
section
/-! SUPPORT. Which fields of State each block's operations write. A mask forgets the fields a block writes; a lemma
`f_portMask` says that `f` leaves every other field as it was. -/

set_option linter.unusedSimpArgs false
set_option linter.unusedTactic false
set_option linter.unreachableTactic false
set_option linter.unnecessarySeqFocus false

namespace Sys2Proof.Machine

/-! ### Masks -/

/-- The state without the fields written by the Lane Map. -/
def laneMask (s : State) : State :=
  { s with laneMap := [], inFlight := [], now := 0 }

/-- The state without the fields written by the candidate records. -/
def candidateMask (s : State) : State :=
  { s with candidates := [], inFlight := [], now := 0 }

/-- The state without the fields written by a Port Acquisition Unit. -/
def portMask (s : State) : State :=
  { s with ports := [], inFlight := [], now := 0 }

/-- The state without the fields written by the Switch Controller. -/
def switchMask (s : State) : State :=
  { s with services := [], inFlight := [], now := 0 }

/-- The state without the fields written by the Ranking Unit. -/
def rankMask (s : State) : State :=
  { s with services := [], candidates := [], inFlight := [], now := 0 }

/-- The state without the fields written by the Quality Monitor. -/
def measureMask (s : State) : State :=
  { s with candidates := [], ports := [], intervalNumber := 0, intervalStart := 0, intervalLength := 0, gradingTimer := none, inFlight := [], now := 0 }

/-- The state without the fields written by the Classifier, with the clean-point offer. -/
def classifyMask (s : State) : State :=
  { s with laneMap := [], services := [], ports := [], inFlight := [], now := 0 }

/-- The state without the fields written by the Sweep Controller, with what a visit does to other blocks. -/
def sweepMask (s : State) : State :=
  { s with ports := [], laneMap := [], candidates := [], contexts := [], sweepList := [], sweepPorts := [], visitQueue := [], inFlight := [], now := 0 }

/-- The state without the fields written by the Table Unit. -/
def tableMask (s : State) : State :=
  { s with laneMap := [], services := [], candidates := [], changes := [], headHeld := false, inFlight := [], now := 0 }

/-- The state without the fields written by Directory Watch. -/
def directoryMask (s : State) : State :=
  { s with contexts := [], ports := [], snapshots := [], candidates := [], discoveries := [], discoveryOverflow := 0, inFlight := [], now := 0 }

/-- The state without the fields written by the Output Composer. -/
def outputMask (s : State) : State :=
  { s with services := [], forwardQueue := [], insertQueue := [], reportCounter := 0, tapCounter := 0, tap := Tap.started, replyInHand := none, noticeQueue := [], outputLink := [], inFlight := [], now := 0 }

/-- The state without the fields written by the Report Unit. -/
def reportMask (s : State) : State :=
  { s with noticeQueue := [], noticeLoss := 0, faultSummary := 0, faultRecord := ⟨false, false, none⟩, inFlight := [], now := 0 }

/-- A fold of steps that each leave a mask leaves it. -/
theorem foldl_mask {α β : Type} (m : State → α) (f : State → β → State) (h : ∀ t b, m (f t b) = m t) (l : List β)
    (s : State) : m (l.foldl f s) = m s := by
  induction l generalizing s with
  | nil => rfl
  | cons b l ih => exact (ih _).trans (h s b)

/-- A wider mask forgets what a narrower one forgets. -/
theorem widen {m w : State → State} (hw : ∀ s, w (m s) = w s) {s t : State} (h : m t = m s) : w t = w s := by
  rw [← hw t, ← hw s, h]

@[simp] theorem State.setLanePlace_laneMask (s : State) (i : Nat) (v : Option LaneEntry) : laneMask (s.setLanePlace i v) = laneMask s := rfl
@[simp] theorem State.send_laneMask (s : State) (l : List Instr) : laneMask (s.send l) = laneMask s := rfl
@[simp] theorem State.take_laneMask (s : State) (i : Instr) : laneMask (s.take i) = laneMask s := rfl
@[simp] theorem State.post_laneMask (s : State) (n : Notice) : laneMask (s.post n) = laneMask s := rfl
@[simp] theorem State.raise_laneMask (s : State) (f : FaultReport) : laneMask (s.raise f) = laneMask s := rfl
@[simp] theorem State.atTime_laneMask (s : State) (t : Nat) : laneMask (s.atTime t) = laneMask s := rfl
@[simp] theorem State.setCandidate_candidateMask (s : State) (c : Nat) (v : Candidate) : candidateMask (s.setCandidate c v) = candidateMask s := rfl
@[simp] theorem State.send_candidateMask (s : State) (l : List Instr) : candidateMask (s.send l) = candidateMask s := rfl
@[simp] theorem State.take_candidateMask (s : State) (i : Instr) : candidateMask (s.take i) = candidateMask s := rfl
@[simp] theorem State.post_candidateMask (s : State) (n : Notice) : candidateMask (s.post n) = candidateMask s := rfl
@[simp] theorem State.raise_candidateMask (s : State) (f : FaultReport) : candidateMask (s.raise f) = candidateMask s := rfl
@[simp] theorem State.atTime_candidateMask (s : State) (t : Nat) : candidateMask (s.atTime t) = candidateMask s := rfl
@[simp] theorem State.setPort_portMask (s : State) (p : Nat) (v : Port) : portMask (s.setPort p v) = portMask s := rfl
@[simp] theorem State.send_portMask (s : State) (l : List Instr) : portMask (s.send l) = portMask s := rfl
@[simp] theorem State.take_portMask (s : State) (i : Instr) : portMask (s.take i) = portMask s := rfl
@[simp] theorem State.post_portMask (s : State) (n : Notice) : portMask (s.post n) = portMask s := rfl
@[simp] theorem State.raise_portMask (s : State) (f : FaultReport) : portMask (s.raise f) = portMask s := rfl
@[simp] theorem State.atTime_portMask (s : State) (t : Nat) : portMask (s.atTime t) = portMask s := rfl
@[simp] theorem State.setService_switchMask (s : State) (k : Nat) (v : Service) : switchMask (s.setService k v) = switchMask s := rfl
@[simp] theorem State.send_switchMask (s : State) (l : List Instr) : switchMask (s.send l) = switchMask s := rfl
@[simp] theorem State.take_switchMask (s : State) (i : Instr) : switchMask (s.take i) = switchMask s := rfl
@[simp] theorem State.post_switchMask (s : State) (n : Notice) : switchMask (s.post n) = switchMask s := rfl
@[simp] theorem State.raise_switchMask (s : State) (f : FaultReport) : switchMask (s.raise f) = switchMask s := rfl
@[simp] theorem State.atTime_switchMask (s : State) (t : Nat) : switchMask (s.atTime t) = switchMask s := rfl
@[simp] theorem State.setService_rankMask (s : State) (k : Nat) (v : Service) : rankMask (s.setService k v) = rankMask s := rfl
@[simp] theorem State.setCandidate_rankMask (s : State) (c : Nat) (v : Candidate) : rankMask (s.setCandidate c v) = rankMask s := rfl
@[simp] theorem State.send_rankMask (s : State) (l : List Instr) : rankMask (s.send l) = rankMask s := rfl
@[simp] theorem State.take_rankMask (s : State) (i : Instr) : rankMask (s.take i) = rankMask s := rfl
@[simp] theorem State.post_rankMask (s : State) (n : Notice) : rankMask (s.post n) = rankMask s := rfl
@[simp] theorem State.raise_rankMask (s : State) (f : FaultReport) : rankMask (s.raise f) = rankMask s := rfl
@[simp] theorem State.atTime_rankMask (s : State) (t : Nat) : rankMask (s.atTime t) = rankMask s := rfl
@[simp] theorem State.setPort_measureMask (s : State) (p : Nat) (v : Port) : measureMask (s.setPort p v) = measureMask s := rfl
@[simp] theorem State.setCandidate_measureMask (s : State) (c : Nat) (v : Candidate) : measureMask (s.setCandidate c v) = measureMask s := rfl
@[simp] theorem State.send_measureMask (s : State) (l : List Instr) : measureMask (s.send l) = measureMask s := rfl
@[simp] theorem State.take_measureMask (s : State) (i : Instr) : measureMask (s.take i) = measureMask s := rfl
@[simp] theorem State.post_measureMask (s : State) (n : Notice) : measureMask (s.post n) = measureMask s := rfl
@[simp] theorem State.raise_measureMask (s : State) (f : FaultReport) : measureMask (s.raise f) = measureMask s := rfl
@[simp] theorem State.atTime_measureMask (s : State) (t : Nat) : measureMask (s.atTime t) = measureMask s := rfl
@[simp] theorem State.setPort_classifyMask (s : State) (p : Nat) (v : Port) : classifyMask (s.setPort p v) = classifyMask s := rfl
@[simp] theorem State.setLanePlace_classifyMask (s : State) (i : Nat) (v : Option LaneEntry) : classifyMask (s.setLanePlace i v) = classifyMask s := rfl
@[simp] theorem State.setService_classifyMask (s : State) (k : Nat) (v : Service) : classifyMask (s.setService k v) = classifyMask s := rfl
@[simp] theorem State.send_classifyMask (s : State) (l : List Instr) : classifyMask (s.send l) = classifyMask s := rfl
@[simp] theorem State.take_classifyMask (s : State) (i : Instr) : classifyMask (s.take i) = classifyMask s := rfl
@[simp] theorem State.post_classifyMask (s : State) (n : Notice) : classifyMask (s.post n) = classifyMask s := rfl
@[simp] theorem State.raise_classifyMask (s : State) (f : FaultReport) : classifyMask (s.raise f) = classifyMask s := rfl
@[simp] theorem State.atTime_classifyMask (s : State) (t : Nat) : classifyMask (s.atTime t) = classifyMask s := rfl
@[simp] theorem State.setPort_sweepMask (s : State) (p : Nat) (v : Port) : sweepMask (s.setPort p v) = sweepMask s := rfl
@[simp] theorem State.setLanePlace_sweepMask (s : State) (i : Nat) (v : Option LaneEntry) : sweepMask (s.setLanePlace i v) = sweepMask s := rfl
@[simp] theorem State.setCandidate_sweepMask (s : State) (c : Nat) (v : Candidate) : sweepMask (s.setCandidate c v) = sweepMask s := rfl
@[simp] theorem State.setSweepEntry_sweepMask (s : State) (e : Nat) (v : SweepEntry) : sweepMask (s.setSweepEntry e v) = sweepMask s := rfl
@[simp] theorem State.setSweepPort_sweepMask (s : State) (p : Nat) (v : SweepPort) : sweepMask (s.setSweepPort p v) = sweepMask s := rfl
@[simp] theorem State.setDirContext_sweepMask (s : State) (p : Nat) (v : DirContext) : sweepMask (s.setDirContext p v) = sweepMask s := rfl
@[simp] theorem State.send_sweepMask (s : State) (l : List Instr) : sweepMask (s.send l) = sweepMask s := rfl
@[simp] theorem State.take_sweepMask (s : State) (i : Instr) : sweepMask (s.take i) = sweepMask s := rfl
@[simp] theorem State.post_sweepMask (s : State) (n : Notice) : sweepMask (s.post n) = sweepMask s := rfl
@[simp] theorem State.raise_sweepMask (s : State) (f : FaultReport) : sweepMask (s.raise f) = sweepMask s := rfl
@[simp] theorem State.atTime_sweepMask (s : State) (t : Nat) : sweepMask (s.atTime t) = sweepMask s := rfl
@[simp] theorem State.setLanePlace_tableMask (s : State) (i : Nat) (v : Option LaneEntry) : tableMask (s.setLanePlace i v) = tableMask s := rfl
@[simp] theorem State.setService_tableMask (s : State) (k : Nat) (v : Service) : tableMask (s.setService k v) = tableMask s := rfl
@[simp] theorem State.setCandidate_tableMask (s : State) (c : Nat) (v : Candidate) : tableMask (s.setCandidate c v) = tableMask s := rfl
@[simp] theorem State.send_tableMask (s : State) (l : List Instr) : tableMask (s.send l) = tableMask s := rfl
@[simp] theorem State.take_tableMask (s : State) (i : Instr) : tableMask (s.take i) = tableMask s := rfl
@[simp] theorem State.post_tableMask (s : State) (n : Notice) : tableMask (s.post n) = tableMask s := rfl
@[simp] theorem State.raise_tableMask (s : State) (f : FaultReport) : tableMask (s.raise f) = tableMask s := rfl
@[simp] theorem State.atTime_tableMask (s : State) (t : Nat) : tableMask (s.atTime t) = tableMask s := rfl
@[simp] theorem State.setPort_directoryMask (s : State) (p : Nat) (v : Port) : directoryMask (s.setPort p v) = directoryMask s := rfl
@[simp] theorem State.setCandidate_directoryMask (s : State) (c : Nat) (v : Candidate) : directoryMask (s.setCandidate c v) = directoryMask s := rfl
@[simp] theorem State.setDirContext_directoryMask (s : State) (p : Nat) (v : DirContext) : directoryMask (s.setDirContext p v) = directoryMask s := rfl
@[simp] theorem State.setSnapshot_directoryMask (s : State) (x : Nat) (v : Option Snapshot) : directoryMask (s.setSnapshot x v) = directoryMask s := rfl
@[simp] theorem State.send_directoryMask (s : State) (l : List Instr) : directoryMask (s.send l) = directoryMask s := rfl
@[simp] theorem State.take_directoryMask (s : State) (i : Instr) : directoryMask (s.take i) = directoryMask s := rfl
@[simp] theorem State.post_directoryMask (s : State) (n : Notice) : directoryMask (s.post n) = directoryMask s := rfl
@[simp] theorem State.raise_directoryMask (s : State) (f : FaultReport) : directoryMask (s.raise f) = directoryMask s := rfl
@[simp] theorem State.atTime_directoryMask (s : State) (t : Nat) : directoryMask (s.atTime t) = directoryMask s := rfl
@[simp] theorem State.setService_outputMask (s : State) (k : Nat) (v : Service) : outputMask (s.setService k v) = outputMask s := rfl
@[simp] theorem State.send_outputMask (s : State) (l : List Instr) : outputMask (s.send l) = outputMask s := rfl
@[simp] theorem State.take_outputMask (s : State) (i : Instr) : outputMask (s.take i) = outputMask s := rfl
@[simp] theorem State.post_outputMask (s : State) (n : Notice) : outputMask (s.post n) = outputMask s := rfl
@[simp] theorem State.raise_outputMask (s : State) (f : FaultReport) : outputMask (s.raise f) = outputMask s := rfl
@[simp] theorem State.atTime_outputMask (s : State) (t : Nat) : outputMask (s.atTime t) = outputMask s := rfl
@[simp] theorem State.send_reportMask (s : State) (l : List Instr) : reportMask (s.send l) = reportMask s := rfl
@[simp] theorem State.take_reportMask (s : State) (i : Instr) : reportMask (s.take i) = reportMask s := rfl
@[simp] theorem State.post_reportMask (s : State) (n : Notice) : reportMask (s.post n) = reportMask s := rfl
@[simp] theorem State.raise_reportMask (s : State) (f : FaultReport) : reportMask (s.raise f) = reportMask s := rfl
@[simp] theorem State.atTime_reportMask (s : State) (t : Nat) : reportMask (s.atTime t) = reportMask s := rfl

/-! ### Ports -/

theorem sendLeftLocked_portMask (s : State) (p : Nat) :
    portMask (sendLeftLocked p s) = portMask s := by
  unfold sendLeftLocked
  try dsimp only
  (repeat' split) <;> (try dsimp only) <;> first | with_reducible rfl | (simp []; done) | rfl | (simp []; rfl)

theorem restartPort_portMask (s : State) (p : Nat) :
    portMask (restartPort p s) = portMask s := by
  unfold restartPort
  try dsimp only
  (repeat' split) <;> (try dsimp only) <;> first | with_reducible rfl | (simp [sendLeftLocked_portMask]; done) | rfl | (simp [sendLeftLocked_portMask]; rfl)

theorem declareOutage_portMask (s : State) (p : Nat) :
    portMask (declareOutage p s) = portMask s := by
  unfold declareOutage
  try dsimp only
  (repeat' split) <;> (try dsimp only) <;> first | with_reducible rfl | (simp []; done) | rfl | (simp []; rfl)

theorem loseSync_portMask (s : State) (p : Nat) :
    portMask (loseSync p s) = portMask s := by
  unfold loseSync
  try dsimp only
  (repeat' split) <;> (try dsimp only) <;> first | with_reducible rfl | (simp [sendLeftLocked_portMask, declareOutage_portMask]; done) | rfl | (simp [sendLeftLocked_portMask, declareOutage_portMask]; rfl)

theorem enterLocked_portMask (s : State) (p : Nat) :
    portMask (enterLocked p s) = portMask s := by
  unfold enterLocked
  try dsimp only
  (repeat' split) <;> (try dsimp only) <;> first | with_reducible rfl | (simp []; done) | rfl | (simp []; rfl)

theorem searchOctet_portMask (s : State) (p : Nat) (octet : Byte) :
    portMask (searchOctet p octet s) = portMask s := by
  unfold searchOctet
  try dsimp only
  (repeat' split) <;> (try dsimp only) <;> first | with_reducible rfl | (simp []; done) | rfl | (simp []; rfl)

theorem dropConfirmation_portMask (s : State) (p : Nat) :
    portMask (dropConfirmation p s) = portMask s := by
  unfold dropConfirmation
  try dsimp only
  (repeat' split) <;> (try dsimp only) <;> first | with_reducible rfl | (simp []; done) | rfl | (simp []; rfl)

theorem countBlip_portMask (s : State) (p : Nat) :
    portMask (countBlip p s) = portMask s := by
  unfold countBlip
  try dsimp only
  (repeat' split) <;> (try dsimp only) <;> first | with_reducible rfl | (simp []; done) | rfl | (simp []; rfl)

theorem confirmOctet_portMask (s : State) (p : Nat) (octet : Byte) :
    portMask (confirmOctet p octet s) = portMask s := by
  unfold confirmOctet
  try dsimp only
  (repeat' split) <;> (try dsimp only) <;> first | with_reducible rfl | (simp [enterLocked_portMask, dropConfirmation_portMask, countBlip_portMask]; done) | rfl | (simp [enterLocked_portMask, dropConfirmation_portMask, countBlip_portMask]; rfl)

theorem lockedOctet_portMask (s : State) (p : Nat) (octet : Byte) :
    portMask (lockedOctet p octet s) = portMask s := by
  unfold lockedOctet
  try dsimp only
  (repeat' split) <;> (try dsimp only) <;> first | with_reducible rfl | (simp [loseSync_portMask]; done) | rfl | (simp [loseSync_portMask]; rfl)

theorem starve_portMask (s : State) (p : Nat) :
    portMask (starve p s) = portMask s := by
  unfold starve
  try dsimp only
  (repeat' split) <;> (try dsimp only) <;> first | with_reducible rfl | (simp [loseSync_portMask, dropConfirmation_portMask]; done) | rfl | (simp [loseSync_portMask, dropConfirmation_portMask]; rfl)

theorem holdoverExpires_portMask (s : State) (p : Nat) :
    portMask (holdoverExpires p s) = portMask s := by
  unfold holdoverExpires
  try dsimp only
  (repeat' split) <;> (try dsimp only) <;> first | with_reducible rfl | (simp [declareOutage_portMask]; done) | rfl | (simp [declareOutage_portMask]; rfl)

theorem readMargin_portMask (s : State) (p : Nat) (packet : Packet) :
    portMask (readMargin p packet s) = portMask s := by
  unfold readMargin
  try dsimp only
  (repeat' split) <;> (try dsimp only) <;> first | with_reducible rfl | (simp []; done) | rfl | (simp []; rfl)

theorem countAccepted_portMask (s : State) (p : Nat) :
    portMask (countAccepted p s) = portMask s := by
  unfold countAccepted
  try dsimp only
  (repeat' split) <;> (try dsimp only) <;> first | with_reducible rfl | (simp []; done) | rfl | (simp []; rfl)

theorem offerToTap_portMask (s : State) (p : Nat) (packet : Packet) :
    portMask (offerToTap p packet s) = portMask s := by
  unfold offerToTap
  try dsimp only
  (repeat' split) <;> (try dsimp only) <;> first | with_reducible rfl | (simp []; done) | rfl | (simp []; rfl)

theorem acceptPacket_portMask (s : State) (p : Nat) (packet : Packet) :
    portMask (acceptPacket p packet s) = portMask s := by
  unfold acceptPacket
  try dsimp only
  (repeat' split) <;> (try dsimp only) <;> first | with_reducible rfl | (simp [readMargin_portMask, countAccepted_portMask, offerToTap_portMask]; done) | rfl | (simp [readMargin_portMask, countAccepted_portMask, offerToTap_portMask]; rfl)

theorem retunePort_portMask (s : State) (p : Nat) :
    portMask (retunePort p s) = portMask s := by
  unfold retunePort
  try dsimp only
  (repeat' split) <;> (try dsimp only) <;> first | with_reducible rfl | (simp [restartPort_portMask]; done) | rfl | (simp [restartPort_portMask]; rfl)

theorem clearReadings_portMask (s : State) (p : Nat) :
    portMask (clearReadings p s) = portMask s := by
  unfold clearReadings
  try dsimp only
  (repeat' split) <;> (try dsimp only) <;> first | with_reducible rfl | (simp []; done) | rfl | (simp []; rfl)

theorem followDirCheck_sweepMask (s : State) (p : Nat) (before : Bool) (after : Bool) :
    sweepMask (followDirCheck p before after s) = sweepMask s := by
  unfold followDirCheck
  try dsimp only
  (repeat' split) <;> (try dsimp only) <;> first | with_reducible rfl | (simp []; done) | rfl | (simp []; rfl)

theorem restartPort_sweepMask (s : State) (p : Nat) :
    sweepMask (restartPort p s) = sweepMask s := widen (m := portMask) (fun _ => rfl) (restartPort_portMask ..)

theorem applyPortWrite_sweepMask (s : State) (p : Nat) (fields : List (Nat × Nat)) :
    sweepMask (applyPortWrite p fields s) = sweepMask s := by
  unfold applyPortWrite
  try dsimp only
  (repeat' split) <;> (try dsimp only) <;> first | with_reducible rfl | (simp [followDirCheck_sweepMask, restartPort_sweepMask]; done) | rfl | (simp [followDirCheck_sweepMask, restartPort_sweepMask]; rfl)

theorem holdPortWrite_portMask (s : State) (p : Nat) (tag : BitVec 16) (fields : List (Nat × Nat)) :
    portMask (holdPortWrite p tag fields s) = portMask s := by
  unfold holdPortWrite
  try dsimp only
  (repeat' split) <;> (try dsimp only) <;> first | with_reducible rfl | (simp []; done) | rfl | (simp []; rfl)

theorem applyHeldPortWrite_sweepMask (s : State) (p : Nat) :
    sweepMask (applyHeldPortWrite p s) = sweepMask s := by
  unfold applyHeldPortWrite
  try dsimp only
  (repeat' split) <;> (try dsimp only) <;> first | with_reducible rfl | (simp [applyPortWrite_sweepMask]; done) | rfl | (simp [applyPortWrite_sweepMask]; rfl)

/-! ### Switching -/

theorem tellLeftArmed_switchMask (s : State) (k : Nat) :
    switchMask (tellLeftArmed k s) = switchMask s := by
  unfold tellLeftArmed
  try dsimp only
  (repeat' split) <;> (try dsimp only) <;> first | with_reducible rfl | (simp []; done) | rfl | (simp []; rfl)

theorem armSwitch_switchMask (s : State) (k : Nat) (target : Nat) (cause : SwitchCause) :
    switchMask (armSwitch k target cause s) = switchMask s := by
  unfold armSwitch
  try dsimp only
  (repeat' split) <;> (try dsimp only) <;> first | with_reducible rfl | (simp []; done) | rfl | (simp []; rfl)

theorem retargetSwitch_switchMask (s : State) (k : Nat) (target : Nat) (cause : SwitchCause) :
    switchMask (retargetSwitch k target cause s) = switchMask s := by
  unfold retargetSwitch
  try dsimp only
  (repeat' split) <;> (try dsimp only) <;> first | with_reducible rfl | (simp [armSwitch_switchMask]; done) | rfl | (simp [armSwitch_switchMask]; rfl)

theorem escalateSwitch_switchMask (s : State) (k : Nat) (a : Armed) :
    switchMask (escalateSwitch k a s) = switchMask s := by
  unfold escalateSwitch
  try dsimp only
  (repeat' split) <;> (try dsimp only) <;> first | with_reducible rfl | (simp []; done) | rfl | (simp []; rfl)

theorem makeCut_switchMask (s : State) (k : Nat) (a : Armed) (kind : CutKind) :
    switchMask (makeCut k a kind s) = switchMask s := by
  unfold makeCut
  try dsimp only
  (repeat' split) <;> (try dsimp only) <;> first | with_reducible rfl | (simp [tellLeftArmed_switchMask]; done) | rfl | (simp [tellLeftArmed_switchMask]; rfl)

theorem offerPacket_switchMask (s : State) (k : Nat) (c : Nat) (slot : Nat) (cls : PacketClass) (start : Bool) :
    switchMask (offerPacket k c slot cls start s) = switchMask s := by
  unfold offerPacket
  try dsimp only
  (repeat' split) <;> (try dsimp only) <;> first | with_reducible rfl | (simp [makeCut_switchMask]; done) | rfl | (simp [makeCut_switchMask]; rfl)

theorem retrySwitch_switchMask (s : State) (k : Nat) :
    switchMask (retrySwitch k s) = switchMask s := by
  unfold retrySwitch
  try dsimp only
  (repeat' split) <;> (try dsimp only) <;> first | with_reducible rfl | (simp [tellLeftArmed_switchMask]; done) | rfl | (simp [tellLeftArmed_switchMask]; rfl)

theorem abandonSwitch_switchMask (s : State) (k : Nat) (a : Armed) :
    switchMask (abandonSwitch k a s) = switchMask s := by
  unfold abandonSwitch
  try dsimp only
  (repeat' split) <;> (try dsimp only) <;> first | with_reducible rfl | (simp [tellLeftArmed_switchMask]; done) | rfl | (simp [tellLeftArmed_switchMask]; rfl)

theorem waitExpires_switchMask (s : State) (k : Nat) :
    switchMask (waitExpires k s) = switchMask s := by
  unfold waitExpires
  try dsimp only
  (repeat' split) <;> (try dsimp only) <;> first | with_reducible rfl | (simp [makeCut_switchMask, retrySwitch_switchMask, abandonSwitch_switchMask]; done) | rfl | (simp [makeCut_switchMask, retrySwitch_switchMask, abandonSwitch_switchMask]; rfl)

theorem dropSwitch_switchMask (s : State) (k : Nat) :
    switchMask (dropSwitch k s) = switchMask s := by
  unfold dropSwitch
  try dsimp only
  (repeat' split) <;> (try dsimp only) <;> first | with_reducible rfl | (simp [tellLeftArmed_switchMask]; done) | rfl | (simp [tellLeftArmed_switchMask]; rfl)

theorem cancelSwitch_switchMask (s : State) (k : Nat) :
    switchMask (cancelSwitch k s) = switchMask s := by
  unfold cancelSwitch
  try dsimp only
  (repeat' split) <;> (try dsimp only) <;> first | with_reducible rfl | (simp [tellLeftArmed_switchMask, armSwitch_switchMask]; done) | rfl | (simp [tellLeftArmed_switchMask, armSwitch_switchMask]; rfl)

theorem takeRequest_switchMask (s : State) (k : Nat) (target : Nat) (cause : SwitchCause) :
    switchMask (takeRequest k target cause s) = switchMask s := by
  unfold takeRequest
  try dsimp only
  (repeat' split) <;> (try dsimp only) <;> first | with_reducible rfl | (simp [armSwitch_switchMask, retargetSwitch_switchMask, escalateSwitch_switchMask]; done) | rfl | (simp [armSwitch_switchMask, retargetSwitch_switchMask, escalateSwitch_switchMask]; rfl)

theorem switchRequest_switchMask (s : State) (k : Nat) (target : Nat) (cause : SwitchCause) :
    switchMask (switchRequest k target cause s) = switchMask s := by
  unfold switchRequest
  try dsimp only
  (repeat' split) <;> (try dsimp only) <;> first | with_reducible rfl | (simp [takeRequest_switchMask]; done) | rfl | (simp [takeRequest_switchMask]; rfl)

theorem targetGraded_switchMask (s : State) (k : Nat) :
    switchMask (targetGraded k s) = switchMask s := by
  unfold targetGraded
  try dsimp only
  (repeat' split) <;> (try dsimp only) <;> first | with_reducible rfl | (simp [cancelSwitch_switchMask]; done) | rfl | (simp [cancelSwitch_switchMask]; rfl)

theorem takeUpPinned_switchMask (s : State) (k : Nat) :
    switchMask (takeUpPinned k s) = switchMask s := by
  unfold takeUpPinned
  try dsimp only
  (repeat' split) <;> (try dsimp only) <;> first | with_reducible rfl | (simp [armSwitch_switchMask]; done) | rfl | (simp [armSwitch_switchMask]; rfl)

theorem setPin_switchMask (s : State) (k : Nat) (c : Nat) :
    switchMask (setPin k c s) = switchMask s := by
  unfold setPin
  try dsimp only
  (repeat' split) <;> (try dsimp only) <;> first | with_reducible rfl | (simp [armSwitch_switchMask, dropSwitch_switchMask]; done) | rfl | (simp [armSwitch_switchMask, dropSwitch_switchMask]; rfl)

theorem releasePin_switchMask (s : State) (k : Nat) :
    switchMask (releasePin k s) = switchMask s := by
  unfold releasePin
  try dsimp only
  (repeat' split) <;> (try dsimp only) <;> first | with_reducible rfl | (simp [dropSwitch_switchMask]; done) | rfl | (simp [dropSwitch_switchMask]; rfl)

/-! ### Ranking -/

theorem goDark_rankMask (s : State) (k : Nat) :
    rankMask (goDark k s) = rankMask s := by
  unfold goDark
  try dsimp only
  (repeat' split) <;> (try dsimp only) <;> first | with_reducible rfl | (simp []; done) | rfl | (simp []; rfl)

theorem cancelSwitch_rankMask (s : State) (k : Nat) :
    rankMask (cancelSwitch k s) = rankMask s := widen (m := switchMask) (fun _ => rfl) (cancelSwitch_switchMask ..)

theorem quarantineSwitching_rankMask (s : State) (k : Nat) (c : Nat) (request : Bool) :
    rankMask (quarantineSwitching k c request s) = rankMask s := by
  unfold quarantineSwitching
  try dsimp only
  (repeat' split) <;> (try dsimp only) <;> first | with_reducible rfl | (simp [goDark_rankMask, cancelSwitch_rankMask]; done) | rfl | (simp [goDark_rankMask, cancelSwitch_rankMask]; rfl)

theorem enterQuarantine_rankMask (s : State) (c : Nat) (reason : QuarantineReason) (duration : Nat) (request : Bool) :
    rankMask (enterQuarantine c reason duration request s) = rankMask s := by
  unfold enterQuarantine
  try dsimp only
  (repeat' split) <;> (try dsimp only) <;> first | with_reducible rfl | (simp [quarantineSwitching_rankMask]; done) | rfl | (simp [quarantineSwitching_rankMask]; rfl)

theorem quarantineCandidate_rankMask (s : State) (c : Nat) (reason : QuarantineReason) (duration : Nat) :
    rankMask (quarantineCandidate c reason duration s) = rankMask s := by
  unfold quarantineCandidate
  try dsimp only
  (repeat' split) <;> (try dsimp only) <;> first | with_reducible rfl | (simp [enterQuarantine_rankMask]; done) | rfl | (simp [enterQuarantine_rankMask]; rfl)

theorem endQuarantine_rankMask (s : State) (c : Nat) :
    rankMask (endQuarantine c s) = rankMask s := by
  unfold endQuarantine
  try dsimp only
  (repeat' split) <;> (try dsimp only) <;> first | with_reducible rfl | (simp []; done) | rfl | (simp []; rfl)

theorem countDown_rankMask (s : State) (c : Nat) :
    rankMask (countDown s c) = rankMask s := by
  unfold countDown
  try dsimp only
  (repeat' split) <;> (try dsimp only) <;> first | with_reducible rfl | (simp [endQuarantine_rankMask]; done) | rfl | (simp [endQuarantine_rankMask]; rfl)

theorem decayFlaps_rankMask (s : State) (c : Nat) :
    rankMask (decayFlaps s c) = rankMask s := by
  unfold decayFlaps
  try dsimp only
  (repeat' split) <;> (try dsimp only) <;> first | with_reducible rfl | (simp []; done) | rfl | (simp []; rfl)

theorem rebuildRank_rankMask (s : State) (k : Nat) :
    rankMask (rebuildRank k s) = rankMask s := by
  unfold rebuildRank
  try dsimp only
  (repeat' split) <;> (try dsimp only) <;> first | with_reducible rfl | (simp []; done) | rfl | (simp []; rfl)

theorem darkAtRanking_rankMask (s : State) (k : Nat) :
    rankMask (darkAtRanking k s) = rankMask s := by
  unfold darkAtRanking
  try dsimp only
  (repeat' split) <;> (try dsimp only) <;> first | with_reducible rfl | (simp [goDark_rankMask]; done) | rfl | (simp [goDark_rankMask]; rfl)

theorem countFlap_rankMask (s : State) (c : Nat) :
    rankMask (countFlap c s) = rankMask s := by
  unfold countFlap
  try dsimp only
  (repeat' split) <;> (try dsimp only) <;> first | with_reducible rfl | (simp [enterQuarantine_rankMask]; done) | rfl | (simp [enterQuarantine_rankMask]; rfl)

theorem advisoryCheck_rankMask (s : State) (k : Nat) :
    rankMask (advisoryCheck k s) = rankMask s := by
  unfold advisoryCheck
  try dsimp only
  (repeat' split) <;> (try dsimp only) <;> first | with_reducible rfl | (simp []; done) | rfl | (simp []; rfl)

theorem rankMembers_rankMask (s : State) (k : Nat) :
    rankMask (rankMembers k s) = rankMask s := by
  unfold rankMembers
  simp [rebuildRank_rankMask, foldl_mask rankMask decayFlaps decayFlaps_rankMask,
    foldl_mask rankMask countDown countDown_rankMask]

theorem selectionDecision_rankMask (s : State) (k : Nat) :
    rankMask (selectionDecision k s).1 = rankMask s := by
  unfold selectionDecision
  dsimp only
  (repeat' split) <;> simp [countFlap_rankMask]

theorem decideSelection_rankMask (s : State) (k : Nat) :
    rankMask (decideSelection k s).1 = rankMask s := by
  unfold decideSelection
  dsimp only
  (repeat' split) <;> simp [selectionDecision_rankMask]

theorem rankActive_rankMask (s : State) (k : Nat) :
    rankMask (rankActive k s) = rankMask s := by
  unfold rankActive
  simp [advisoryCheck_rankMask, decideSelection_rankMask, darkAtRanking_rankMask]

theorem rankService_rankMask (s : State) (k : Nat) :
    rankMask (rankService k s) = rankMask s := by
  unfold rankService
  split
  · rfl
  · exact rankMembers_rankMask s k
  · exact (rankActive_rankMask _ k).trans (rankMembers_rankMask s k)

theorem outageOfService_rankMask (s : State) (k : Nat) :
    rankMask (outageOfService s k) = rankMask s := by
  unfold outageOfService
  try dsimp only
  (repeat' split) <;> (try dsimp only) <;> first | with_reducible rfl | (simp [goDark_rankMask, countFlap_rankMask]; done) | rfl | (simp [goDark_rankMask, countFlap_rankMask]; rfl)

/-! ### Measurement -/

theorem measure_measureMask (s : State) (a : Measured) :
    measureMask (measure a s) = measureMask s := by
  unfold measure
  try dsimp only
  (repeat' split) <;> (try dsimp only) <;> first | with_reducible rfl | (simp []; done) | rfl | (simp []; rfl)

theorem beginInterval_measureMask (s : State) (n : BitVec 32) :
    measureMask (beginInterval n s) = measureMask s := by
  unfold beginInterval
  try dsimp only
  (repeat' split) <;> (try dsimp only) <;> first | with_reducible rfl | (simp []; done) | rfl | (simp []; rfl)

theorem intervalGrading_measureMask (s : State)  :
    measureMask (intervalGrading s) = measureMask s := by
  unfold intervalGrading
  try dsimp only
  (repeat' split) <;> (try dsimp only) <;> first | with_reducible rfl | (simp [beginInterval_measureMask]; done) | rfl | (simp [beginInterval_measureMask]; rfl)

theorem gradingExpires_measureMask (s : State)  :
    measureMask (gradingExpires s) = measureMask s := by
  unfold gradingExpires
  try dsimp only
  (repeat' split) <;> (try dsimp only) <;> first | with_reducible rfl | (simp [intervalGrading_measureMask]; done) | rfl | (simp [intervalGrading_measureMask]; rfl)

theorem clearDiscards_candidateMask (s : State) (p : Nat) :
    candidateMask (clearDiscards p s) = candidateMask s := by
  unfold clearDiscards
  try dsimp only
  (repeat' split) <;> (try dsimp only) <;> first | with_reducible rfl | (simp []; done) | rfl | (simp []; rfl)

theorem surveyGrading_measureMask (s : State) (d : DwellEnd) :
    measureMask (surveyGrading d s) = measureMask s := by
  unfold surveyGrading
  try dsimp only
  (repeat' split) <;> (try dsimp only) <;> first | with_reducible rfl | (simp []; done) | rfl | (simp []; rfl)

theorem clearDwellRecords_candidateMask (s : State) (e : Nat) :
    candidateMask (clearDwellRecords e s) = candidateMask s := by
  unfold clearDwellRecords
  try dsimp only
  (repeat' split) <;> (try dsimp only) <;> first | with_reducible rfl | (simp []; done) | rfl | (simp []; rfl)

/-! ### Classifier -/

theorem addLane_laneMask (s : State) (v : LaneEntry) :
    laneMask (addLane s v) = laneMask s := by
  unfold addLane
  try dsimp only
  (repeat' split) <;> (try dsimp only) <;> first | with_reducible rfl | (simp []; done) | rfl | (simp []; rfl)

theorem addCandidateLanes_laneMask (s : State) (c : Nat) (cfg : CandidateConfig) :
    laneMask (addCandidateLanes c cfg s) = laneMask s := by
  exact foldl_mask laneMask addLane addLane_laneMask _ _

theorem removeCandidateLanes_laneMask (s : State) (c : Nat) :
    laneMask (removeCandidateLanes c s) = laneMask s := by
  unfold removeCandidateLanes
  try dsimp only
  (repeat' split) <;> (try dsimp only) <;> first | with_reducible rfl | (simp []; done) | rfl | (simp []; rfl)

theorem forgetSequence_laneMask (s : State) (x : Nat) :
    laneMask (forgetSequence x s) = laneMask s := by
  unfold forgetSequence
  try dsimp only
  (repeat' split) <;> (try dsimp only) <;> first | with_reducible rfl | (simp []; done) | rfl | (simp []; rfl)

theorem countUnclaimed_classifyMask (s : State) (p : Nat) :
    classifyMask (countUnclaimed p s) = classifyMask s := by
  unfold countUnclaimed
  try dsimp only
  (repeat' split) <;> (try dsimp only) <;> first | with_reducible rfl | (simp []; done) | rfl | (simp []; rfl)

theorem forwardHit_classifyMask (s : State) (e : LaneEntry) (cls : PacketClass) (packet : Packet) :
    classifyMask (forwardHit e cls packet s) = classifyMask s := by
  unfold forwardHit
  try dsimp only
  (repeat' split) <;> (try dsimp only) <;> first | with_reducible rfl | (simp []; done) | rfl | (simp []; rfl)

theorem offerPacket_classifyMask (s : State) (k : Nat) (c : Nat) (slot : Nat) (cls : PacketClass) (start : Bool) :
    classifyMask (offerPacket k c slot cls start s) = classifyMask s := widen (m := switchMask) (fun _ => rfl) (offerPacket_switchMask ..)

theorem offerHit_classifyMask (s : State) (e : LaneEntry) (cls : PacketClass) (start : Bool) :
    classifyMask (offerHit e cls start s) = classifyMask s := by
  unfold offerHit
  try dsimp only
  (repeat' split) <;> (try dsimp only) <;> first | with_reducible rfl | (simp [offerPacket_classifyMask]; done) | rfl | (simp [offerPacket_classifyMask]; rfl)

theorem hit_classifyMask (s : State) (place : Nat) (e : LaneEntry) (time : Nat) (packet : Packet) :
    classifyMask (hit place e time packet s) = classifyMask s := by
  unfold hit
  try dsimp only
  (repeat' split) <;> (try dsimp only) <;> first | with_reducible rfl | (simp [forwardHit_classifyMask, offerHit_classifyMask]; done) | rfl | (simp [forwardHit_classifyMask, offerHit_classifyMask]; rfl)

theorem routeDirectory_classifyMask (s : State) (port : Nat) (source : Nat) (packet : Packet) :
    classifyMask (routeDirectory port source packet s) = classifyMask s := by
  unfold routeDirectory
  try dsimp only
  (repeat' split) <;> (try dsimp only) <;> first | with_reducible rfl | (simp [countUnclaimed_classifyMask]; done) | rfl | (simp [countUnclaimed_classifyMask]; rfl)

theorem routePacket_classifyMask (s : State) (port : Nat) (source : Option Nat) (time : Nat) (packet : Packet) :
    classifyMask (routePacket port source time packet s) = classifyMask s := by
  unfold routePacket
  try dsimp only
  (repeat' split) <;> (try dsimp only) <;> first | with_reducible rfl | (simp [countUnclaimed_classifyMask, hit_classifyMask, routeDirectory_classifyMask]; done) | rfl | (simp [countUnclaimed_classifyMask, hit_classifyMask, routeDirectory_classifyMask]; rfl)

/-! ### Sweep -/

theorem applySweepWrite_sweepMask (s : State) (e : Nat) (fields : List (Nat × Nat)) :
    sweepMask (applySweepWrite e fields s) = sweepMask s := by
  unfold applySweepWrite
  try dsimp only
  (repeat' split) <;> (try dsimp only) <;> first | with_reducible rfl | (simp []; done) | rfl | (simp []; rfl)

theorem holdSweepWrite_sweepMask (s : State) (e : Nat) (fields : List (Nat × Nat)) :
    sweepMask (holdSweepWrite e fields s) = sweepMask s := by
  unfold holdSweepWrite
  try dsimp only
  (repeat' split) <;> (try dsimp only) <;> first | with_reducible rfl | (simp []; done) | rfl | (simp []; rfl)

theorem applyHeldSweepWrite_sweepMask (s : State) (e : Nat) :
    sweepMask (applyHeldSweepWrite e s) = sweepMask s := by
  unfold applyHeldSweepWrite
  try dsimp only
  (repeat' split) <;> (try dsimp only) <;> first | with_reducible rfl | (simp [applySweepWrite_sweepMask]; done) | rfl | (simp [applySweepWrite_sweepMask]; rfl)

theorem beginAttempt_sweepMask (s : State) (p : Nat) (n : Nat) (v : Visit) :
    sweepMask (beginAttempt p n v s) = sweepMask s := by
  unfold beginAttempt
  try dsimp only
  (repeat' split) <;> (try dsimp only) <;> first | with_reducible rfl | (simp []; done) | rfl | (simp []; rfl)

theorem beginVisit_sweepMask (s : State) (p : Nat) (e : Nat) (fromQueue : Bool) :
    sweepMask (beginVisit p e fromQueue s) = sweepMask s := by
  unfold beginVisit
  try dsimp only
  (repeat' split) <;> (try dsimp only) <;> first | with_reducible rfl | (simp [beginAttempt_sweepMask]; done) | rfl | (simp [beginAttempt_sweepMask]; rfl)

theorem tryChoose_sweepMask (s : State) (p : Nat) :
    sweepMask (tryChoose p s) = sweepMask s := by
  unfold tryChoose
  try dsimp only
  (repeat' split) <;> (try dsimp only) <;> first | with_reducible rfl | (simp [beginVisit_sweepMask]; done) | rfl | (simp [beginVisit_sweepMask]; rfl)

theorem tryBoth_sweepMask (s : State)  :
    sweepMask (tryBoth s) = sweepMask s := by
  unfold tryBoth
  try dsimp only
  (repeat' split) <;> (try dsimp only) <;> first | with_reducible rfl | (simp [tryChoose_sweepMask]; done) | rfl | (simp [tryChoose_sweepMask]; rfl)

theorem withdrawSource_sweepMask (s : State) (p : Nat) :
    sweepMask (withdrawSource p s) = sweepMask s := by
  unfold withdrawSource
  try dsimp only
  (repeat' split) <;> (try dsimp only) <;> first | with_reducible rfl | (simp []; done) | rfl | (simp []; rfl)

theorem idleContext_sweepMask (s : State) (p : Nat) :
    sweepMask (idleContext p s) = sweepMask s := by
  unfold idleContext
  try dsimp only
  (repeat' split) <;> (try dsimp only) <;> first | with_reducible rfl | (simp []; done) | rfl | (simp []; rfl)

theorem clearDiscards_sweepMask (s : State) (p : Nat) :
    sweepMask (clearDiscards p s) = sweepMask s := widen (m := candidateMask) (fun _ => rfl) (clearDiscards_candidateMask ..)

theorem closeDwell_sweepMask (s : State) (p : Nat) (v : Visit) (how : VisitEnd) :
    sweepMask (closeDwell p v how s) = sweepMask s := by
  unfold closeDwell
  try dsimp only
  (repeat' split) <;> (try dsimp only) <;> first | with_reducible rfl | (simp [withdrawSource_sweepMask, idleContext_sweepMask, clearDiscards_sweepMask]; done) | rfl | (simp [withdrawSource_sweepMask, idleContext_sweepMask, clearDiscards_sweepMask]; rfl)

theorem stampVisit_sweepMask (s : State) (e : Nat) (how : VisitEnd) :
    sweepMask (stampVisit e how s) = sweepMask s := by
  unfold stampVisit
  try dsimp only
  (repeat' split) <;> (try dsimp only) <;> first | with_reducible rfl | (simp []; done) | rfl | (simp []; rfl)

theorem reportVisit_sweepMask (s : State) (p : Nat) (e : Nat) (how : VisitEnd) :
    sweepMask (reportVisit p e how s) = sweepMask s := by
  unfold reportVisit
  try dsimp only
  (repeat' split) <;> (try dsimp only) <;> first | with_reducible rfl | (simp []; done) | rfl | (simp []; rfl)

theorem leaveVisit_sweepMask (s : State) (p : Nat) (v : Visit) (how : VisitEnd) :
    sweepMask (leaveVisit p v how s) = sweepMask s := by
  unfold leaveVisit
  try dsimp only
  (repeat' split) <;> (try dsimp only) <;> first | with_reducible rfl | (simp []; done) | rfl | (simp []; rfl)

theorem endVisit_sweepMask (s : State) (p : Nat) (v : Visit) (how : VisitEnd) :
    sweepMask (endVisit p v how s) = sweepMask s := by
  unfold endVisit
  try dsimp only
  (repeat' split) <;> (try dsimp only) <;> first | with_reducible rfl | (simp [applyHeldPortWrite_sweepMask, applyHeldSweepWrite_sweepMask, tryBoth_sweepMask, closeDwell_sweepMask, stampVisit_sweepMask, reportVisit_sweepMask, leaveVisit_sweepMask]; done) | rfl | (simp [applyHeldPortWrite_sweepMask, applyHeldSweepWrite_sweepMask, tryBoth_sweepMask, closeDwell_sweepMask, stampVisit_sweepMask, reportVisit_sweepMask, leaveVisit_sweepMask]; rfl)

theorem attemptFails_sweepMask (s : State) (p : Nat) (n : Nat) (v : Visit) :
    sweepMask (attemptFails p n v s) = sweepMask s := by
  unfold attemptFails
  try dsimp only
  (repeat' split) <;> (try dsimp only) <;> first | with_reducible rfl | (simp [endVisit_sweepMask]; done) | rfl | (simp [endVisit_sweepMask]; rfl)

theorem attemptSucceeds_sweepMask (s : State) (p : Nat) (v : Visit) :
    sweepMask (attemptSucceeds p v s) = sweepMask s := by
  unfold attemptSucceeds
  try dsimp only
  (repeat' split) <;> (try dsimp only) <;> first | with_reducible rfl | (simp [endVisit_sweepMask]; done) | rfl | (simp [endVisit_sweepMask]; rfl)

theorem attemptDone_sweepMask (s : State) (p : Nat) (acknowledged : Bool) :
    sweepMask (attemptDone p acknowledged s) = sweepMask s := by
  unfold attemptDone
  try dsimp only
  (repeat' split) <;> (try dsimp only) <;> first | with_reducible rfl | (simp [attemptFails_sweepMask, attemptSucceeds_sweepMask]; done) | rfl | (simp [attemptFails_sweepMask, attemptSucceeds_sweepMask]; rfl)

theorem attemptLimit_sweepMask (s : State) (p : Nat) :
    sweepMask (attemptLimit p s) = sweepMask s := by
  unfold attemptLimit
  try dsimp only
  (repeat' split) <;> (try dsimp only) <;> first | with_reducible rfl | (simp [attemptFails_sweepMask]; done) | rfl | (simp [attemptFails_sweepMask]; rfl)

theorem gapExpires_sweepMask (s : State) (p : Nat) :
    sweepMask (gapExpires p s) = sweepMask s := by
  unfold gapExpires
  try dsimp only
  (repeat' split) <;> (try dsimp only) <;> first | with_reducible rfl | (simp [beginAttempt_sweepMask]; done) | rfl | (simp [beginAttempt_sweepMask]; rfl)

theorem clearDwellRecords_sweepMask (s : State) (e : Nat) :
    sweepMask (clearDwellRecords e s) = sweepMask s := widen (m := candidateMask) (fun _ => rfl) (clearDwellRecords_candidateMask ..)

theorem forgetSequence_sweepMask (s : State) (x : Nat) :
    sweepMask (forgetSequence x s) = sweepMask s := widen (m := laneMask) (fun _ => rfl) (forgetSequence_laneMask ..)

theorem beginDwell_sweepMask (s : State) (p : Nat) (v : Visit) :
    sweepMask (beginDwell p v s) = sweepMask s := by
  simp only [beginDwell, State.setSweepPort_sweepMask, State.setPort_sweepMask, State.setDirContext_sweepMask,
    clearDwellRecords_sweepMask, forgetSequence_sweepMask]

theorem marginArrives_sweepMask (s : State) (p : Nat) (lock : Nat) :
    sweepMask (marginArrives p lock s) = sweepMask s := by
  unfold marginArrives
  (repeat' split) <;> first | with_reducible rfl | exact beginDwell_sweepMask ..

theorem settleExpires_sweepMask (s : State) (p : Nat) :
    sweepMask (settleExpires p s) = sweepMask s := by
  unfold settleExpires
  try dsimp only
  (repeat' split) <;> (try dsimp only) <;> first | with_reducible rfl | (simp [endVisit_sweepMask]; done) | rfl | (simp [endVisit_sweepMask]; rfl)

theorem dwellExpires_sweepMask (s : State) (p : Nat) :
    sweepMask (dwellExpires p s) = sweepMask s := by
  unfold dwellExpires
  try dsimp only
  (repeat' split) <;> (try dsimp only) <;> first | with_reducible rfl | (simp [withdrawSource_sweepMask, idleContext_sweepMask]; done) | rfl | (simp [withdrawSource_sweepMask, idleContext_sweepMask]; rfl)

theorem gradingComplete_sweepMask (s : State) (p : Nat) :
    sweepMask (gradingComplete p s) = sweepMask s := by
  unfold gradingComplete
  try dsimp only
  (repeat' split) <;> (try dsimp only) <;> first | with_reducible rfl | (simp [endVisit_sweepMask]; done) | rfl | (simp [endVisit_sweepMask]; rfl)

theorem sweepOutage_sweepMask (s : State) (p : Nat) :
    sweepMask (sweepOutage p s) = sweepMask s := by
  unfold sweepOutage
  try dsimp only
  (repeat' split) <;> (try dsimp only) <;> first | with_reducible rfl | (simp [endVisit_sweepMask]; done) | rfl | (simp [endVisit_sweepMask]; rfl)

theorem setHeld_sweepMask (s : State) (p : Nat) (b : Bool) :
    sweepMask (setHeld p b s) = sweepMask s := by
  unfold setHeld
  try dsimp only
  (repeat' split) <;> (try dsimp only) <;> first | with_reducible rfl | (simp []; done) | rfl | (simp []; rfl)

theorem holdVisit_sweepMask (s : State) (p : Nat) :
    sweepMask (holdVisit p s) = sweepMask s := by
  unfold holdVisit
  try dsimp only
  (repeat' split) <;> (try dsimp only) <;> first | with_reducible rfl | (simp [endVisit_sweepMask]; done) | rfl | (simp [endVisit_sweepMask]; rfl)

theorem holdPorts_sweepMask (s : State) (ports : List Nat) :
    sweepMask (holdPorts ports s) = sweepMask s := by
  unfold holdPorts
  simp only [foldl_mask sweepMask (fun t p => holdVisit p t) (fun t p => holdVisit_sweepMask t p),
    foldl_mask sweepMask (fun t p => setHeld p true t) (fun t p => setHeld_sweepMask t p true)]

theorem resumePorts_sweepMask (s : State) (ports : List Nat) :
    sweepMask (resumePorts ports s) = sweepMask s := by
  unfold resumePorts
  simp only [tryBoth_sweepMask, foldl_mask sweepMask (fun t p => setHeld p false t) (fun t p => setHeld_sweepMask t p false)]

/-! ### Tables -/

theorem addCandidateLanes_tableMask (s : State) (c : Nat) (cfg : CandidateConfig) :
    tableMask (addCandidateLanes c cfg s) = tableMask s := widen (m := laneMask) (fun _ => rfl) (addCandidateLanes_laneMask ..)

theorem removeCandidateLanes_tableMask (s : State) (c : Nat) :
    tableMask (removeCandidateLanes c s) = tableMask s := widen (m := laneMask) (fun _ => rfl) (removeCandidateLanes_laneMask ..)

theorem changeLanes_tableMask (s : State) (c : Nat) (old : CandidateConfig) (new : CandidateConfig) :
    tableMask (changeLanes c old new s) = tableMask s := by
  unfold changeLanes
  try dsimp only
  (repeat' split) <;> (try dsimp only) <;> first | with_reducible rfl | (simp [addCandidateLanes_tableMask, removeCandidateLanes_tableMask]; done) | rfl | (simp [addCandidateLanes_tableMask, removeCandidateLanes_tableMask]; rfl)

theorem changeOldOwner_tableMask (s : State) (c : Nat) (old : CandidateConfig) (new : CandidateConfig) :
    tableMask (changeOldOwner c old new s) = tableMask s := by
  unfold changeOldOwner
  try dsimp only
  (repeat' split) <;> (try dsimp only) <;> first | with_reducible rfl | (simp []; done) | rfl | (simp []; rfl)

theorem joinOwner_tableMask (s : State) (c : Nat) (old : CandidateConfig) (new : CandidateConfig) :
    tableMask (joinOwner c old new s) = tableMask s := by
  unfold joinOwner
  try dsimp only
  (repeat' split) <;> (try dsimp only) <;> first | with_reducible rfl | (simp []; done) | rfl | (simp []; rfl)

theorem applyCandidate_tableMask (s : State) (c : Nat) (new : CandidateConfig) :
    tableMask (applyCandidate c new s) = tableMask s := by
  unfold applyCandidate
  try dsimp only
  (repeat' split) <;> (try dsimp only) <;> first | with_reducible rfl | (simp [changeLanes_tableMask, changeOldOwner_tableMask, joinOwner_tableMask]; done) | rfl | (simp [changeLanes_tableMask, changeOldOwner_tableMask, joinOwner_tableMask]; rfl)

theorem applyService_tableMask (s : State) (k : Nat) (new : ServiceConfig) :
    tableMask (applyService k new s) = tableMask s := by
  unfold applyService
  try dsimp only
  (repeat' split) <;> (try dsimp only) <;> first | with_reducible rfl | (simp []; done) | rfl | (simp []; rfl)

theorem failChange_tableMask (s : State) (h : Change) (r : FailReason) :
    tableMask (failChange h r s) = tableMask s := by
  unfold failChange
  try dsimp only
  (repeat' split) <;> (try dsimp only) <;> first | with_reducible rfl | (simp []; done) | rfl | (simp []; rfl)

theorem performChange_tableMask (s : State) (h : Change) :
    tableMask (performChange h s) = tableMask s := by
  unfold performChange
  try dsimp only
  (repeat' split) <;> (try dsimp only) <;> first | with_reducible rfl | (simp [applyCandidate_tableMask, applyService_tableMask, failChange_tableMask]; done) | rfl | (simp [applyCandidate_tableMask, applyService_tableMask, failChange_tableMask]; rfl)

theorem takeHead_tableMask (s : State)  :
    tableMask (takeHead s) = tableMask s := by
  unfold takeHead
  try dsimp only
  (repeat' split) <;> (try dsimp only) <;> first | with_reducible rfl | (simp [performChange_tableMask]; done) | rfl | (simp [performChange_tableMask]; rfl)

theorem examineHead_tableMask (s : State) (k : Nat) :
    tableMask (examineHead k s) = tableMask s := by
  unfold examineHead
  try dsimp only
  (repeat' split) <;> (try dsimp only) <;> first | with_reducible rfl | (simp []; done) | rfl | (simp []; rfl)

/-! ### Directory -/

theorem countDiscard_directoryMask (s : State) (p : Nat) :
    directoryMask (countDiscard p s) = directoryMask s := by
  unfold countDiscard
  try dsimp only
  (repeat' split) <;> (try dsimp only) <;> first | with_reducible rfl | (simp []; done) | rfl | (simp []; rfl)

theorem countCrcFailure_directoryMask (s : State) (p : Nat) :
    directoryMask (countCrcFailure p s) = directoryMask s := by
  unfold countCrcFailure
  try dsimp only
  (repeat' split) <;> (try dsimp only) <;> first | with_reducible rfl | (simp []; done) | rfl | (simp []; rfl)

theorem replaceSnapshot_directoryMask (s : State) (x : Nat) (i : SetIdentity) (entries : List (Nat × Nat)) :
    directoryMask (replaceSnapshot x i entries s) = directoryMask s := by
  unfold replaceSnapshot
  try dsimp only
  (repeat' split) <;> (try dsimp only) <;> first | with_reducible rfl | (simp []; done) | rfl | (simp []; rfl)

theorem logDiscovery_directoryMask (s : State) (x : Nat) (d : Nat × Nat) :
    directoryMask (logDiscovery x s d) = directoryMask s := by
  unfold logDiscovery
  try dsimp only
  (repeat' split) <;> (try dsimp only) <;> first | with_reducible rfl | (simp []; done) | rfl | (simp []; rfl)

theorem completeDirectory_directoryMask (s : State) (x : Nat) (i : SetIdentity) (entries : List (Nat × Nat)) :
    directoryMask (completeDirectory x i entries s) = directoryMask s := by
  have h (u : State) : directoryMask
      ((discoveriesIn { u with candidates := Table.remap Candidate.default (fun _ v => checkedCandidate x entries v) u.candidates } x entries).foldl
        (logDiscovery x) { u with candidates := Table.remap Candidate.default (fun _ v => checkedCandidate x entries v) u.candidates }) =
      directoryMask u := foldl_mask directoryMask (logDiscovery x) (fun t d => logDiscovery_directoryMask t x d) _ _
  unfold completeDirectory
  dsimp only
  split <;> simp only [State.post_directoryMask, State.send_directoryMask, h, replaceSnapshot_directoryMask]

theorem abandonSet_directoryMask (s : State) (p : Nat) :
    directoryMask (abandonSet p s) = directoryMask s := by
  unfold abandonSet
  try dsimp only
  (repeat' split) <;> (try dsimp only) <;> first | with_reducible rfl | (simp []; done) | rfl | (simp []; rfl)

theorem holdSection_directoryMask (s : State) (p : Nat) (i : SetIdentity) (n : Nat) (entries : List (Nat × Nat)) (held : List (Nat × List (Nat × Nat))) :
    directoryMask (holdSection p i n entries held s) = directoryMask s := by
  unfold holdSection
  try dsimp only
  (repeat' split) <;> (try dsimp only) <;> first | with_reducible rfl | (simp [completeDirectory_directoryMask, abandonSet_directoryMask]; done) | rfl | (simp [completeDirectory_directoryMask, abandonSet_directoryMask]; rfl)

theorem takeGoodSection_directoryMask (s : State) (p : Nat) (l : List Byte) :
    directoryMask (takeGoodSection p l s) = directoryMask s := by
  unfold takeGoodSection
  try dsimp only
  (repeat' split) <;> (try dsimp only) <;> first | with_reducible rfl | (simp [countDiscard_directoryMask, abandonSet_directoryMask, holdSection_directoryMask]; done) | rfl | (simp [countDiscard_directoryMask, abandonSet_directoryMask, holdSection_directoryMask]; rfl)

theorem takeItem_directoryMask (s : State) (p : Nat) (item : DirItem) :
    directoryMask (takeItem p s item) = directoryMask s := by
  unfold takeItem
  try dsimp only
  (repeat' split) <;> (try dsimp only) <;> first | with_reducible rfl | (simp [countDiscard_directoryMask, countCrcFailure_directoryMask, abandonSet_directoryMask, takeGoodSection_directoryMask]; done) | rfl | (simp [countDiscard_directoryMask, countCrcFailure_directoryMask, abandonSet_directoryMask, takeGoodSection_directoryMask]; rfl)

theorem directoryPacket_directoryMask (s : State) (p : Nat) (source : Nat) (packet : Packet) :
    directoryMask (directoryPacket p source packet s) = directoryMask s := by
  unfold directoryPacket
  dsimp only
  split
  · rfl
  · simp only [foldl_mask directoryMask (takeItem p) (fun t d => takeItem_directoryMask t p d), State.setDirContext_directoryMask]

theorem directoryLeftLocked_directoryMask (s : State) (p : Nat) :
    directoryMask (directoryLeftLocked p s) = directoryMask s := by
  unfold directoryLeftLocked
  dsimp only
  split
  · rfl
  · simp only [foldl_mask directoryMask (takeItem p) (fun t d => takeItem_directoryMask t p d), State.setDirContext_directoryMask]

/-! ### Flags -/

theorem queueNotice_reportMask (s : State) (r : NoticeRecord) :
    reportMask (queueNotice r s) = reportMask s := by
  unfold queueNotice
  try dsimp only
  (repeat' split) <;> (try dsimp only) <;> first | with_reducible rfl | (simp []; done) | rfl | (simp []; rfl)

theorem loseNotice_reportMask (s : State)  :
    reportMask (loseNotice s) = reportMask s := by
  unfold loseNotice
  try dsimp only
  (repeat' split) <;> (try dsimp only) <;> first | with_reducible rfl | (simp []; done) | rfl | (simp []; rfl)

theorem enterFault_reportMask (s : State) (f : FaultReport) :
    reportMask (enterFault f s) = reportMask s := by
  unfold enterFault
  try dsimp only
  (repeat' split) <;> (try dsimp only) <;> first | with_reducible rfl | (simp []; done) | rfl | (simp []; rfl)

theorem overflowNotice_reportMask (s : State)  :
    reportMask (overflowNotice s) = reportMask s := by
  unfold overflowNotice
  try dsimp only
  (repeat' split) <;> (try dsimp only) <;> first | with_reducible rfl | (simp [queueNotice_reportMask, loseNotice_reportMask]; done) | rfl | (simp [queueNotice_reportMask, loseNotice_reportMask]; rfl)

theorem recordOverflow_reportMask (s : State)  :
    reportMask (recordOverflow s) = reportMask s := by
  unfold recordOverflow
  try dsimp only
  (repeat' split) <;> (try dsimp only) <;> first | with_reducible rfl | (simp [enterFault_reportMask, overflowNotice_reportMask]; done) | rfl | (simp [enterFault_reportMask, overflowNotice_reportMask]; rfl)

theorem takeNotice_reportMask (s : State) (r : NoticeRecord) :
    reportMask (takeNotice r s) = reportMask s := by
  unfold takeNotice
  try dsimp only
  (repeat' split) <;> (try dsimp only) <;> first | with_reducible rfl | (simp [queueNotice_reportMask, loseNotice_reportMask, recordOverflow_reportMask]; done) | rfl | (simp [queueNotice_reportMask, loseNotice_reportMask, recordOverflow_reportMask]; rfl)

theorem recordFault_reportMask (s : State) (f : FaultReport) :
    reportMask (recordFault f s) = reportMask s := by
  unfold recordFault
  try dsimp only
  (repeat' split) <;> (try dsimp only) <;> first | with_reducible rfl | (simp [enterFault_reportMask, overflowNotice_reportMask, takeNotice_reportMask]; done) | rfl | (simp [enterFault_reportMask, overflowNotice_reportMask, takeNotice_reportMask]; rfl)

/-! ### Output -/

theorem admit_outputMask (s : State) (k : Nat) (slot : Nat) (advance : Bool) (packet : Packet) :
    outputMask (admitForward k slot advance packet s) = outputMask s := by
  unfold admitForward
  try dsimp only
  (repeat' split) <;> (try dsimp only) <;> first | with_reducible rfl | (simp []; done) | rfl | (simp []; rfl)

theorem placeOnReportLane_outputMask (s : State) (kind : InsertKind) (record : List Byte) :
    outputMask (placeOnReportLane kind record s) = outputMask s := by
  unfold placeOnReportLane
  try dsimp only
  (repeat' split) <;> (try dsimp only) <;> first | with_reducible rfl | (simp []; done) | rfl | (simp []; rfl)

theorem placeReply_outputMask (s : State)  :
    outputMask (placeReply s) = outputMask s := by
  unfold placeReply
  try dsimp only
  (repeat' split) <;> (try dsimp only) <;> first | with_reducible rfl | (simp [placeOnReportLane_outputMask]; done) | rfl | (simp [placeOnReportLane_outputMask]; rfl)

theorem placeReport_outputMask (s : State)  :
    outputMask (placeReport s) = outputMask s := by
  unfold placeReport
  try dsimp only
  (repeat' split) <;> (try dsimp only) <;> first | with_reducible rfl | (simp [placeOnReportLane_outputMask]; done) | rfl | (simp [placeOnReportLane_outputMask]; rfl)

theorem placeCopy_outputMask (s : State) (packet : Packet) :
    outputMask (placeCopy packet s) = outputMask s := by
  unfold placeCopy
  try dsimp only
  (repeat' split) <;> (try dsimp only) <;> first | with_reducible rfl | (simp []; done) | rfl | (simp []; rfl)

theorem endTap_outputMask (s : State) (how : TapEnd) :
    outputMask (endTap how s) = outputMask s := by
  unfold endTap
  try dsimp only
  (repeat' split) <;> (try dsimp only) <;> first | with_reducible rfl | (simp []; done) | rfl | (simp []; rfl)

theorem offerTap_outputMask (s : State) (p : Nat) (packet : Packet) :
    outputMask (offerTap p packet s) = outputMask s := by
  unfold offerTap
  try dsimp only
  (repeat' split) <;> (try dsimp only) <;> first | with_reducible rfl | (simp [placeCopy_outputMask, endTap_outputMask]; done) | rfl | (simp [placeCopy_outputMask, endTap_outputMask]; rfl)

theorem sendChoice_outputMask (s : State)  :
    outputMask (sendChoice s) = outputMask s := by
  unfold sendChoice
  try dsimp only
  (repeat' split) <;> (try dsimp only) <;> first | with_reducible rfl | (simp []; done) | rfl | (simp []; rfl)

/-! ### The discard marks -/

/-- The marks of a port's dwell go from every candidate (R73). -/
theorem candidate_clearDiscards (s : State) (h : Table.wf Candidate.default s.candidates) (p c : Nat) :
    (clearDiscards p s).candidate c = (s.candidate c).clearDiscard p := by
  refine Table.get_remap Candidate.default Candidate.default (fun _ x => x.clearDiscard p) s.candidates h.1 c ?_
  simp only [Candidate.clearDiscard]; split <;> rfl

/-- The end of a visit that dwelt leaves no mark of its port's dwell, whatever its outcome (R73, R127; log 17). -/
theorem candidate_closeDwell (s : State) (h : Table.wf Candidate.default s.candidates) (p c : Nat) (v : Visit)
    (how : VisitEnd) (hv : v.dwells = true) :
    (closeDwell p v how s).candidate c = (s.candidate c).clearDiscard p := by
  have hw : (withdrawSource p s).candidates = s.candidates := rfl
  have := candidate_clearDiscards (withdrawSource p s) (by rw [hw]; exact h) p c
  simp only [closeDwell, hv]
  split <;> exact this

end Sys2Proof.Machine
end

