-- ==== Sys2Proof/Laws/Management.lean ====
section
/-! SUPPORT. What a command row comes to when the Management Unit can take it, when a check refuses it, and when it has
to wait; the numbers that the octets of a body carry; the CRCs; and when the stored image is valid. -/

namespace Sys2Proof.Machine

/-! ### Taking a command -/

theorem manage_takes {s : State} (h : s.takesCommand) (r : CommandRecord) (f : State → Verdict) :
    manage r f s = answer r s (f s) := by
  obtain ⟨_, hq, hr, hk⟩ := h
  simp [manage, hq, State.freeForCommand, hr, hk]

theorem manage_waits {s : State} {h r : CommandRecord} {rest : List CommandRecord} (hq : s.commandQueue = h :: rest)
    (hne : h ≠ r) (f : State → Verdict) : manage r f s = joinCommandQueue r s := by
  simp [manage, hq, hne]

theorem answer_refused (r : CommandRecord) (s : State) (why : Reason) :
    answer r s (.refused why) = s.refuses r.cmd r.code why := rfl

theorem answer_done (r : CommandRecord) (s t : State) (body : List Byte) :
    answer r s (.done body t) = t.replies r.cmd r.code .done body := rfl

theorem answer_accepted (r : CommandRecord) (s t : State) (body : List Byte) :
    answer r s (.accepted body t) = t.replies r.cmd r.code .accepted body := rfl

/-! ### The checks -/

theorem withinCeiling_of_admits {s : State} {l m : Nat} (h : s.admitsLevel l m) : withinCeiling s l = true := by
  obtain ⟨_, h3, hc⟩ := h
  rcases hc with hc | hc <;> simp [withinCeiling, h3, hc]

theorem checked_admits {s : State} {l : Nat} (h : withinCeiling s l = true) (v : Verdict) : checked s l true true v = v := by
  simp [checked, h]

theorem checked_length (s : State) (l : Nat) (a : Bool) (v : Verdict) : checked s l false a v = .refused .badLength := rfl

theorem checked_level {s : State} {l : Nat} {a : Bool} (h : withinCeiling s l = false ∨ a = false) (v : Verdict) :
    checked s l true a v = .refused .level := by
  rcases h with h | h <;> simp [checked, h]

theorem command_admits {s : State} {n m : Nat} {c : Cmd} (hl : c.body.length = n) (h : s.admitsLevel c.level m)
    (v : State → Verdict) : command n m c v s = v s := by
  simp [command, checked, hl, withinCeiling_of_admits h, h.1]

/-! ### The numbers of a body -/

theorem octetAt_be8 {n : Nat} (h : n < 256) (l : List Byte) : octetAt (be8 n ++ l) 0 = n := by
  simp [octetAt, be8]; omega

theorem beAt_be16 {n : Nat} (h : n < 65536) (l : List Byte) : beAt (be16 n ++ l) 0 2 = n := by
  simp [beAt, be16]; omega

theorem beAt_be32 {n : Nat} (h : n < 4294967296) (l : List Byte) : beAt (be32 n ++ l) 0 4 = n := by
  simp [beAt, be32]; omega

theorem beAt_append (a l : List Byte) (i n : Nat) : beAt (a ++ l) (a.length + i) n = beAt l i n := by
  simp [beAt, List.drop_append, List.drop_eq_nil_of_le (show a.length ≤ a.length + i by omega)]

theorem octetAt_append (a l : List Byte) (i : Nat) : octetAt (a ++ l) (a.length + i) = octetAt l i := by
  simp [octetAt, List.getElem?_append_right (show a.length ≤ a.length + i by omega)]

@[simp] theorem length_be8 (n : Nat) : (be8 n).length = 1 := rfl
@[simp] theorem length_be16 (n : Nat) : (be16 n).length = 2 := rfl
@[simp] theorem length_be32 (n : Nat) : (be32 n).length = 4 := rfl

/-! ### CRCs and the Settings Store -/

theorem crcOver_nil {w : Nat} (poly c : BitVec w) : crcOver poly [] c = c := rfl

/-- An octet is shifted into the register, which then goes over the octets that follow. -/
theorem crcOver_cons {w : Nat} (poly c : BitVec w) (b : Byte) (l : List Byte) :
    crcOver poly (b :: l) c = crcOver poly l (crcShift poly 8 (c ^^^ (b.zeroExtend w).shiftLeft (w - 8))) := by
  rw [crcOver]
  split
  · rename_i h
    rw [BitVec.eq_of_toNat_eq (h.trans (by simp) : _ = (0 : BitVec w).toNat)]
  · rename_i n h
    rw [show n + 1 = _ from h.symm, BitVec.ofNat_toNat, BitVec.setWidth_eq]

theorem crcOver_append {w : Nat} (poly c : BitVec w) (l m : List Byte) :
    crcOver poly (l ++ m) c = crcOver poly m (crcOver poly l c) := by
  induction l generalizing c with
  | nil => rfl
  | cons b l ih => rw [List.cons_append, crcOver_cons, crcOver_cons, ih]

theorem imageCrc_eq (i : Image) : imageCrc i = crc32 (imageOctets i) := by unfold imageCrc; rfl

theorem Store.valid_iff (x : Store) : x.valid = true ↔ x.readBack = true ∧ x.crc = imageCrc x.image := by
  simp [Store.valid]

@[simp] theorem Store.valid_written (i : Image) : (Store.written i).valid = true := by simp [Store.valid, Store.written]
@[simp] theorem Store.image_written (i : Image) : (Store.written i).image = i := rfl
@[simp] theorem Store.crc_written (i : Image) : (Store.written i).crc = imageCrc i := rfl
@[simp] theorem Store.readBack_written (i : Image) : (Store.written i).readBack = true := rfl
@[simp] theorem Store.valid_unwritten (x : Store) : x.unwritten.valid = false := by simp [Store.valid, Store.unwritten]
@[simp] theorem Store.image_unwritten (x : Store) : x.unwritten.image = x.image := rfl
@[simp] theorem Store.readBack_unwritten (x : Store) : x.unwritten.readBack = false := rfl

theorem State.storeLaw_written (s : State) (i : Image) : ({ s with store := .written i } : State).storeLaw := fun _ => rfl
theorem State.storeLaw_unwritten (s : State) : ({ s with store := s.store.unwritten } : State).storeLaw :=
  fun h => nomatch h

end Sys2Proof.Machine
end

