-- ==== Sys2Proof/Tests/Slice0.lean ====
section
/-! SUPPORT. The model's own tests: the checks of WellFormed, small steps of the rows, the CRCs and the worked grades of
the spec, and for each statement of Obligations.lean states and operands that meet its hypotheses. -/

namespace Sys2Proof.Tests

set_option Elab.async false

open Sys2Proof.Machine

/-! ### Helpers -/

/-- The answer is a next state of which a check holds. -/
def gets (a : Answer) (p : State → Bool) : Bool := match a with | .next t => p t | .fault _ => false | .refused _ => false

/-- The answer is a stop under a name. -/
def stops (a : Answer) (f : Fault) : Bool := match a with | .fault g => g == f | .next _ => false | .refused _ => false

def graded (n : Nat) : GradeRecord := ⟨n, false, false, false, 0, 0, 0, 0, 0, 100, 0, 0, 5, 0, 1, 0, none⟩

def c40 : Candidate := { Candidate.fresh ⟨.ready, some 7, some 3, [256, 257], none, 0⟩ 0 with grade := some (graded 800) }
def c41 : Candidate := { Candidate.fresh ⟨.ready, some 7, some 5, [256], some 11, 0⟩ 0 with grade := some (graded 900) }
def c42 : Candidate :=
  { Candidate.fresh ⟨.survey, some 7, some 70, [1025], none, 0⟩ 0 with grade := some { graded 970 with survey := some (2, 6) } }

def svc7 : Service :=
  { Service.default 7 with
    cfg := { ServiceConfig.default 7 with state := .active, policy := .clean }, rank := [41, 40, 42], selected := some 40 }

def entry6 : SweepEntry := { SweepEntry.default 6 with cfg := { SweepConfig.default 6 with state := .enabled } }

def locked (p : Nat) : Port := { Port.default p with state := .locked, starvation := some 405 }

/-- An ACTIVE service 7 on candidate 40 of port 3, with 41 on port 5 and the survey candidate 42 of entry 6. -/
def plant : State :=
  { State.reset with
    now := 400, ports := [(3, locked 3), (5, locked 5)], services := [(7, svc7)]
    candidates := [(40, c40), (41, c41), (42, c42)]
    laneMap := [(0, some ⟨3, 256, 40, 0, some 4⟩), (1, some ⟨3, 257, 40, 1, none⟩), (2, some ⟨5, 256, 41, 0, some 4⟩),
      (3, some ⟨70, 1025, 42, 0, some 9⟩)]
    sweepList := [(6, entry6)], noticeQueue := [], faultSummary := 0, faultRecord := ⟨false, false, none⟩ }

def at7 (f : Service → Service) : State := plant.setService 7 (f svc7)
def at40 (f : Candidate → Candidate) : State := plant.setCandidate 40 (f c40)
def at3 (f : Port → Port) : State := plant.setPort 3 (f (locked 3))
def at12 (v : Option Visit) (held : Bool) : State := plant.setSweepPort 12 ⟨v, 6, held⟩

/-- Service 7 with a switch toward 41. -/
def armedFor (cause : SwitchCause) : State := at7 fun v => { v with armed := some ⟨41, cause, 500⟩ }

/-- A packet of a lane: counter, start flag, octet 3's adaptation control and the payload octets. -/
def packet (lane n : Nat) (start : Bool) (payload : List Byte) : Packet :=
  setSeq (BitVec.ofNat 4 n) (setLane lane ([0x47, 0, if start then 2 else 0, 0x04] ++ payload ++
    List.replicate (184 - payload.length) 0xFF))

def damagedPacket (lane : Nat) : Packet := (packet lane 5 false []).set 2 (BitVec.ofNat 8 (lane % 32 * 8 + 4))
def barePacket (lane n : Nat) : Packet := (packet lane n false []).set 3 (BitVec.ofNat 8 (n * 16))

/-- A command of tag 7. -/
def cmd (level : Nat) (body : List Byte) : Cmd := ⟨7, level, body⟩

def replied (code : Byte) (outcome : ReplyOutcome) (why : Reason) (body : List Byte) (s : State) : Bool :=
  s.replyInHand == some ⟨7, code, outcome, why, body⟩

theorem plant_service {j : Nat} (h : j ≠ 7) : plant.service j = Service.default j := by
  simp [State.service, plant, Table.get, Ne.symm h]

theorem at7_service {f : Service → Service} {j : Nat} (h : j ≠ 7) : (at7 f).service j = Service.default j := by
  rw [at7, State.service_setService_other _ _ _ _ h, plant_service h]

theorem plant_candidate {j : Nat} (h40 : j ≠ 40) (h41 : j ≠ 41) (h42 : j ≠ 42) : plant.candidate j = Candidate.default j := by
  simp [State.candidate, plant, Table.get, Ne.symm h40, Ne.symm h41, Ne.symm h42]

theorem plant_lanePlace {j : Nat} (h : 4 ≤ j) : plant.lanePlace j = none := by
  simp only [State.lanePlace, plant, Table.get]
  rw [if_neg (by omega), if_neg (by omega), if_neg (by omega), if_neg (by omega)]

/-- What `canonical` asks, on a state that saves nothing. -/
def canon (s : State) : Bool :=
  decide (Table.wf Port.default s.ports) && decide (Table.wf (fun _ => none) s.laneMap) &&
    decide (Table.wf Service.default s.services) && decide (Table.wf Candidate.default s.candidates) &&
    decide (Table.wf WeightSet.default s.weights) && decide (Table.wf SweepEntry.default s.sweepList) &&
    decide (Table.wf SweepPort.default s.sweepPorts) && decide (Table.wf DirContext.default s.contexts) &&
    decide (Table.wf (fun _ => none) s.snapshots) && s.store.image == Image.defaults && s.save.isNone

theorem canonical_of {s : State} (h : canon s = true) : s.canonical := by
  simp only [canon, Bool.and_eq_true, decide_eq_true_eq, beq_iff_eq, Option.isNone_iff_eq_none] at h
  obtain ⟨⟨⟨⟨⟨⟨⟨⟨⟨⟨h1, h2⟩, h3⟩, h4⟩, h5⟩, h6⟩, h7⟩, h8⟩, h9⟩, h10⟩, h11⟩ := h
  refine ⟨h1, h2, h3, h4, h5, h6, h7, h8, h9, ?_, fun i e => by rw [h11] at e; cases e⟩
  rw [h10]
  exact ⟨Table.wf_nil _, Table.wf_nil _, Table.wf_nil _, Table.wf_nil _, Table.wf_nil _⟩

theorem plant_takes : plant.takesCommand := ⟨rfl, rfl, rfl, rfl⟩

/-! ### WellFormed: each check refuses a term -/

theorem test_wf_port : (Instr.starvationTimerExpiry 15).wf = false ∧ (Instr.starvationTimerExpiry 14).wf = true := by decide
theorem test_wf_sweep_port : (Instr.settleTimerExpiry 14).wf = false ∧ (Instr.settleTimerExpiry 13).wf = true := by decide
theorem test_wf_service : (Instr.waitTimerExpiry 512).wf = false ∧ (Instr.waitTimerExpiry 511).wf = true := by decide
theorem test_wf_candidate :
    (Instr.directoryQuarantineRequest 2048).wf = false ∧ (Instr.directoryQuarantineRequest 2047).wf = true := by decide
theorem test_wf_entry : (Instr.surveyGraded 0 64).wf = false ∧ (Instr.surveyGraded 0 63).wf = true := by decide
theorem test_wf_slot : (Instr.forwardAdmission 0 8 true nullPacket).wf = false ∧
    (Instr.forwardAdmission 0 7 true nullPacket).wf = true := by decide +kernel
theorem test_wf_packet : (Instr.controlPacket [0x47]).wf = false ∧ (Instr.controlPacket nullPacket).wf = true := by decide +kernel
theorem test_wf_source : (Instr.classifyPacket 3 (some 4) 0 nullPacket).wf = false ∧
    (Instr.classifyPacket 3 none 0 nullPacket).wf = false ∧ (Instr.classifyPacket 12 none 0 nullPacket).wf = true := by decide +kernel
theorem test_wf_lock : (Instr.sweepMarginArrival 12 3).wf = false := by decide
theorem test_wf_gap : (Instr.measurementArrival ⟨0, 0, .gap, 0, false, 0⟩).wf = false ∧
    (Instr.measurementArrival ⟨0, 0, .inOrder, 1, false, 0⟩).wf = false := by decide
theorem test_wf_command : (Instr.identify (cmd 256 [])).wf = false ∧
    (Instr.identify (cmd 0 (List.replicate 177 0))).wf = false := by decide +kernel
theorem test_wf_notice : (Instr.noticePost (.portOutage 15) ⟨0, 0⟩).wf = false ∧
    (Instr.noticePost (.discovery 129) ⟨0, 0⟩).wf = false ∧ (Instr.noticePost (.advisory 0 0 0 0 1001 none) ⟨0, 0⟩).wf = false := by
  decide
theorem test_wf_fault : (Instr.faultRecord (.tunerLink 11 0)).wf = false ∧ (Instr.faultRecord (.changeFailed 0 10 0)).wf = false := by
  decide
theorem test_wf_dwell_end : (Instr.surveyGrading ⟨64, 12, 0, 0, .cleared, true⟩).wf = false := by decide
theorem test_wf_unknown : (Instr.unknownCommand ⟨0x7F, true, cmd 0 (List.replicate 177 0)⟩).wf = false := by decide +kernel

/-! ### CRCs, lanes and grades -/

theorem test_crc16 : crc16 [0x31, 0x32, 0x33, 0x34, 0x35, 0x36, 0x37, 0x38, 0x39] = 0x29B1 := by decide +kernel
theorem test_crc32 : crc32 [0x31, 0x32, 0x33, 0x34, 0x35, 0x36, 0x37, 0x38, 0x39] = 0x0376E6E7 := by decide +kernel
theorem test_null_packet : laneOf nullPacket = 8191 ∧ nullPacket.length = 188 ∧ seqOf nullPacket = 0 := by decide +kernel
theorem test_no_word_spells_a_command : decodeTableWord 16 0x1234 = none := rfl

/-- The survey grade of section 7.10: P 6,100, G 1, S 48, lowest margin 160, corrected sum 2,600 give 970. -/
theorem test_worked_survey_grade :
    (gradeRecord (WeightSet.default 0) 0 true true ⟨some 160, 2600, 0, false⟩ ⟨6100, 0, 1, 0, 48, 0⟩ 42 (some (0, 6))).grade
      = 970 := by decide


/-- The worked grades of section 4.8: candidates 40 (in a steady interval and silent), 41, 44 and 45. -/
theorem test_worked_grades :
    let g (hasLane : Bool) (r : MarginReadings) (m : Measurement) := gradeRecord (WeightSet.default 0) 0 true hasLane r m 12 none
    (g true ⟨some 85, 6400, 10, false⟩ ⟨30000, 3, 2, 0, 300, 0⟩).grade = 854 ∧
    (g true ⟨some 85, 6400, 10, false⟩ ⟨30000, 3, 2, 0, 373, 0⟩).grade = 0 ∧
    (g true ⟨some 85, 6400, 10, false⟩ ⟨30000, 3, 2, 0, 373, 0⟩).silent = true ∧
    (g true ⟨some 140, 3000, 0, false⟩ ⟨28000, 0, 0, 0, 40, 0⟩).grade = 989 ∧
    (g false .cleared ⟨12000, 0, 3, 0, 22, 0⟩).grade = 940 ∧
    (g true .cleared ⟨20000, 250, 0, 0, 31, 0⟩).grade = 675 ∧
    (g true .cleared ⟨20000, 250, 0, 0, 31, 0⟩).marginAbsent = true := by decide +kernel

/-! ### States and operands that meet the hypotheses of each statement -/

theorem none_all {α : Type} {o : Option α} {P : α → Prop} (h : o = none) : ∀ a, o = some a → P a := by
  intro a e; rw [h] at e; cases e

theorem some_all {α : Type} {o : Option α} {b : α} {P : α → Prop} (h : o = some b) (hb : P b) : ∀ a, o = some a → P a := by
  intro a e; rw [h] at e; cases e; exact hb

def atP (p : Nat) (f : Port → Port) : State := plant.setPort p (f (locked p))

/-- The part runs, and a port has a state and a count of good sync octets. -/
def stands (s : State) (p : Nat) (st : PortState) (n : Nat) : Bool :=
  s.phase == .running && decide (p < 15) && (s.port p).state == st && (s.port p).confirm == n

/-- Every queue full and every stopping counter at its top. -/
def full : State :=
  { plant with
    changes := List.replicate 32 ⟨1, 1, true, 7, [(4, 60)]⟩, visitQueue := List.range 8
    discoveries := List.replicate 128 ⟨3, 1, 1, 0, 0, 1⟩, forwardQueue := List.replicate 256 nullPacket
    insertQueue := List.replicate 12 ⟨nullPacket, .tap, 0⟩ ++ List.replicate 4 ⟨nullPacket, .report, 0⟩
    commandQueue := List.replicate 8 ⟨1, true, cmd 1 []⟩
    noticeQueue := List.replicate 64 ⟨.dark 7 0, ⟨0, 0⟩⟩, noticeLoss := 65535 }

theorem witness_ExecKeepsQueue : exec .applyChange plant = .next plant := rfl

theorem witness_WellFormedCommandsRun :
    (Instr.applyChange.wf = true) ∧ stops (exec (.syncSearchOctet 15 0 0) plant) .noSuchPort ∧
    stops (exec (.switchRestorationArrival 15) plant) .noSuchPort ∧
    stops (exec (.settleTimerExpiry 11) plant) .noSuchSweepPort ∧ stops (exec (.settleTimerExpiry 14) plant) .noSuchSweepPort ∧
    stops (exec (.surveyGrading ⟨6, 11, 0, 0, .cleared, true⟩) plant) .noSuchSweepPort ∧
    stops (exec (.waitTimerExpiry 512) plant) .noSuchService ∧ stops (exec (.switchRequest 512 2048 .pin) plant) .noSuchService ∧
    stops (exec (.directoryQuarantineRequest 2048) plant) .noSuchCandidate ∧
    stops (exec (.switchRequest 511 2048 .pin) plant) .noSuchCandidate ∧
    stops (exec (.measurementArrival ⟨2048, 8, .gap, 1, true, 0⟩) plant) .noSuchCandidate ∧
    stops (exec (.surveyGraded 511 64) plant) .noSuchSweepEntry ∧
    stops (exec (.surveyGrading ⟨64, 13, 0, 0, .cleared, true⟩) plant) .noSuchSweepEntry ∧
    stops (exec (.forwardAdmission 511 8 true nullPacket) plant) .noSuchSlot ∧
    stops (exec (.measurementArrival ⟨2047, 8, .gap, 1, true, 0⟩) plant) .noSuchSlot ∧
    stops (exec (.controlPacket (0 :: nullPacket)) plant) .notAPacket ∧
    stops (exec (.forwardAdmission 511 7 true nullPacket.tail) plant) .notAPacket ∧
    stops (exec (.directoryPacket 14 14 nullPacket.tail) plant) .notAPacket := by decide +kernel

theorem plant_placed : plant.placed := by
  have members : ∀ c, c = 40 ∨ c = 41 ∨ c = 42 → (plant.candidate c).cfg.state ≠ .free ∧
      (plant.candidate c).cfg.source ≠ none ∧ (plant.candidate c).cfg.owner = some 7 := by
    rintro c (rfl | rfl | rfl) <;> decide +kernel
  have free {c : Nat} (h : ¬(c = 40 ∨ c = 41 ∨ c = 42)) : (plant.candidate c).cfg = .free := by
    simp only [not_or] at h; rw [plant_candidate h.1 h.2.1 h.2.2]; rfl
  have known {c : Nat} (h : (plant.candidate c).cfg.state ≠ .free) : c = 40 ∨ c = 41 ∨ c = 42 := by
    by_contra hc; exact h (by rw [free hc]; rfl)
  have rank7 (c : Nat) : c ∈ (plant.service 7).rank ↔ c = 40 ∨ c = 41 ∨ c = 42 := by
    rw [show (plant.service 7).rank = [41, 40, 42] from by decide +kernel]
    simp only [List.mem_cons, List.not_mem_nil, or_false]; omega
  refine ⟨fun c h => ?_, fun c h => ?_, fun k => ?_, ⟨fun k c h => ?_, fun k a h => ?_⟩, ⟨by decide, fun c => ?_⟩, ?_, none_all rfl⟩
  · obtain ⟨-, source, owner⟩ := members c (known h)
    exact ⟨source, 7, owner, by decide +kernel⟩
  · by_cases hc : c = 40 ∨ c = 41 ∨ c = 42
    · exact absurd h (members c hc).1
    · rw [free hc]; rfl
  · by_cases hk : k = 7
    · subst hk
      refine ⟨by decide +kernel, by decide +kernel, fun c => ?_⟩
      rw [rank7]
      exact ⟨fun h => ⟨(members c h).1, (members c h).2.2⟩, fun h => known h.1⟩
    · rw [plant_service hk]
      refine ⟨List.nodup_nil, Nat.zero_le _, fun c => ⟨fun h => (nomatch h), fun h => ?_⟩⟩
      have owner := (members c (known h.1)).2.2
      rw [h.2] at owner
      exact absurd (Option.some.inj owner) hk
  · by_cases hk : k = 7
    · subst hk
      rw [show (plant.service 7).selected = some 40 from by decide +kernel] at h
      cases h
      exact (rank7 40).2 (.inl rfl)
    · rw [plant_service hk] at h; cases h
  · by_cases hk : k = 7
    · subst hk; rw [show (plant.service 7).armed = none from by decide +kernel] at h; cases h
    · rw [plant_service hk] at h; cases h
  · by_cases hc : c = 40 ∨ c = 41 ∨ c = 42
    · rcases hc with rfl | rfl | rfl <;> decide +kernel
    · rw [free hc]
      simp only [not_or] at hc
      simp [plant, placeOf, CandidateConfig.free, Ne.symm hc.1, Ne.symm hc.2.1, Ne.symm hc.2.2]
  · exact ⟨fun e h => (nomatch h), fun e h => (nomatch h), fun k => Nat.zero_le _, Nat.zero_le _⟩

theorem full_withinCapacity : full.withinCapacity := by
  simp only [State.withinCapacity, ← and_assoc]
  refine ⟨by decide +kernel, ?_⟩
  unfold State.countersStop; decide +kernel

theorem witness_CapacityKept :
    full.withinCapacity ∧ gets (step { full with pending := [.noticePost (.dark 7 0) ⟨0, 0⟩] }) (fun t => t.noticeLoss == 65535) ∧
    plant.canonical ∧ plant.placed ∧ gets (step { plant with pending := [.applyChange] }) (fun t => t == plant) :=
  ⟨full_withinCapacity, by decide +kernel, canonical_of (by decide +kernel), plant_placed, by decide +kernel⟩

theorem witness_CanonicalKept :
    plant.canonical ∧ gets (step { plant with pending := [.waitTimerExpiry 7] }) fun t => t.now == 400 :=
  ⟨canonical_of (by decide +kernel), by decide +kernel⟩

theorem witness_RecordLawsKept :
    State.reset.faultLaw ∧ plant.faultLaw ∧ full.visitLaw ∧
    ({ plant with tap := ⟨true, 13, none, 65535, 65534, 65535⟩ } : State).tapLaw ∧
    ({ plant with save := some Image.defaults } : State).saveLaw ∧
    ({ plant with store := .written Image.defaults } : State).storeLaw ∧
    gets (step { plant with pending := [.applyChange] }) fun t => t == plant := by
  refine ⟨⟨_, rfl, by decide⟩, rfl, ?_, ⟨fun _ => by decide, by decide, by decide⟩, fun _ => rfl, fun _ => Store.crc_written _,
    by decide +kernel⟩
  unfold State.visitLaw; decide +kernel

theorem witness_PartNotRunning :
    ({ plant with phase := .off } : State).phase ≠ .running ∧ ({ plant with phase := .starting } : State).phase ≠ .running ∧
    (Instr.waitTimerExpiry 511).wf = true ∧ actsWhenStopped (.waitTimerExpiry 511) = false ∧
    ({ plant with save := some Image.defaults } : State).saveLaw ∧
    ({ plant with save := some Image.defaults } : State).save.isSome = true :=
  ⟨by decide, by decide, by decide, rfl, fun _ => rfl, rfl⟩

/-- The stored image is the plant's own snapshot. -/
def saved : State := { plant with store := .written (takeSnapshot plant) }

/-- A start from it ranks 40, 41 and 42 in service 7 and gives their lanes places 0 to 3 (R30, R53). -/
theorem test_start_from_image :
    gets (exec .powerOn saved) fun t => (t.service 7).rank == [40, 41, 42] && t.lanePlace 1 == some ⟨3, 257, 40, 1, none⟩ &&
      t.lanePlace 3 == some ⟨70, 1025, 42, 0, none⟩ && (t.candidate 41).cfg.owner == some 7 := by decide +kernel

/-- An image whose CRC-32 is not over its contents is not valid, whatever its read-back (R168). -/
theorem test_crc_decides :
    (Store.written Image.defaults).valid = true ∧ ({ Store.written Image.defaults with crc := 0 } : Store).valid = false ∧
      ({ Store.written Image.defaults with readBack := false } : Store).valid = false := by decide +kernel

theorem witness_StartLoadsImage :
    plant.canonical ∧ plant.store.valid = false ∧ plant.phase ≠ .off ∧
    ({ plant with store := .written Image.defaults } : State).canonical ∧ Image.defaults.placed ∧ (0 < 15) ∧ (14 < 15) :=
  ⟨canonical_of (by decide +kernel), rfl, by decide, canonical_of (by decide +kernel), plant_placed.2.2.2.2.2.1, by decide, by decide⟩

/-- A restart reply of a given age at the head of the Insert Queue. -/
def restarting (age : Nat) (kind : RestartKind) (valid : Bool) (forwarded : List Packet) : State :=
  { plant with
    insertQueue := [⟨nullPacket, .restartReply, age⟩, ⟨nullPacket, .tap, 0⟩], restart := some kind
    forwardQueue := forwarded, store := if valid then .written Image.defaults else ⟨false, Image.defaults, 0⟩ }

theorem witness_RestartAtItsReply :
    let good (s : State) : Bool := s.phase == .running && (s.insertQueue.head?.map Insert.kind) == some .restartReply
    good (restarting 32 .soft true [nullPacket]) ∧ good (restarting 0 .soft true []) ∧ good (restarting 0 .hard true []) ∧
    (restarting 32 .soft true [nullPacket]).restart = some .soft ∧ (restarting 0 .hard true []).restart = some .hard ∧
    (restarting 0 .soft true []).store.valid = true ∧ 32 ≤ 32 ∧ (restarting 0 .hard true []).forwardQueue = [] := by
  decide +kernel

theorem witness_StartCompletes :
    let start : State := { at7 fun v => { v with selected := none, pinned := some 41 } with phase := .starting }
    let survey : State := start.setService 7 { svc7 with selected := none, pinned := some 42 }
    (start.phase = .starting ∧ start.canonical ∧ survey.canonical) ∧ (0 < 12) ∧ (11 < 12) ∧
    (start.candidate 40).cfg.state ≠ .free ∧ (start.service 7).cfg.state = .active ∧ (start.service 7).armed = none ∧
    (start.service 7).selected = none ∧ (start.service 7).pinned = some 41 ∧
    (41 ∈ (start.service 7).rank ∧ start.isReady 41 = true ∧ start.inOutage 41 = false) ∧ survey.isReady 42 = false ∧
    (survey.service 7).pinned = some 42 ∧ (start.service 511).pinned = none ∧ start.sweepPorts = [] ∧ start.visitQueue = [] ∧
    (start.port 12).cfg.enable = true ∧ (start.sweepEntry 6).cfg.state = .enabled ∧ (start.sweepEntry 6).cfg.affinity = .any ∧
    (∀ d < 6, (start.sweepEntry d).cfg.state ≠ .enabled) := by
  exact ⟨⟨rfl, canonical_of (by decide +kernel), canonical_of (by decide +kernel)⟩, by decide +kernel⟩

/-- At that completion SP0 takes entry 6, and SP1 finds none left (R121, R133). -/
theorem test_start_choice :
    gets (exec .startCompletion { plant with phase := .starting }) fun t =>
      t.visiting 12 == some 6 && t.visiting 13 == none := by decide +kernel

theorem witness_SearchAndConfirm :
    stands (atP 0 fun v => { v with state := .seeking }) 0 .seeking 0 ∧
    stands (atP 14 fun v => { v with state := .holdover }) 14 .holdover 0 ∧
    stands (atP 14 fun v => { v with state := .disabled }) 14 .disabled 0 ∧
    stands (atP 14 fun v => { v with state := .confirming, confirm := 1 }) 14 .confirming 1 ∧
    stands (atP 14 fun v => { v with state := .holdover, confirm := 1 }) 14 .holdover 1 ∧ ((0 : Byte) ≠ 0x47) := by
  decide +kernel

theorem witness_ThirdSyncOctetLocks :
    let out (p : Nat) := atP p fun v => { v with state := .confirming, confirm := 2, outage := true, lossStart := some 100 }
    stands (atP 0 fun v => { v with state := .confirming, confirm := 2 }) 0 .confirming 2 ∧
    stands (out 12) 12 .confirming 2 ∧ stands (out 13) 13 .confirming 2 ∧ stands (out 14) 14 .confirming 2 ∧
    stands (out 11) 11 .confirming 2 ∧ ((out 14).port 14).outage = true ∧ ((out 14).port 14).lossStart = some 100 ∧
    stands (atP 14 fun v => { v with state := .holdover, confirm := 2 }) 14 .holdover 2 ∧ (plant.port 0).outage = false := by
  decide +kernel

theorem witness_LockedBoundariesAndLoss :
    let s (n h : Nat) := atP 14 fun v => { v with badSync := n, cfg := { v.cfg with holdover := h } }
    let c (st : PortState) := atP 0 fun v => { v with state := st, confirm := 1 }
    stands (s 0 1) 14 .locked 0 ∧ ((s 1 1).port 14).badSync < 2 ∧ 2 ≤ ((s 2 1).port 14).badSync ∧
    1 ≤ ((s 2 1).port 14).cfg.holdover ∧ ((s 0 1).port 14).starvation = some 405 ∧
    stands (c .confirming) 0 .confirming 1 ∧ ((c .confirming).port 0).starvation = some 405 ∧
    stands (c .holdover) 0 .holdover 1 ∧ ((c .holdover).port 0).starvation = some 405 ∧ ((c .holdover).port 0).state ≠ .locked ∧
    (plant.port 0).starvation = none := by
  decide +kernel

theorem witness_LossBecomesOutage :
    let h (p : Nat) := atP p fun v => { v with state := .holdover, holdoverTimer := some 410 }
    let z (p : Nat) := atP p fun v => { v with badSync := 2, cfg := { v.cfg with holdover := 0 } }
    ((h 11).port 11).holdoverTimer = some 410 ∧ ((h 14).port 14).holdoverTimer = some 410 ∧
    ((h 12).port 12).holdoverTimer = some 410 ∧ ((h 13).port 13).holdoverTimer = some 410 ∧
    (plant.port 0).holdoverTimer = none ∧ stands (z 14) 14 .locked 0 ∧ 2 ≤ ((z 14).port 14).badSync ∧
    ((z 14).port 14).cfg.holdover = 0 ∧ ((z 14).port 14).starvation = some 405 ∧ stands (z 12) 12 .locked 0 ∧
    ((z 12).port 12).cfg.holdover = 0 ∧ ((z 12).port 12).starvation = some 405 := by
  decide +kernel

/-- A margin packet on lane 8190: tag, lock, margin 160, no corrected and no uncorrected count, sequence number. -/
def marginPacket (tag lock seq : Byte) : Packet := packet 8190 0 true [tag, lock, 0, 160, 0, 0, 0, 0, seq]

theorem witness_PacketAcceptance :
    let tapped : State := { plant with tap := ⟨true, 3, none, 10, 0, 0⟩ }
    let margin (tag lock : Byte) (q : Packet) : Bool := q.length == 188 && laneOf q == 8190 && !isDamaged q &&
      !saysNoPayload q && (marginFields q).tag == tag.toNat && (marginFields q).lock == lock.toNat
    (plant.port 14).state ≠ .locked ∧ laneOf nullPacket = 8191 ∧ stands plant 3 .locked 0 ∧ (plant.port 3).badSync = 0 ∧
    ((at3 fun v => { v with badSync := 1 }).port 3).badSync ≠ 0 ∧
    (packet 256 5 false []).length = 188 ∧ laneOf (packet 256 5 false []) = 256 ∧ (plant.port 3).cfg.marginLane = some 8190 ∧
    plant.tap.running = false ∧ (tapped.tap.running = true ∧ tapped.tap.port = 3) ∧
    (plant.port 3).cfg.marginLane ≠ some (laneOf (packet 8189 5 false [])) ∧ laneOf (packet 8190 5 false []) ≠ 8191 ∧
    (isDamaged (damagedPacket 8190) = true ∧ laneOf (damagedPacket 8190) = 8190 ∧ (damagedPacket 8190).length = 188) ∧
    (saysNoPayload (barePacket 8190 0) = true ∧ isDamaged (barePacket 8190 0) = false ∧ laneOf (barePacket 8190 0) = 8190) ∧
    margin 0xA5 2 (marginPacket 0xA5 2 9) ∧ (plant.port 3).lastMarginSeq ≠ some (marginFields (marginPacket 0xA5 2 9)).seq ∧
    ((at3 fun v => { v with lastMarginSeq := some 9 }).port 3).lastMarginSeq = some (marginFields (marginPacket 0xA5 2 9)).seq ∧
    margin 0xA4 2 (marginPacket 0xA4 2 9) ∧ margin 0xA5 3 (marginPacket 0xA5 3 9) ∧ stands (atP 12 id) 12 .locked 0 ∧
    ((atP 12 id).port 12).cfg.marginLane = some 8190 ∧ ((atP 12 id).port 12).lastMarginSeq = none := by
  decide +kernel

theorem witness_RetuneAndLeftLocked :
    let recv := plant.setDirContext 3 { plant.dirContext 3 with section_ := .receiving [0, 176] }
    plant.phase = .running ∧ plant.canonical ∧ plant.sourceOfPort 14 = some 14 ∧ plant.sourceOfPort 12 = none ∧
    (recv.dirContext 3).source = some 3 ∧ (recv.dirContext 3).section_ = .receiving [0, 176] ∧
    (plant.dirContext 0).source = some 0 ∧ (plant.dirContext 0).section_ = .none ∧ (plant.dirContext 12).source = none :=
  ⟨rfl, canonical_of (by decide +kernel), by decide +kernel⟩

theorem witness_RoutingWithoutHit :
    let noDir := at3 fun v => { v with cfg := { v.cfg with dirCheck := false } }
    ((packet 8160 0 false []).length = 188 ∧ laneOf (packet 8160 0 false []) = plant.settings.controlLane ∧
      laneOf (packet 0 0 true []) = 0 ∧ 0 ≠ plant.settings.controlLane ∧ (noDir.port 3).cfg.dirCheck = false ∧
      (plant.port 3).cfg.dirCheck = true ∧ isDamaged (damagedPacket 0) = true ∧ laneOf (damagedPacket 0) = 0 ∧
      isDamaged (packet 0 0 true []) = false ∧ ¬((3 : Nat) = 14 ∧ laneOf (packet 255 0 false []) = plant.settings.controlLane) ∧
      laneOf (packet 255 0 false []) ≠ 0) ∧
    ∀ e ∈ plant.laneMap, ∀ v, e.2 = some v → ¬(v.source = 3 ∧ v.lane = laneOf (packet 255 0 false [])) := by
  refine ⟨by decide +kernel, ?_⟩
  rw [show laneOf (packet 255 0 false []) = 255 from by decide +kernel]
  intro e he v hv
  simp only [plant, List.mem_cons, List.not_mem_nil, or_false] at he
  rcases he with rfl | rfl | rfl | rfl <;> cases hv <;> decide

theorem witness_HitMeasuredAndForwarded :
    let q (n : Nat) := packet 256 n false []
    let good (q : Packet) : Bool := q.length == 188 && laneOf q == 256 && !isDamaged q && !saysNoPayload q && !isDiscontinuous q
    let jump : Packet := (packet 256 7 false [1, 0x80]).set 3 0x7C
    good (q 4) ∧ good (q 5) ∧ good (q 3) ∧ good (q 6) ∧ seqOf (q 4) = 4 ∧ seqOf (q 5) = (4 + 1) % 16 ∧ seqOf (q 3) = 3 ∧
    lookupLane plant 3 256 = some (0, ⟨3, 256, 40, 0, some 4⟩) ∧ (plant.candidate 40).cfg.owner = some 7 ∧
    (256 ≠ plant.settings.controlLane) ∧ (plant.service 7).armed = none ∧ (plant.service 7).cfg.state = .active ∧
    (plant.service 7).selected = some 40 ∧
    (isDamaged (damagedPacket 256) = true ∧ laneOf (damagedPacket 256) = 256 ∧ (damagedPacket 256).length = 188) ∧
    (isDamaged (barePacket 256 9) = false ∧ saysNoPayload (barePacket 256 9) = true ∧ laneOf (barePacket 256 9) = 256) ∧
    (isDamaged jump = false ∧ saysNoPayload jump = false ∧ isDiscontinuous jump = true ∧ laneOf jump = 256) ∧
    lookupLane plant 3 257 = some (1, ⟨3, 257, 40, 1, none⟩) ∧ laneOf (packet 257 6 false []) = 257 := by
  decide +kernel

theorem witness_CleanPointCuts :
    let s := armedFor .challenge
    let i (cause : SwitchCause) := at7 fun v => { v with armed := some ⟨41, cause, 500⟩, cfg := { v.cfg with policy := .immediate } }
    let q (n : Nat) (start : Bool) := packet 256 n start []
    s.phase = .running ∧ (q 5 true).length = 188 ∧ laneOf (q 5 true) = 256 ∧ (5 : Nat) ≠ 14 ∧
    lookupLane s 5 256 = some (2, ⟨5, 256, 41, 0, some 4⟩) ∧ (s.candidate 41).cfg.owner = some 7 ∧
    (s.service 7).armed = some ⟨41, .challenge, 500⟩ ∧ (s.service 7).cfg.policy ≠ .immediate ∧
    ((i .pin).service 7).armed = some ⟨41, .pin, 500⟩ ∧ lookupLane (i .pin) 5 256 = some (2, ⟨5, 256, 41, 0, some 4⟩) ∧
    (((i .urgent).service 7).armed = some ⟨41, .urgent, 500⟩ ∧ ((i .urgent).service 7).cfg.policy = .immediate ∧
      lookupLane (i .urgent) 5 256 = some (2, ⟨5, 256, 41, 0, some 4⟩)) ∧
    isStart (q 5 true) = true ∧ (classify (some 4) (q 5 true)).1 = .inOrder ∧ (classify (some 4) (q 6 true)).1 = .gap ∧
    (classify none (q 6 true)).1 = .resumed ∧ isStart (q 5 false) = false ∧ (classify (some 4) (q 4 true)).1 = .duplicate ∧
    (classify (some 4) (damagedPacket 256)).1 = .damaged := by
  decide +kernel

/-- Under IMMEDIATE a damaged packet of the target makes the cut and is forwarded (R101). -/
theorem test_immediate_cut :
    gets (exec (.classifyPacket 5 (some 5) 400 (damagedPacket 256)) (at7 fun v =>
        { v with armed := some ⟨41, .urgent, 500⟩, cfg := { v.cfg with policy := .immediate } })) fun t =>
      (t.service 7).selected == some 41 && t.inFlight.length == 4 := by decide +kernel

theorem witness_MeasurementArrival :
    plant.phase = .running ∧ (plant.candidate 2047).cfg.state = .free ∧ (plant.candidate 40).cfg.state ≠ .free ∧ 2047 < 2048 ∧
    7 < 8 := by decide +kernel

theorem witness_IntervalGrading :
    let feed (p : Nat) := at40 fun x => { x with cfg := { x.cfg with source := some p } }
    let young (n : Nat) : State := { plant with now := n }
    (plant.phase = .running ∧ plant.gradingTimer = some 1000 ∧
      ((feed 0).candidate 40).cfg.source = some 0 ∧ ((feed 11).candidate 40).cfg.source = some 11 ∧
      ((feed 14).candidate 40).cfg.source = some 14 ∧ ((feed 14).candidate 40).cfg.state = .ready ∧
      (plant.candidate 42).cfg.state = .survey ∧ (plant.candidate 42).cfg.source = some 70 ∧
      ({ plant with gradingTimer := none } : State).gradingTimer = none ∧ (cmd 1 []).body = [] ∧
      250 ≤ (young 250).now - (young 250).intervalStart ∧ (young 249).now - (young 249).intervalStart < 250) ∧
    plant.canonical ∧ plant.takesCommand ∧ plant.admitsLevel 1 1 :=
  ⟨by decide +kernel, canonical_of (by decide +kernel), plant_takes, by unfold State.admitsLevel; decide⟩

/-- After a mark of both dwells has lost that of port 12, a grading of port 12 passes the candidate over and leaves the mark
of port 13; the candidate is graded once it is gone (R72, R73). -/
theorem test_mark_of_both_dwells :
    let graded (a b : Bool) (p : Candidate → Bool) : Bool := gets (exec (.surveyGrading ⟨6, 12, 390, 3, .cleared, true⟩)
      (plant.setCandidate 42 { c42 with discard12 := a, discard13 := b })) fun t => p (t.candidate 42)
    graded true true (· == { c42 with discard13 := true }) ∧ graded false true (· == { c42 with discard13 := true }) ∧
    graded true false (· == c42) ∧ graded false false fun x => x.grade != c42.grade && !x.discard13 := by decide +kernel

theorem witness_SurveyGrading :
    plant.phase = .running ∧ plant.canonical ∧ (plant.candidate 42).cfg.state = .survey ∧
    (plant.candidate 42).cfg.source = some (64 + 6) ∧ (plant.candidate 42).discard12 = false ∧
    (plant.candidate 42).discard13 = false ∧ (6 < 64) ∧ (63 < 64) ∧ (plant.candidate 40).cfg.state ≠ .survey :=
  ⟨rfl, canonical_of (by decide +kernel), by decide +kernel⟩

theorem witness_GradeArithmetic :
    let g (lane : Bool) (r : MarginReadings) (m : Measurement) := gradeRecord (WeightSet.default 0) 0 true lane r m 12 none
    (g false .cleared ⟨0, 0, 0, 0, 0, 0⟩).silent = true ∧ (g false ⟨none, 0, 0, true⟩ ⟨1, 0, 0, 0, 0, 0⟩).unlocked = true ∧
    (g true ⟨some 85, 0, 0, false⟩ ⟨1, 0, 47, 0, 0, 0⟩).grade = 0 ∧ (g true ⟨some 85, 0, 0, false⟩ ⟨1, 0, 47, 0, 0, 0⟩).silent = false ∧
    (g true .cleared ⟨1, 0, 40, 0, 300, 0⟩).grade = 0 ∧ (g true .cleared ⟨1, 0, 40, 0, 300, 0⟩).silent = false := by decide +kernel

/-- Service 7 DEFINED, its member 40 changed. -/
def defined7 (f : Candidate → Candidate) : State :=
  (at7 fun v => { v with cfg := { v.cfg with state := .defined } }).setCandidate 40 (f c40)

theorem witness_RankingOrders :
    let q (n : Nat) := defined7 fun x => { x with quarantine := some ⟨.flap, n⟩ }
    let flapped (n m : Nat) (b : Bool) := defined7 fun x => { x with flaps := n, decay := m, demoted := b }
    ((q 1).service 7).cfg.state = .defined ∧ ((q 1).service 7).rank.Nodup ∧ 40 ∈ ((q 1).service 7).rank ∧
    ((q 1).candidate 40).quarantine = some ⟨.flap, 1⟩ ∧ ((q 2).candidate 40).quarantine = some ⟨.flap, 2⟩ ∧
    ((flapped 3 59 true).candidate 40).demoted = true ∧ ((flapped 0 0 false).candidate 40).flaps = 0 ∧
    ((flapped 1 58 false).candidate 40).decay + 1 < plant.settings.flapDecay ∧
    plant.settings.flapDecay ≤ ((flapped 1 59 false).candidate 40).decay + 1 ∧
    (plant.service 511).cfg.state = .unused ∧ 44 ∉ ((q 1).service 7).rank ∧ [41, 40].Sublist ((q 1).service 7).rank ∧
    (q 1).eligible 41 = true := by decide +kernel

/-- The grade of 42 becomes `n`. -/
def survey42 (n : Nat) : State := plant.setCandidate 42 { c42 with grade := some (graded n) }

/-- The grade of 40 becomes `n`, its flap counter `f`. -/
def low40 (n f : Nat) : State := at40 fun x => { x with grade := some (graded n), flaps := f }

/-- A selection that falls below the minimum grade while 41 is eligible is charged a flap at the ranking, and quarantined
at the flap limit, its notice before the request; the best survey grade becomes the advisory (R83, R87, R131). -/
theorem test_flap_and_advisory_at_ranking :
    let ranked (s : State) (p : State → Bool) : Bool := gets (exec (.serviceGraded 7 0) s) fun t =>
      !t.inOutage 40 && t.firstEligible (t.service 7).rank [] == some 41 && p t
    ranked (low40 299 2) (fun t => !t.eligible 40 && (t.candidate 40).flaps == 3 && (t.candidate 40).demoted) ∧
    ranked (low40 299 3) (fun t => !t.eligible 40 && (t.candidate 40).quarantine == some ⟨.flap, 300⟩ &&
      t.inFlight == [.noticePost (.quarantined 40 .flap) ⟨0, 400⟩, .switchRequest 7 41 .urgent]) ∧
    ranked (survey42 1000) (fun t => (t.service 7).rank == [41, 40, 42] && (t.service 7).advisory == some 42 &&
      t.gradeOf 41 + t.settings.advisoryMargin == t.gradeOf 42 && t.inFlight.length == 1) ∧
    ranked (survey42 999) (fun t => (t.service 7).advisory == none && t.gradeOf 42 == 999) := by decide +kernel

theorem witness_SelectionDecision :
    let out (p : Nat) : State := plant.setPort p { plant.port p with outage := true }
    let none7 : State := (out 3).setPort 5 { locked 5 with outage := true }
    let even := plant.setCandidate 41 { c41 with grade := some (graded 849) }
    let edge := plant.setCandidate 41 { c41 with grade := some (graded 850) }
    let member (s : State) : Prop := ∀ c ∈ (s.service 7).selected.toList, c ∈ (s.service 7).rank ∧
      (s.candidate c).cfg.owner = some 7
    plant.phase = .running ∧ (member (low40 100 3) ∧ member (survey42 1000) ∧ member plant ∧ member even ∧ member edge ∧ member (out 3) ∧ member none7 ∧
      member (armedFor .challenge)) ∧ (plant.service 7).cfg.state = .active ∧ (plant.service 7).rank.Nodup ∧
    (∀ c ∈ (plant.service 7).rank, (plant.candidate c).quarantine = none) ∧
    plant.firstEligible (plant.service 7).rank [] = some 41 ∧ plant.eligible 40 = true ∧ (plant.service 7).selected = some 40 ∧
    even.gradeOf 41 < even.gradeOf 40 + 50 ∧ edge.gradeOf 40 + (edge.service 7).cfg.hysteresis ≤ edge.gradeOf 41 ∧
    edge.eligible 41 = true ∧ none7.firstEligible [41, 40, 42] [] = none ∧ (out 3).eligible 40 = false ∧
    (out 3).firstEligible [41, 40, 42] [] = some 41 ∧ ((at7 fun v => { v with selected := none }).service 7).selected = none ∧
    ((at7 fun v => { v with pinned := some 40 }).service 7).pinned.isSome = true ∧
    ((armedFor .challenge).service 7).armed.isSome = true ∧ ((at7 fun v => { v with dark := true }).service 7).dark = true ∧
    ((at7 fun v => { v with challenger := some 41, streak := 2 }).service 7).cfg.confirm = 3 ∧
    (∀ c ∈ ((armedFor .challenge).service 7).rank, ((armedFor .challenge).candidate c).quarantine = none) := by
  decide +kernel

theorem witness_AdvisoryCheck :
    let shown (s : State) (c : Nat) : Prop := (s.candidate c).cfg.state = .survey ∧ (s.candidate c).quarantine = none ∧
      ∃ g, (s.candidate c).grade = some g ∧ g.silent = false ∧ g.unlocked = false
    let best (s : State) (c x : Nat) : Prop := ∃ l r, (s.service 7).rank = l ++ c :: r ∧ shown s c ∧
      (s.candidate c).cfg.source = some (64 + x) ∧
      (∀ b ∈ l, shown s b → s.gradeOf b < s.gradeOf c) ∧ (∀ b ∈ r, shown s b → s.gradeOf b ≤ s.gradeOf c)
    (∀ n, best (survey42 n) 42 6) ∧ ((survey42 999).firstEligible [41, 40, 42] [] = some 41 ∧
      ¬((survey42 999).gradeOf 41 + (survey42 999).settings.advisoryMargin ≤ (survey42 999).gradeOf 42) ∧
      (survey42 1000).gradeOf 41 + (survey42 1000).settings.advisoryMargin ≤ (survey42 1000).gradeOf 42 ∧
      (plant.service 511).cfg.state ≠ .active ∧ (plant.service 7).advisory ≠ some 42 ∧
      ((at7 fun v => { v with advisory := some 42 }).service 7).advisory = some 42) ∧
    (∀ c ∈ ((at7 fun v => { v with rank := [41, 40] }).service 7).rank, ¬shown plant c) := by
  refine ⟨?_, by decide +kernel, ?_⟩
  · intro n
    refine ⟨[41, 40], [], rfl, ⟨?_, ?_, graded n, ?_, rfl, rfl⟩, ?_, ?_, by simp⟩
    · rw [survey42, State.candidate_setCandidate_same]; rfl
    · rw [survey42, State.candidate_setCandidate_same]; rfl
    · rw [survey42, State.candidate_setCandidate_same]
    · rw [survey42, State.candidate_setCandidate_same]; rfl
    · intro b hb h
      simp only [List.mem_cons, List.not_mem_nil, or_false] at hb
      rcases hb with rfl | rfl <;> · rw [survey42, State.candidate_setCandidate_other _ _ _ _ (by decide)] at h; cases h.1
  · intro c hc h
    have hr : ((at7 fun v => { v with rank := [41, 40] }).service 7).rank = [41, 40] := by decide +kernel
    rw [hr] at hc
    simp only [List.mem_cons, List.not_mem_nil, or_false] at hc
    rcases hc with rfl | rfl <;> cases h.1

theorem witness_RankingArrivals :
    (plant.service 7).cfg.state = .active ∧ (plant.service 7).dark = false ∧ (plant.service 511).cfg.state ≠ .active ∧
    ((at7 fun v => { v with dark := true }).service 7).dark = true ∧ plant.phase = .running := by decide +kernel

/-- Port 3 in outage, and the flap count of 40. -/
def flapped40 (n : Nat) (f : Service → Service) : State :=
  ((at7 f).setPort 3 { locked 3 with outage := true }).setCandidate 40 { c40 with flaps := n }

theorem flapped40_service {n : Nat} {f : Service → Service} {j : Nat} (h : j ≠ 7) :
    (flapped40 n f).service j = Service.default j := at7_service h

theorem witness_OutageDemotion :
    let s (n : Nat) := flapped40 n id
    let other := flapped40 2 fun v => { v with selected := some 41 }
    let alone := flapped40 2 fun v => { v with rank := [40, 42] }
    let on (s : State) (k : Nat) : Prop := (s.service k).cfg.state = .active ∧ (s.service k).pinned = none ∧
      ∃ c, (s.service k).selected = some c ∧ (s.candidate c).cfg.source = some 3
    (((s 2).port 3).outage = true ∧ ((s 2).candidate 40).quarantine = none ∧ ((s 2).service 7).armed = none ∧
      ((s 2).candidate 40).flaps + 1 < (s 2).settings.flapLimit ∧ (s 3).settings.flapLimit ≤ ((s 3).candidate 40).flaps + 1 ∧
      (s 2).firstEligible [41, 40, 42] [40] = some 41 ∧ (s 3).firstEligible [41, 40, 42] [40] = some 41 ∧
      alone.firstEligible [40, 42] [40] = none ∧ (alone.service 7).dark = false ∧ ((s 3).candidate 40).cfg.owner = some 7) ∧
    (s 2).canonical ∧ on (s 2) 7 ∧ (∀ j, on (s 2) j → j = 7) ∧ (∀ j, ¬on other j) := by
  refine ⟨by decide +kernel, canonical_of (by decide +kernel), ⟨by decide +kernel, by decide +kernel, 40, by decide +kernel⟩,
    ?_, ?_⟩
  · intro j h
    by_contra hj
    rw [flapped40_service hj] at h
    cases h.1
  · intro j h
    by_cases hj : j = 7
    · subst hj
      obtain ⟨-, -, c, hc, hs⟩ := h
      rw [show ((flapped40 2 fun v => { v with selected := some 41 }).service 7).selected = some 41 from by decide +kernel] at hc
      cases hc
      rw [show ((flapped40 2 fun v => { v with selected := some 41 }).candidate 41).cfg.source = some 5 from by decide +kernel] at hs
      cases hs
    · rw [flapped40_service hj] at h
      cases h.1

theorem witness_QuarantineEntry :
    let held (n : Nat) := at40 fun x => { x with quarantine := some ⟨.manual, n⟩ }
    let alone := at7 fun v => { v with rank := [40, 42], pinned := some 40 }
    let toward (cause : SwitchCause) (rank : List Nat) := at7 fun v =>
      { v with rank := rank, pinned := some 41, armed := some ⟨41, cause, 500⟩ }
    ((plant.candidate 2047).cfg.state = .free ∧ (plant.candidate 2047).quarantine = none ∧
      ((held 299).candidate 40).quarantine = some ⟨.manual, 299⟩ ∧ ((held 300).candidate 40).quarantine = some ⟨.manual, 300⟩ ∧
      (plant.candidate 41).cfg.state = .ready ∧ (plant.candidate 41).quarantine = none ∧
      (plant.candidate 41).cfg.owner = some 7 ∧ (plant.service 7).selected ≠ some 41 ∧ (plant.service 7).pinned ≠ some 41 ∧
      (plant.candidate 40).cfg.state = .ready ∧ (plant.service 7).cfg.state = .active ∧
      (plant.service 7).selected = some 40 ∧ (plant.service 7).pinned = none ∧ (plant.service 7).armed = none ∧
      plant.firstEligible (plant.service 7).rank [40] = some 41 ∧
      (cmd 1 (be16 41 ++ be16 65535)).body = be16 41 ++ be16 65535 ∧ (1 ≤ 1 ∧ 65535 < 65536) ∧
      ((held 1).candidate 40).quarantine.isSome = true) ∧
    ((alone.service 7).pinned = some 40 ∧ alone.firstEligible [40, 42] [40] = none ∧ (alone.service 7).dark = false ∧
      ((toward .first [41, 40]).service 7).armed = some ⟨41, .first, 500⟩ ∧
      ((toward .pin [41, 40]).service 7).armed = some ⟨41, .pin, 500⟩ ∧
      ((toward .urgent [41, 40]).service 7).armed = some ⟨41, .urgent, 500⟩ ∧
      (toward .urgent [41, 40]).firstEligible [41, 40] [41, 40] = none ∧
      (at7 fun v => { v with selected := none, armed := some ⟨41, .urgent, 500⟩ }).firstEligible [41, 40, 42] [41] = some 40) ∧
    (∀ a, (plant.service 7).armed = some a → a.target ≠ 41) ∧ plant.takesCommand ∧ (held 1).takesCommand ∧
    plant.admitsLevel 1 1 :=
  ⟨by decide +kernel, by decide +kernel, none_all (by decide +kernel), plant_takes, ⟨rfl, rfl, rfl, rfl⟩,
    by unfold State.admitsLevel; decide⟩

theorem witness_SwitchArming :
    let taken (s : State) (x : Nat) (cause : SwitchCause) : Bool := (s.service 7).cfg.state == .active &&
      ((s.service 7).pinned.isNone || cause == .pin) && (s.service 7).rank.contains x && s.isReady x &&
      (s.service 7).selected != some x && !s.inOutage x
    let pinned := at7 fun v => { v with pinned := some 40 }
    let alone := at7 fun v => { v with rank := [40, 42] }
    plant.phase = .running ∧ taken plant 41 .challenge = true ∧ (plant.service 7).armed = none ∧
    taken plant 40 .challenge = false ∧ taken pinned 41 .urgent = false ∧ (pinned.service 7).pinned ≠ none ∧
    taken pinned 41 .pin = true ∧ taken alone 42 .urgent = false ∧
    alone.firstEligible (alone.service 7).rank [42, 40] = none ∧ taken plant 42 .urgent = false ∧
    plant.firstEligible (plant.service 7).rank [42, 40] = some 41 ∧ taken (armedFor .challenge) 41 .urgent = true ∧
    ((armedFor .challenge).service 7).armed = some ⟨41, .challenge, 500⟩ ∧
    taken ((armedFor .challenge).setService 7 { svc7 with selected := some 42, armed := some ⟨41, .first, 500⟩ }) 40 .first = true ∧
    (armedFor .challenge).settings.urgentWait < 500 - (armedFor .challenge).now := by decide +kernel

theorem witness_SwitchCancellation :
    let s (cause : SwitchCause) := armedFor cause
    let alone := at7 fun v => { v with rank := [41, 42], armed := some ⟨41, .urgent, 500⟩ }
    let low := (s .urgent).setCandidate 41 { c41 with grade := some (graded 299) }
    (((s .urgent).service 7).armed = some ⟨41, .urgent, 500⟩ ∧ (s .urgent).eligible 41 = true ∧ low.eligible 41 = false ∧
      (low.service 7).armed = some ⟨41, .urgent, 500⟩ ∧ ((s .pin).service 7).armed = some ⟨41, .pin, 500⟩ ∧
      (at7 fun v => { v with selected := none, armed := some ⟨41, .urgent, 500⟩ }).firstEligible [41, 40, 42] [41] = some 40 ∧
      alone.firstEligible [41, 42] [41, 40] = none ∧ ((s .urgent).candidate 41).cfg.source = some 5 ∧
      (plant.service 511).armed = none) ∧ (s .urgent).canonical ∧
    (∀ j b, ((s .urgent).service j).armed = some b → ((s .urgent).candidate b.target).cfg.source = some 5 → j = 7) ∧
    (∀ j b, (plant.service j).armed = some b → (plant.candidate b.target).cfg.source ≠ some 14) := by
  refine ⟨by decide +kernel, canonical_of (by decide +kernel), ?_, ?_⟩
  · intro j b h _
    by_contra hj
    change ((armedFor .urgent).service j).armed = some b at h
    rw [armedFor, at7_service hj] at h
    cases h
  · intro j b h
    by_cases hj : j = 7
    · subst hj; rw [show (plant.service 7).armed = none from by decide +kernel] at h; cases h
    · rw [plant_service hj] at h; cases h

theorem witness_PinnedTakenUp :
    let s (c : Nat) := at7 fun v => { v with selected := none, pinned := some c }
    ((s 41).service 7).cfg.state = .active ∧ ((s 41).service 7).armed = none ∧ ((s 41).service 7).selected = none ∧
    ((s 41).service 7).pinned = some 41 ∧ 41 ∈ ((s 41).service 7).rank ∧ (s 41).isReady 41 = true ∧
    (s 41).inOutage 41 = false ∧ ((s 42).service 7).pinned = some 42 ∧ (s 42).isReady 42 = false ∧
    (plant.service 7).selected ≠ none ∧ (plant.service 511).cfg.state ≠ .active := by decide +kernel

theorem witness_WaitExpiry :
    let s (n : Nat) := at7 fun v => { v with armed := some ⟨41, .challenge, 500⟩, attempts := n }
    (plant.service 7).armed = none ∧ ((armedFor .urgent).service 7).armed = some ⟨41, .urgent, 500⟩ ∧
    ((s 1).service 7).armed = some ⟨41, .challenge, 500⟩ ∧ ((s 1).service 7).cfg.policy = .clean ∧
    ((s 1).service 7).attempts + 1 < ((s 1).service 7).cfg.retryLimit ∧
    ((s 2).service 7).cfg.retryLimit ≤ ((s 2).service 7).attempts + 1 := by decide +kernel

theorem witness_PinAndRelease :
    let d := at7 fun v => { v with cfg := { v.cfg with state := .defined } }
    let held (cause : SwitchCause) := at7 fun v => { v with pinned := some 40, armed := some ⟨41, cause, 500⟩ }
    (plant.takesCommand ∧ d.takesCommand ∧ (held .urgent).takesCommand ∧ plant.admitsLevel 1 1) ∧
    ((cmd 1 (be16 7 ++ be16 40)).body = be16 7 ++ be16 40 ∧ (d.service 7).cfg.state ≠ .active ∧
      (40 ∈ (plant.service 7).rank ∧ plant.isReady 40 = true ∧ plant.inOutage 40 = false) ∧
      plant.isReady 42 = false ∧ (plant.service 7).selected = some 40 ∧ (plant.service 7).armed = none ∧
      ((held .urgent).service 7).armed = some ⟨41, .urgent, 500⟩ ∧
      (plant.service 7).selected ≠ some 41 ∧ plant.isReady 41 = true ∧ (plant.service 7).pinned = none ∧
      ((held .urgent).service 7).pinned.isSome = true ∧ ((held .pin).service 7).armed = some ⟨41, .pin, 500⟩) ∧
    (∀ a, ((held .urgent).service 7).armed = some a → a.cause ≠ .pin) :=
  ⟨⟨plant_takes, ⟨rfl, rfl, rfl, rfl⟩, ⟨rfl, rfl, rfl, rfl⟩, by unfold State.admitsLevel; decide⟩, by decide +kernel,
    some_all (b := ⟨41, .urgent, 500⟩) (by decide +kernel) (by decide)⟩

/-- A posted SERVICE change of service 7 at the head of the list. -/
def change7 (fields : List (Nat × Nat)) (f : Service → Service) : State :=
  { at7 f with changes := [⟨9, 1, true, 7, fields⟩] }

theorem witness_ServiceChange :
    let d (v : Service) : Service := { v with cfg := { v.cfg with state := .defined } }
    let lane (n : Nat) : State := { change7 [(4, 60)] id with settings := { Settings.default with controlLane := n } }
    let r (s : State) (fields : List (Nat × Nat)) := formService (s.service 7).cfg fields
    let c : State := change7 [(4, 60)] id
    (plant.changes = [] ∧ ({ plant with headHeld := true } : State).headHeld = true ∧
      c.changes = [⟨9, 1, true, 7, [(4, 60)]⟩] ∧ c.headHeld = false ∧
      ((change7 [(4, 60)] fun v => { v with armed := some ⟨41, .first, 500⟩ }).service 7).armed.isSome = true ∧
      ((armedFor .first).candidate 40).cfg.owner = some 7 ∧ (c.service 7).armed = none ∧
      (r (lane 88) [(4, 60)]).base ≤ (lane 88).settings.controlLane ∧
      (lane 95).settings.controlLane ≤ (r (lane 95) [(4, 60)]).base + 7 ∧
      (r plant [(1, 0)]).state = .unused ∧ (plant.service 7).rank ≠ [] ∧
      ((at7 fun v => { v with rank := [] }).service 7).rank = [] ∧
      (r plant [(1, 1)]).state = .defined ∧ (plant.service 7).cfg.state = .active ∧
      ((change7 [(1, 2)] d).service 7).cfg.state = .defined ∧ (r plant [(1, 2)]).state = .active ∧
      (plant.service 7).pinned = none ∧ ((at7 fun v => { d v with pinned := some 40 }).service 7).pinned.isSome = true) ∧
    c.canonical ∧
    (let b := (r (lane 96) [(4, 60)]).base
     ¬((b ≤ 96 ∧ 96 ≤ b + 7) ∨ (b ≤ 8161 ∧ 8161 ≤ b + 7) ∨ (b ≤ 8162 ∧ 8162 ≤ b + 7) ∨
      ∃ j, j ≠ 7 ∧ ((lane 96).service j).cfg.state ≠ .unused ∧ b ≤ ((lane 96).service j).cfg.base + 7 ∧
        ((lane 96).service j).cfg.base ≤ b + 7)) := by
  refine ⟨by decide +kernel, canonical_of (by decide +kernel), ?_⟩
  intro b h
  have hb : b = 88 := by decide +kernel
  rw [hb] at h
  rcases h with h | h | h | ⟨j, hj, h, -⟩
  · omega
  · omega
  · omega
  · exact h (congrArg (fun v : Service => v.cfg.state) (at7_service (f := id) hj))

/-- A listed place of a table is one of its entries. -/
theorem mem_of_get {t : Table (Option LaneEntry)} {i : Nat} {e : LaneEntry}
    (h : Table.get (fun _ => none) t i = some e) : (i, some e) ∈ t := by
  induction t with
  | nil => cases h
  | cons a t ih =>
    obtain ⟨j, v⟩ := a
    rw [Table.get] at h
    split at h
    · rename_i hj; subst hj; subst h; exact List.mem_cons_self
    · exact List.mem_cons_of_mem _ (ih h)

theorem plant_lanes {i : Nat} {e : LaneEntry} (h : plant.lanePlace i = some e) :
    e.candidate ≠ 44 ∧ e.lane ≠ 300 ∧ e.source ≠ 14 ∧ e.lane ≠ 8189 := by
  have m := mem_of_get h
  simp only [plant, List.mem_cons, List.not_mem_nil, or_false, Prod.mk.injEq, Option.some.injEq] at m
  rcases m with ⟨-, rfl⟩ | ⟨-, rfl⟩ | ⟨-, rfl⟩ | ⟨-, rfl⟩ <;> decide

/-- A Lane Map with every place taken. -/
@[irreducible] def placesTo (n : Nat) : Table (Option LaneEntry) := (List.range n).map fun i => (i, some ⟨0, i, 41, 0, none⟩)

theorem placesTo_mem {n : Nat} {e : Nat × Option LaneEntry} (h : e ∈ placesTo n) : e.2 = some ⟨0, e.1, 41, 0, none⟩ := by
  simp only [placesTo, List.mem_map] at h
  obtain ⟨i, -, rfl⟩ := h
  rfl

theorem placesTo_wf (n : Nat) : Table.wf (fun _ => none) (placesTo n) := by
  refine ⟨?_, fun e he => by simp [placesTo_mem he]⟩
  rw [placesTo, List.map_map, show (Prod.fst ∘ fun i => (i, some (LaneEntry.mk 0 i 41 0 none))) = id from rfl, List.map_id]
  exact List.pairwise_lt_range

theorem placesTo_length (n : Nat) : (placesTo n).length = n := by simp [placesTo]

def fullMap : State := { plant with laneMap := placesTo 4096 }

/-- The posted change by which candidate 44 joins service `k` with lane `lane` of source `p`. -/
def joins (s : State) (k p lane : Nat) : State :=
  { s with changes := [⟨9, 1, false, 44, [(1, 1), (2, k), (3, p), (4, 1), (5, lane)]⟩] }

theorem fullMap_canonical : (joins fullMap 7 9 300).canonical := by
  have h := canonical_of (s := plant) (by decide +kernel)
  exact ⟨h.1, placesTo_wf 4096, h.2.2⟩

theorem witness_CandidateChange :
    let noJoin (s : State) : Prop := ∀ i e, s.lanePlace i = some e → e.candidate ≠ 44
    let taken (s : State) (p lane : Nat) : Prop := (∃ i e, s.lanePlace i = some e ∧ e.source = p ∧ e.lane = lane) ∨
      (p < 12 ∧ (s.port p).cfg.marginLane = some lane) ∨ (p = 14 ∧ s.settings.controlLane = lane)
    let free : State := { plant with changes := [⟨9, 1, false, 41, [(1, 0)]⟩] }
    (plant.phase = .running ∧ (joins plant 7 9 300).headHeld = false ∧
      (joins plant 7 9 300).candidate 44 = Candidate.default 44 ∧ ((joins plant 7 9 300).service 7).armed = none ∧
      (plant.service 511).cfg.state = .unused ∧ (plant.service 511).armed = none ∧
      (plant.service 7).cfg.state ≠ .unused ∧ 11 < 12 ∧ 14 < 15 ∧ (plant.service 7).rank.length < 6 ∧
      6 ≤ ((at7 fun v => { v with rank := [41, 40, 42, 43, 45, 46] }).service 7).rank.length ∧
      (joins plant 7 9 300).laneMap.length ≤ 4096 ∧ plant.laneMap.length < 4096 ∧ plant.lanePlace 4 = none ∧
      (∀ j < 4, plant.lanePlace j ≠ none) ∧ free.changes = [⟨9, 1, false, 41, [(1, 0)]⟩] ∧
      (plant.candidate 40).cfg.state ≠ .free ∧ (plant.candidate 40).cfg.source ≠ none ∧
      (plant.candidate 40).cfg.owner = some 7 ∧ (plant.service 7).selected = some 40 ∧ (plant.service 7).selected ≠ some 41) ∧
    (taken plant 3 256 ∧ taken plant 11 8190 ∧ taken plant 14 8160 ∧ ¬taken plant 9 300 ∧ ¬taken plant 14 300) ∧
    ((joins plant 7 9 300).canonical ∧ noJoin (joins plant 7 9 300)) ∧
    (joins fullMap 7 9 300).canonical ∧ noJoin (joins fullMap 7 9 300) ∧ ¬taken fullMap 9 300 ∧
      fullMap.laneMap.length = 4096 := by
  have hp (p : Nat) (hp : p = 9 ∨ p = 14) : ¬((∃ i e, plant.lanePlace i = some e ∧ e.source = p ∧ e.lane = 300) ∨
      (p < 12 ∧ (plant.port p).cfg.marginLane = some 300) ∨ (p = 14 ∧ plant.settings.controlLane = 300)) := by
    rintro (⟨i, e, h, -, hl⟩ | ⟨-, h⟩ | ⟨-, h⟩)
    · exact (plant_lanes h).2.1 hl
    · rcases hp with rfl | rfl
      · rw [show (plant.port 9).cfg.marginLane = some 8190 from by decide +kernel] at h; simp at h
      · rw [show (plant.port 14).cfg.marginLane = none from by decide +kernel] at h; simp at h
    · rw [show plant.settings.controlLane = 8160 from rfl] at h; omega
  have hf {i : Nat} {e : LaneEntry} (h : fullMap.lanePlace i = some e) : e.source = 0 ∧ e.candidate = 41 := by
    have m := placesTo_mem (n := 4096) (mem_of_get h)
    rw [Option.some.inj m]
    exact ⟨rfl, rfl⟩
  refine ⟨by decide +kernel, ⟨.inl ⟨0, _, rfl, rfl, rfl⟩, .inr (.inl ⟨by decide, by decide +kernel⟩), .inr (.inr ⟨rfl, rfl⟩),
    hp 9 (.inl rfl), hp 14 (.inr rfl)⟩, ⟨canonical_of (by decide +kernel), fun i e h => (plant_lanes h).1⟩,
    fullMap_canonical, ?_, ?_, placesTo_length 4096⟩
  · intro i e h; rw [(hf (i := i) (e := e) h).2]; decide
  · rintro (⟨i, e, h, hs, -⟩ | ⟨-, h⟩ | ⟨h, -⟩)
    · rw [(hf h).1] at hs; cases hs
    · rw [show (fullMap.port 9).cfg.marginLane = some 8190 from by decide +kernel] at h; simp at h
    · omega

/-- The posted change `fields` of a candidate, with service 9 DEFINED and, on entry 6, a dwell of port 12. -/
def changing (c : Nat) (fields : List (Nat × Nat)) (f : Candidate → Candidate) : State :=
  { ((at40 f).setService 9 { Service.default 9 with cfg := { ServiceConfig.default 9 with state := .defined } }).setSweepPort 12
      ⟨some ⟨6, false, .dwelling 900⟩, 6, false⟩ with changes := [⟨9, 1, false, c, fields⟩] }

/-- Where a change of candidate 40 or 42 meets the hypotheses of CandidateChange: to BARRED, to owner 9, to another source
or lane, also when QUARANTINED, and each reason to fail. -/
theorem witness_CandidateChange_kept :
    let moved := changing 40 [(2, 9), (14, 1)] id
    let r (c : Nat) (fields : List (Nat × Nat)) : CandidateConfig := formCandidate (plant.candidate c).cfg fields
    (moved.phase = .running ∧ moved.headHeld = false ∧ (moved.candidate 40).cfg.state ≠ .free ∧
      (moved.candidate 40).cfg.owner = some 7 ∧ (moved.service 7).armed = none ∧ (moved.service 9).armed = none ∧
      (moved.service 9).cfg.state ≠ .unused ∧ (moved.service 9).rank.length < 6 ∧ (moved.service 10).cfg.state = .unused) ∧
    (r 40 [(2, 9), (14, 1)] = ⟨.ready, some 9, some 3, [256, 257], none, 1⟩ ∧ (r 40 [(1, 4)]).state = .barred ∧
      (r 40 [(3, 14)]).source = some 14 ∧ (r 42 [(4, 1), (5, 1500)]).lanes = [1500] ∧ (r 40 [(2, 10)]).owner = some 10 ∧
      ¬((r 40 [(1, 2)]).state = .survey → 64 ≤ 3) ∧
      (∃ e, plant.lanePlace 2 = some e ∧ e.source = 5 ∧ e.lane = 256 ∧ e.candidate ≠ 40) ∧
      256 ∈ (r 40 [(3, 5)]).lanes ∧ 4096 + 1 < 4096 + (r 42 [(4, 2), (5, 1), (6, 2)]).lanes.length) ∧
    moved.canonical ∧ moved.laneMapLaw := by
  refine ⟨by decide +kernel, ⟨by decide +kernel, by decide +kernel, rfl, by decide +kernel, rfl, ?_, ⟨_, rfl, rfl, rfl, by decide⟩,
    by decide +kernel⟩, canonical_of (by decide +kernel), ?_⟩
  · decide +kernel
  · refine ⟨by decide +kernel, fun c => ?_⟩
    have h := plant_placed.2.2.2.2.1.2 c
    rwa [show (changing 40 [(2, 9), (14, 1)] id).candidate c = plant.candidate c from ?_]
    by_cases hc : c = 40
    · subst hc; decide +kernel
    · exact State.candidate_setCandidate_other plant 40 c c40 hc

/-- A Lane Map filled by candidate 41, with candidate 40 not FREE and without lanes. -/
def crowded : State :=
  { plant with
    laneMap := placesTo 4096
    candidates := [(40, { c40 with cfg := { c40.cfg with lanes := [] } }),
      (41, { c41 with cfg := { c41.cfg with lanes := (placesTo 4096).map Prod.fst } })]
    services := [(7, svc7), (9, { svc7 with rank := [1, 2, 3, 4, 5, 6] })]
    changes := [⟨9, 1, false, 40, [(4, 1), (5, 300)]⟩] }

theorem crowded_filter (c : Nat) : ((placesTo 4096).filter fun e => placeOf c e.2).length = if c = 41 then 4096 else 0 := by
  split
  · rename_i h
    rw [List.filter_eq_self.mpr fun e he => by rw [placesTo_mem he, h]; rfl, placesTo_length]
  · rename_i h
    rw [List.filter_eq_nil_iff.mpr fun e he => ?_]
    · rfl
    · rw [placesTo_mem he]; simp [placeOf, Ne.symm h]

theorem crowded_candidate {c : Nat} (h40 : c ≠ 40) (h41 : c ≠ 41) : crowded.candidate c = Candidate.default c := by
  simp [State.candidate, crowded, Table.get, Ne.symm h40, Ne.symm h41]

/-- Where such a change finds the Lane Map or the new owner's rank order full. -/
theorem witness_CandidateChange_full :
    crowded.canonical ∧ crowded.laneMapLaw ∧ (crowded.candidate 40).cfg.state ≠ .free ∧
    (crowded.candidate 40).cfg.owner = some 7 ∧ (crowded.service 7).armed = none ∧ 6 ≤ (crowded.service 9).rank.length ∧
    4096 + (crowded.candidate 40).cfg.lanes.length < crowded.laneMap.length + [300].length := by
  have h := canonical_of (s := plant) (by decide +kernel)
  refine ⟨⟨h.1, placesTo_wf 4096, by decide +kernel, ⟨by decide, ?_⟩, h.2.2.2.2⟩, ⟨?_, fun c => ?_⟩, by decide +kernel, rfl, rfl,
    by decide, ?_⟩
  · intro e he
    simp only [crowded, List.mem_cons, List.not_mem_nil, or_false] at he
    rcases he with rfl | rfl <;> · intro h; have := congrArg (fun x : Candidate => x.cfg.state) h; cases this
  · show (placesTo 4096).length ≤ 4096
    rw [placesTo_length]
  · show ((placesTo 4096).filter fun e => placeOf c e.2).length = _
    rw [crowded_filter]
    by_cases h41 : c = 41
    · subst h41
      show _ = ((placesTo 4096).map Prod.fst).length
      rw [List.length_map, placesTo_length, if_pos rfl]
    · by_cases h40 : c = 40
      · subst h40; rfl
      · rw [crowded_candidate h40 h41, if_neg h41]; rfl
  · show 4096 + 0 < (placesTo 4096).length + 1
    rw [placesTo_length]; decide

/-- A move to another owner takes the selection and keeps the Lane Map; BARRED ends a quarantine; a new lane renews the
entries of a survey candidate and marks its dwell (R24, R41, R45 to R50, R73). -/
theorem test_candidate_changes :
    gets (exec .applyChange (changing 40 [(2, 9)] id)) (fun t => (t.service 7).rank == [41, 42] && (t.service 9).rank == [40] &&
      (t.service 7).selected == none && t.inFlight == [.switchRequest 7 41 .urgent] && t.laneMap == plant.laneMap &&
      (t.candidate 40).grade == none) ∧
    gets (exec .applyChange (changing 40 [(1, 4)] fun x => { x with quarantine := some ⟨.manual, 9⟩ })) (fun t =>
      (t.candidate 40).quarantine == none && (t.candidate 40).cfg.state == .barred && (t.candidate 40).grade.isSome) ∧
    gets (exec .applyChange (changing 42 [(4, 2), (5, 1500), (6, 1025)] id)) (fun t => (t.candidate 42).discard12 &&
      (t.candidate 42).grade == none && t.lanePlace 3 == some ⟨70, 1500, 42, 0, none⟩ &&
      t.lanePlace 4 == some ⟨70, 1025, 42, 1, none⟩) := by decide +kernel

/-- The body of a WRITE ENTRY of one field. -/
def writes1 (table index field value : Nat) : List Byte := be8 table ++ be16 index ++ be8 1 ++ be8 field ++ be32 value

/-- The body of a LOAD RUN of one field over two entries. -/
def runs2 (table index field a b : Nat) : List Byte :=
  be8 table ++ be16 index ++ be8 2 ++ be8 1 ++ be8 field ++ be32 a ++ be32 b

theorem witness_PostedWrites :
    let w (t i f v : Nat) : TableWrite := ⟨t, i, [[(f, v)]]⟩
    let some31 (n : Nat) : State := { plant with changes := List.replicate n ⟨1, 1, true, 7, [(4, 60)]⟩ }
    let guard (s : State) (j : Nat) : Nat := if (s.service j).cfg.state = .unused then 1 else (s.service j).cfg.guardLevel
    let demand (e : Nat × List (Nat × Nat)) : Nat :=
      demandOfOwners plant (plant.candidate e.1).cfg.owner (ownerAfter plant e.1 e.2)
    let both : TableWrite := ⟨5, 40, [[(14, 3), (14, 4)]]⟩
    (plant.takesCommand ∧ plant.admitsLevel 1 2 ∧ plant.admitsLevel 2 2 ∧ (some31 31).takesCommand ∧ (some31 32).takesCommand) ∧
    (writeBody false (writes1 4 7 4 60) = some (w 4 7 4 60) ∧
      writeBody true (runs2 4 7 4 60 61) = some ⟨4, 7, [[(4, 60)], [(4, 61)]]⟩ ∧ (w 4 7 4 60).inRange = true ∧
      (w 4 511 4 500).inRange = true ∧ (w 4 512 4 60).inRange = false ∧ (w 4 7 4 501).inRange = false ∧
      (∀ e ∈ (w 4 7 4 60).covers, 1 ≤ guard plant e.1) ∧ (some31 31).changes.length + 1 ≤ 32 ∧
      32 < (some31 32).changes.length + 1 ∧ (7, [(4, 60)]) ∈ (w 4 7 4 60).covers ∧ guard plant 7 < 2) ∧
    (writeBody false (writes1 5 40 14 3) = some (w 5 40 14 3) ∧ (w 5 40 14 3).inRange = true ∧
      (w 5 2047 14 3).inRange = true ∧ (∀ e ∈ (w 5 40 14 3).covers, 1 ≤ demand e) ∧
      (40, [(14, 3)]) ∈ (w 5 40 14 3).covers ∧ demand (40, [(14, 3)]) < 2 ∧
      writeBody false (writes1 5 40 15 3) = some (w 5 40 15 3) ∧ (w 5 40 15 3).inRange = false ∧
      (∀ e ∈ (w 5 40 15 3).covers, 1 ≤ demand e) ∧ 2048 ≤ 2048 ∧ (2048, [(14, 3)]) ∈ (w 5 2048 14 3).covers ∧
      (40, [(0, 3)]) ∈ (w 5 40 0 3).covers ∧ (40, [(15, 3)]) ∈ (w 5 40 15 3).covers ∧ (40, [(1, 3)]) ∈ (w 5 40 1 3).covers ∧
      both.covers = [(40, [(14, 3), (14, 4)])] ∧ ¬([(14, 3), (14, 4)].map Prod.fst).Nodup) :=
  ⟨⟨plant_takes, ⟨by decide, by decide, .inr (by decide)⟩, ⟨by decide, by decide, .inr (by decide)⟩, ⟨rfl, rfl, rfl, rfl⟩,
    ⟨rfl, rfl, rfl, rfl⟩⟩, by decide +kernel, by decide +kernel⟩

def tuning (e n : Nat) (x : TunerStep) : Option Visit := some ⟨e, true, .tuning n x⟩

theorem witness_TunerTransaction :
    let a (n : Nat) (held : Bool) := at12 (tuning 6 n (.attempt [0xC0] 402)) held
    plant.phase = .running ∧ (a 1 false).sweepPort 12 = ⟨tuning 6 1 (.attempt [0xC0] 402), 6, false⟩ ∧ (3 < 4) ∧ (4 ≤ 4) ∧
    (a 3 false).sweepPort 12 = ⟨tuning 6 3 (.attempt [0xC0] 402), 6, false⟩ ∧
    (at12 (tuning 6 3 (.gap 410)) false).sweepPort 12 = ⟨tuning 6 3 (.gap 410), 6, false⟩ ∧
    (a 4 true).sweepPort 12 = ⟨tuning 6 4 (.attempt [0xC0] 402), 6, true⟩ ∧ ((a 4 true).port 12).held = none ∧
    (a 2 true).sweepPort 12 = ⟨tuning 6 2 (.attempt [0xC0] 402), 6, true⟩ ∧ ((a 2 true).port 12).held = none ∧
    ((a 4 true).sweepEntry 6).held = none ∧ (plant.sweepPort 13).visit = none := by decide +kernel

/-- Port 12 LOCKED and settling on entry 6. -/
def settling : State := (at12 (some ⟨6, false, .settling 900⟩) false).setPort 12 (locked 12)

theorem witness_DwellBeginsAndEnds :
    let dwelling := at12 (some ⟨6, false, .dwelling 900⟩) false
    (settling.phase = .running ∧ (settling.sweepPort 12).visit = some ⟨6, false, .settling 900⟩ ∧
      (settling.port 12).state = .locked ∧ .retuneRequest 12 ∉ settling.inFlight ∧
      ((at12 (some ⟨6, false, .settling 900⟩) false).port 12).state ≠ .locked ∧
      (dwelling.sweepPort 12).visit = some ⟨6, false, .dwelling 900⟩ ∧ (plant.sweepPort 13).visit = none) ∧
    settling.canonical ∧ dwelling.canonical :=
  ⟨by decide +kernel, canonical_of (by decide +kernel), canonical_of (by decide +kernel)⟩

theorem witness_VisitEnds :
    let s (x : VisitPhase) (held : Bool) : State := (at12 (some ⟨63, false, x⟩) held).setSweepPort 13 ⟨none, 0, held⟩
    let sweepHeld (x : VisitPhase) : State :=
      (s x true).setSweepEntry 63 { SweepEntry.default 63 with held := some [(6, 900), (1, 1)] }
    let portHeld (x : VisitPhase) (lane : Nat) : State :=
      (s x true).setPort 12 { locked 12 with held := some ⟨[(2, lane), (5, 0x62)], some 9⟩ }
    (plant.phase = .running ∧ (s (.settling 900) true).sweepPort 12 = ⟨some ⟨63, false, .settling 900⟩, 6, true⟩ ∧
      .settleTimerExpiry 12 ∉ (s (.settling 900) true).inFlight ∧ ((s (.settling 900) true).port 12).held = none ∧
      ((s (.settling 900) true).sweepEntry 63).held = none ∧
      ((s (.dwelling 900) true).sweepPort 12).visit = some ⟨63, false, .dwelling 900⟩ ∧
      ((s .grading false).sweepPort 12).visit = some ⟨63, false, .grading⟩ ∧ (plant.sweepPort 13).visit = none) ∧
    ((sweepHeld .grading).port 12).held = none ∧
    (((sweepHeld .grading).sweepEntry 63).held = some [(6, 900), (1, 1)] ∧ ([(6, 900), (1, 1)].map Prod.fst).Nodup ∧
      (∀ x ∈ [(6, 900), (1, 1)], sweepRange x.1 x.2 = true) ∧ ((sweepHeld .grading).sweepPort 12).held = true ∧
      ((sweepHeld .grading).sweepPort (25 - 12)).held = true) ∧
    (((portHeld .grading 1025).port 12).held = some ⟨[(2, 1025), (5, 0x62)], some 9⟩ ∧
      ([(2, 1025), (5, 0x62)].map Prod.fst).Nodup ∧ (∀ x ∈ [(2, 1025), (5, 0x62)], portRange 12 x.1 x.2 = true) ∧
      ((portHeld .grading 1025).sweepEntry 63).held = none ∧ ((portHeld .grading 1025).sweepPort 12).held = true) ∧
    (∃ j x n, (portHeld .grading 1025).lanePlace j = some x ∧ (2, n) ∈ [(2, 1025), (5, 0x62)] ∧ x.lane = n ∧ n ≤ 8190 ∧
      64 ≤ x.source) ∧
    ¬(∃ j x n, (portHeld .grading 8189).lanePlace j = some x ∧ (2, n) ∈ [(2, 8189), (5, 0x62)] ∧ x.lane = n ∧ n ≤ 8190 ∧
      64 ≤ x.source) ∧
    (s (.dwelling 900) true).canonical ∧ (s .grading true).canonical ∧ (portHeld .grading 1025).canonical := by
  refine ⟨by decide +kernel, by decide +kernel, by decide +kernel, by decide +kernel,
    ⟨3, ⟨70, 1025, 42, 0, some 9⟩, 1025, by decide +kernel⟩, ?_, canonical_of (by decide +kernel),
    canonical_of (by decide +kernel), canonical_of (by decide +kernel)⟩
  rintro ⟨j, x, n, h, hn, hl, -⟩
  have hx : n = 8189 := by simpa using hn
  exact (plant_lanes (i := j) h).2.2.2 (hl.trans hx)

/-- At the end of a visit the held PORT write loses the margin lane that meets an entry of the Lane Map, with CHANGE FAILED,
and the held SWEEP write of the entry takes effect; no discard mark is left (R3, R73, R118, R127). -/
theorem test_held_writes_at_visit_end :
    gets (exec (.surveyGradingComplete 12) ((((at12 (some ⟨6, false, .grading⟩) true).setPort 12
        { locked 12 with held := some ⟨[(2, 1025), (5, 0x62)], some 9⟩ }).setSweepEntry 6
        { entry6 with held := some [(6, 900)] }).setCandidate 42 { c42 with discard12 := true })) fun t =>
      (t.port 12).cfg.marginLane == some 8190 && (t.port 12).cfg.tunerAddr == 0x62 && (t.sweepEntry 6).cfg.settle == 900 &&
        t.inFlight == [.faultRecord (.changeFailed 9 1 12), .noticePost (.changeFailed 9 1 12 .laneConflict) ⟨0, 400⟩] &&
        !(t.candidate 42).discard12 := by decide +kernel

/-- A survey grade carries the interval number of its dwell expiry, whatever interval runs at the grading (R69, log 16). -/
theorem test_survey_grade_interval :
    gets (exec (.surveyGrading ⟨6, 12, 390, 3, .cleared, true⟩) { plant with intervalNumber := 4 }) fun t =>
      ((t.candidate 42).grade.map GradeRecord.interval) == some 3 := by decide +kernel

/-- Port 12 dwells on entry 6, port 13 grades entry 7. -/
def two : State :=
  (at12 (some ⟨6, false, .dwelling 900⟩) false).setSweepPort 13 ⟨some ⟨7, true, .grading⟩, 9, false⟩

/-- A hold of both ports aborts the dwell and lets the grading complete (R129). -/
theorem test_hold_both :
    gets (exec (.sweepHold (cmd 1 [2])) two) (fun t => replied 0x20 .done .none [0, 1, 3, 1] t &&
      t.sweepPort 12 == ⟨none, 6, true⟩ && t.sweepPort 13 == ⟨some ⟨7, true, .grading⟩, 9, true⟩ &&
      (t.sweepEntry 6).lastOutcome == .aborted) ∧
    gets (exec (.sweepResume (cmd 1 [2])) (two.setSweepPort 13 ⟨some ⟨7, true, .grading⟩, 9, true⟩))
      (replied 0x21 .done .none [3, 0, 3, 0]) := by decide +kernel

theorem witness_HoldResumeVisit :
    let both : State := (at12 none true).setSweepPort 13 ⟨none, 0, true⟩
    let one : State := (at12 none false).setSweepPort 13 ⟨none, 0, true⟩
    let queue (l : List Nat) : State := { both with visitQueue := l }
    let enabled (e : Nat) : State := both.setSweepEntry e { entry6 with cfg := { entry6.cfg with affinity := .sp0 } }
    (plant.takesCommand ∧ plant.admitsLevel 1 1 ∧ plant.admitsLevel 2 2 ∧ one.takesCommand ∧ both.takesCommand) ∧ (cmd 1 (be8 (12 - 12))).body = be8 (12 - 12) ∧
    (cmd 1 (be8 (13 - 12))).body = be8 (13 - 12) ∧ (plant.sweepPort 12).visit = none ∧
    ((at12 (tuning 6 1 (.gap 402)) false).sweepPort 12).visit = some ⟨6, true, .tuning 1 (.gap 402)⟩ ∧
    (settling.sweepPort 12).visit = some ⟨6, false, .settling 900⟩ ∧ (settling.sweepPort 12).held = false ∧
    (settling.port 12).held = none ∧ (settling.sweepEntry 6).held = none ∧ (∀ n < 3, (cmd 1 [3]).body ≠ be8 n) ∧
    (cmd 1 [2]).body = be8 2 ∧ (two.sweepPort 12).visit = some ⟨6, false, .dwelling 900⟩ ∧ (two.sweepPort 12).held = false ∧
    (two.port 12).held = none ∧ (two.sweepPort 13).visit = some ⟨7, true, .grading⟩ ∧
    (both.sweepPort 12).held = true ∧ (both.sweepPort 13).held = true ∧ (both.port 12).cfg.enable = true ∧
    (queue [6]).visitQueue = [6] ∧ (both.sweepEntry 6).cfg.affinity = .any ∧ ((enabled 0).sweepEntry 0).cfg.affinity = .sp0 ∧
    (plant.sweepEntry 63).cfg.state ≠ .enabled ∧ (64 < 256) ∧ (plant.sweepEntry 6).cfg.state = .enabled ∧ 6 ∈ (queue [6]).visitQueue ∧
    (queue [6]).underVisit 6 = false ∧ (at12 (tuning 6 1 (.gap 402)) false).underVisit 6 = true ∧
    6 ∉ (queue (List.replicate 8 0)).visitQueue ∧ 8 ≤ (queue (List.replicate 8 0)).visitQueue.length ∧
    (queue (List.replicate 7 0)).visitQueue.length < 8 ∧ (one.sweepPort 12).held = false ∧ one.visitQueue = [] ∧
    (one.sweepPort 13).held = true :=
  ⟨⟨plant_takes, ⟨by decide, by decide, .inr (by decide)⟩, ⟨by decide, by decide, .inr (by decide)⟩, ⟨rfl, rfl, rfl, rfl⟩,
    ⟨rfl, rfl, rfl, rfl⟩⟩, by decide +kernel⟩

/-- A directory section: stream 0x1234, version octet `v`, section 0 of 0, service number 11 on map lane 258. -/
def section11 (v a b c d : Byte) : List Byte := [0, 0xB0, 13, 0x12, 0x34, v, 0, 0, 0, 11, 0xE1, 2, a, b, c, d]
def sectionNow : List Byte := section11 0xC3 0x49 0x6B 0x9D 0x1E
def sectionNext : List Byte := section11 0x43 0x64 0xBB 0x73 0x7B
def directory (sec : List Byte) : Packet := packet 0 5 true (0 :: sec)

/-- A packet with the discontinuity flag in its adaptation field. -/
def jumpPacket (lane n : Nat) : Packet := (packet lane n false [1, 0x80]).set 3 (BitVec.ofNat 8 (n * 16 + 12))

/-- The classes of a run of packets on one place, with the gaps and the counter left (R25). -/
def classes : Option Nat → List Packet → List (PacketClass × Nat) × Option Nat
  | last, [] => ([], last)
  | last, p :: rest =>
    let r := classify last p
    let t := classes r.2.1 rest
    ((r.1, r.2.2) :: t.1, t.2)

/-- The ten packets of the worked example of section 2.7. -/
theorem test_classes_of_section_2_7 :
    classes (some 9) [packet 256 10 false [], packet 256 10 false [], packet 256 13 false [], damagedPacket 256,
      packet 256 15 false [], barePacket 256 15, packet 256 0 false [], jumpPacket 256 7, packet 256 7 false [],
      packet 256 3 false []] =
    ([(.inOrder, 0), (.duplicate, 0), (.gap, 2), (.damaged, 0), (.resumed, 0), (.noPayload, 0), (.inOrder, 0), (.resumed, 0),
      (.duplicate, 0), (.gap, 11)], some 3) := by decide

/-- A run of no entries from level 1 is refused LEVEL in SETTINGS and RANGE in WEIGHT (R161, R164). -/
theorem test_empty_run_levels :
    (levelAdmits plant 1 ⟨0, 0, []⟩ = false ∧ levelAdmits plant 1 ⟨2, 0, []⟩ = true) ∧
      (⟨2, 0, []⟩ : TableWrite).inRange = false := by decide

/-- A directory that offers number 11 confirms candidate 41's expected number on port 5 and takes the snapshot. -/
theorem test_directory_confirms :
    gets (exec (.directoryPacket 5 5 (directory sectionNow)) plant) fun t =>
      (t.candidate 41).directory == .confirmed && (t.snapshot 5) == some ⟨0x1234, 3, 1, [(11, 258)], 0, 1⟩ &&
        t.discoveries == [] := by decide +kernel

/-- Before a pointer's target: a section passed over ends there with one octet left, which begins no section and counts no
discard (log 36); a start packet without a pointer leaves the section in hand (log 37). -/
theorem test_pointer_target :
    readPayload (.receiving [1, 0]) true [3, 1, 9, 0, 0, 0xB0] = (.receiving [0, 0xB0], []) ∧
      readPayload (.receiving [0]) true [] = (.receiving [0], []) := by decide +kernel

/-- A section of stream 0x1234, version 3, number `n` of 0 to `last`, with entries on map lane 5. -/
def sectionOf (n last : Nat) (numbers : List Nat) : List Byte :=
  let l := [0, 0xB0, BitVec.ofNat 8 (9 + 4 * numbers.length), 0x12, 0x34, 0xC3, BitVec.ofNat 8 n, BitVec.ofNat 8 last] ++
    numbers.flatMap fun m => be16 m ++ be16 (0xE000 + 5)
  l ++ be32 (crc32 l).toNat

/-- The first 183 octets of a section of length `n`, and the packet that begins it. -/
def section183 (n : Nat) : List Byte := ([0] ++ be16 (0xB000 + n) ++ List.replicate 180 0)
def start183 (n : Nat) : Packet := packet 0 5 true (0 :: section183 n)

/-- The context of port 5 after counter 4, with a set and a section in hand. -/
def collecting (set : SetInProgress) (hand : SectionInHand) : State :=
  plant.setDirContext 5 { plant.dirContext 5 with lastSeq := some 4, section_ := hand, set := set }

def set1 (held : List (Nat × List (Nat × Nat))) : SetInProgress := ⟨some ⟨0x1234, 3, 1⟩, held⟩

/-- A section begins in one packet and ends in the next; the second section of two completes the directory, whose
unexpected numbers are logged: a known one again, a new one once (R136, R138, R142). -/
theorem test_directory_of_two_sections :
    let log (s : State) : State := { s with discoveries := [⟨5, 20, 9, 0, 0, 255⟩], intervalNumber := 7 }
    gets (exec (.directoryPacket 5 5 (packet 0 5 false ((sectionOf 0 1 [11]).drop 9)))
        (collecting (set1 [(1, [])]) (.receiving ((sectionOf 0 1 [11]).take 9)))) (fun t =>
      t.snapshot 5 == some ⟨0x1234, 3, 1, [(11, 5)], 0, 1⟩ && (t.dirContext 5).section_ == .none) ∧
    gets (exec (.directoryPacket 5 5 (directory (sectionOf 1 1 [20, 30, 30]))) (log (collecting (set1 [(0, [(11, 258)])]) .none)))
      (fun t => t.discoveries == [⟨5, 20, 5, 0, 7, 255⟩, ⟨5, 30, 5, 7, 7, 1⟩] && (t.dirContext 5).set == ⟨none, []⟩) := by
  decide +kernel

/-- Where a section is received in part, continued, repeated, of another identity, or completes a set. -/
theorem witness_DirectoryPacket_sets :
    let sec := sectionOf 1 1 [20]
    let hand := collecting (set1 [(0, [])]) (.receiving (sec.take 2))
    let part := packet 0 5 false ((sec ++ List.replicate 184 0xFF).drop 2 |>.take 184)
    (hand.dirContext 5).section_ = .receiving (sec.take 2) ∧ (∀ k ∈ (hand.dirContext 5).lastSeq, seqOf part = (k + 1) % 16) ∧
    (sec.take 2).length < sec.length ∧ sec.take 2 ++ payloadOf part = sec ++ List.replicate (186 - sec.length) 0xFF ∧
    isDiscontinuous part = false ∧ saysNoPayload part = false ∧ isStart part = false ∧
    payloadOf (start183 1021) = 0 :: section183 1021 ++ [] ∧ section183 1021 ≠ [] ∧
    (section183 1021).length < beAt (section183 1021) 1 2 % 1024 + 3 ∧ octetAt (section183 1021) 0 = 0 ∧
    (beAt (section183 1021) 1 2 % 1024 - 9) % 4 = 0 ∧
    crc32 sec = 0 ∧ 128 ≤ octetAt sec 5 ∧ octetAt sec 6 = 1 ∧ octetAt sec 7 = 1 ∧ beAt sec 3 2 = 0x1234 ∧ octetAt sec 5 % 32 = 3 ∧
    3 < octetAt (sectionOf 0 4 []) 7 ∧ crc32 (sectionOf 0 4 []) = 0 ∧ octetAt (sectionOf 2 1 []) 7 < octetAt (sectionOf 2 1 []) 6 ∧
    1 ∈ (set1 [(1, [])]).held.map Prod.fst ∧ 1 ∉ (set1 [(0, [])]).held.map Prod.fst ∧
    (∀ j ≤ 1, j ∈ ((set1 [(0, [])]).held ++ [(1, [(20, 5)])]).map Prod.fst) ∧
    ¬(∀ j ≤ 1, j ∈ ((set1 []).held ++ [(1, [(20, 5)])]).map Prod.fst) := by decide +kernel

theorem witness_DirectoryPacket :
    let s := plant.setDirContext 3 { plant.dirContext 3 with lastSeq := some 4, section_ := .receiving [0] }
    let carries (p : Packet) (sec : List Byte) : Bool := p.length == 188 && !saysNoPayload p && isStart p &&
      payloadOf p == 0 :: sec ++ List.replicate (183 - sec.length) 0xFF && sec.length == beAt sec 1 2 % 1024 + 3 &&
      octetAt sec 0 == 0 && decide (9 ≤ beAt sec 1 2 % 1024) && (beAt sec 1 2 % 1024 - 9) % 4 == 0
    let missing (n : Nat) := at40 fun x => { x with cfg := { x.cfg with expected := some 12 }, misses := n }
    plant.phase = .running ∧ plant.canonical ∧ (plant.dirContext 12).source ≠ some 64 ∧ (s.dirContext 3).source = some 3 ∧
    saysNoPayload (barePacket 0 2) = true ∧ (barePacket 0 2).length = 188 ∧ seqOf (packet 0 4 true []) = 4 ∧
    (s.dirContext 3).lastSeq = some 4 ∧ isDiscontinuous (packet 0 6 false []) = false ∧ seqOf (packet 0 6 false []) = 6 ∧
    saysNoPayload (packet 0 6 false []) = false ∧ isStart (packet 0 6 false []) = false ∧
    (s.dirContext 3).section_ = .receiving [0] ∧ carries (directory sectionNow) sectionNow = true ∧ crc32 sectionNow = 0 ∧
    carries (directory (section11 0xC3 0x49 0x6B 0x9D 0x1F)) (section11 0xC3 0x49 0x6B 0x9D 0x1F) = true ∧
    crc32 (section11 0xC3 0x49 0x6B 0x9D 0x1F) ≠ 0 ∧ carries (directory sectionNext) sectionNext = true ∧ crc32 sectionNext = 0 ∧
    octetAt sectionNext 5 < 128 ∧ 128 ≤ octetAt sectionNow 5 ∧ octetAt sectionNow 6 = 0 ∧ octetAt sectionNow 7 = 0 ∧
    (plant.dirContext 5).source = some 5 ∧ (plant.dirContext 5).section_ = .none ∧ (plant.dirContext 5).lastSeq ≠ some 5 ∧
    (plant.dirContext 5).set = ⟨none, []⟩ ∧ (plant.candidate 41).cfg.expected = some 11 ∧ (plant.candidate 41).cfg.source = some 5 ∧
    sectionEntries 1 (sectionNow.drop 8) = [(11, 258)] ∧ ((missing 0).candidate 40).misses = 0 ∧
    ((missing 1).candidate 40).misses ≠ 0 ∧ ((missing 1).candidate 40).cfg.expected = some 12 ∧ plant.discoveries = [] :=
  ⟨rfl, canonical_of (by decide +kernel), by decide +kernel⟩

theorem witness_DiscoveriesTakenAndCleared :
    full.discoveries.length = 128 ∧ plant.takesCommand ∧ plant.admitsLevel 2 2 ∧ plant.admitsLevel 1 1 ∧ (cmd 2 []).body = [] :=
  ⟨by decide +kernel, plant_takes, by unfold State.admitsLevel; decide, by unfold State.admitsLevel; decide, rfl⟩

theorem witness_ForwardAdmission :
    256 ≤ full.forwardQueue.length ∧ plant.forwardQueue.length < 256 ∧ (plant.service 7).cfg.base + 7 < 8192 ∧
    (packet 256 5 false []).length = 188 ∧ plant.phase = .running ∧ full.phase = .running := by decide +kernel

/-- A running tap on port 3 with a lane, counts and copies waiting. -/
def tapping (lane : Option Nat) (stop made copies : Nat) : State :=
  { plant with
    tap := ⟨true, 3, lane, stop, made, 0⟩, insertQueue := List.replicate copies ⟨nullPacket, .tap, 0⟩ }

theorem witness_TapOffer :
    let room (s : State) : Bool := decide (s.insertQueue.length < 16) && decide ((s.insertQueue.filter fun x => x.kind == .tap).length < 12)
    let many : State := { tapping none 10 0 0 with insertQueue := List.replicate 16 ⟨nullPacket, .report, 0⟩ }
    plant.phase = .running ∧ (packet 256 5 false []).length = 188 ∧ plant.tap.running = false ∧
    (tapping (some 256) 10 0 11).tap.lane = some (laneOf (packet 256 5 false [])) ∧ room (tapping (some 256) 10 0 11) = true ∧
    room (tapping none 10 0 12) = false ∧ room many = false ∧ (tapping none 10 8 0).tap.made + 1 < (tapping none 10 8 0).tap.stop ∧
    (tapping none 10 9 0).tap.stop ≤ (tapping none 10 9 0).tap.made + 1 ∧
    (tapping (some 255) 10 0 0).tap.lane ≠ some (laneOf (packet 256 5 false [])) := by decide +kernel

theorem witness_Arbiter :
    let s (age : Nat) (f : List Packet) : State :=
      { plant with insertQueue := [⟨nullPacket, .reply, age⟩, ⟨nullPacket, .tap, 3⟩], forwardQueue := f }
    (s 32 [nullPacket]).phase = .running ∧ (s 32 [nullPacket]).insertQueue = ⟨nullPacket, .reply, 32⟩ :: [⟨nullPacket, .tap, 3⟩] ∧
    (s 0 []).forwardQueue = [] ∧ (∀ x ∈ (s 31 [nullPacket]).insertQueue.head?, x.age < 32) ∧
    (s 31 [nullPacket]).forwardQueue = nullPacket :: [] ∧ plant.insertQueue = [] ∧ plant.forwardQueue = [] ∧
    ({ plant with phase := .starting } : State).phase = .starting ∧ ({ plant with phase := .off } : State).phase = .off ∧
    (∀ x ∈ (s 32 []).insertQueue.head?, x.kind ≠ .restartReply) := by
  refine ⟨rfl, rfl, rfl, ?_, rfl, rfl, rfl, rfl, rfl, ?_⟩
  · intro x h; cases h; decide
  · intro x h; cases h; decide

/-- A reply waits, beside `n` inserts and some notices. -/
def replying (n notices : Nat) (restart : Option RestartKind) : State :=
  { plant with
    replyInHand := some ⟨7, 0x41, .done, .none, []⟩, insertQueue := List.replicate n ⟨nullPacket, .report, 0⟩, restart := restart
    noticeQueue := List.replicate notices ⟨.dark 7 0, ⟨0, 0⟩⟩ }

theorem witness_Placements :
    (replying 15 0 none).replyInHand = some ⟨7, 0x41, .done, .none, []⟩ ∧ (replying 15 0 none).insertQueue.length < 16 ∧
    (replying 15 0 none).restart = none ∧ (replying 15 0 (some .soft)).restart = some .soft ∧
    16 ≤ (replying 16 0 none).insertQueue.length ∧ full.noticeQueue ≠ [] ∧ (replying 14 9 none).noticeQueue ≠ [] ∧
    (replying 14 9 none).replyInHand.isSome = true ∧ (replying 14 9 none).insertQueue.length < 15 ∧
    15 ≤ (replying 15 9 none).insertQueue.length ∧ full.replyInHand = none ∧
    ({ full with insertQueue := [] } : State).insertQueue.length < 16 ∧ plant.noticeQueue = [] ∧ 8191 < 8192 ∧
    (List.replicate 184 (0 : Byte)).length ≤ 184 ∧ (List.replicate 175 (0 : Byte)).length ≤ 175 ∧
    (List.replicate 8 (NoticeRecord.mk (.dark 7 0) ⟨0, 0⟩)).length ≤ 8 := by decide +kernel

/-- The octets of a SWITCHED notice of service 7 from no selection to candidate 41, clean, FIRST, of interval 3 at 500 ms:
code, interval, time, the fields and 0xFF to the 22nd octet (section 10.9). -/
theorem test_notice_octets :
    noticeOctets ⟨.switched 7 9 none 41 .clean .first, ⟨3, 500⟩⟩ =
      [1, 0, 0, 0, 3, 1, 0xF4, 0, 7, 0, 9, 0xFF, 0xFF, 0, 41, 0, 0, 0xFF, 0xFF, 0xFF, 0xFF, 0xFF] := by decide +kernel

theorem witness_TapStartedAndStopped :
    plant.takesCommand ∧ plant.admitsLevel 1 1 ∧ (cmd 1 (be8 13 ++ be16 8190 ++ be16 1)).body = be8 13 ++ be16 8190 ++ be16 1 ∧
    (13 ≤ 13 ∧ (8190 ≤ 8190 ∨ 8190 = 65535) ∧ 1 ≤ 1) ∧ ¬(14 ≤ 13 ∧ (0 ≤ 8190 ∨ 0 = 65535) ∧ 1 ≤ 1) ∧
    ¬(13 ≤ 13 ∧ (8191 ≤ 8190 ∨ 8191 = 65535) ∧ 1 ≤ 1) ∧ ¬(13 ≤ 13 ∧ (65534 ≤ 8190 ∨ 65534 = 65535) ∧ 1 ≤ 1) ∧
    ¬(13 ≤ 13 ∧ (0 ≤ 8190 ∨ 0 = 65535) ∧ 1 ≤ 0) ∧ plant.tap.running = false ∧ (tapping none 10 0 0).tap.running = true ∧
    (tapping none 10 0 0).takesCommand ∧ (cmd 1 []).body = [] :=
  ⟨plant_takes, by unfold State.admitsLevel; decide, rfl, by decide, by decide, by decide, by decide, by decide, rfl, rfl,
    ⟨rfl, rfl, rfl, rfl⟩, rfl⟩

theorem witness_TapExtended :
    let s := tapping none 65530 65529 0
    s.takesCommand ∧ s.admitsLevel 1 1 ∧ (cmd 2 (be16 5)).body = be16 5 ∧ 1 < (cmd 2 (be16 5)).level ∧
    (cmd 1 (be16 0)).body = be16 0 ∧ plant.tap.running = false ∧ s.tap.running = true ∧ 65535 < s.tap.stop + 6 ∧
    s.tap.stop + 5 ≤ 65535 ∧ s.tap.port < 15 ∧ s.tap.lane = none ∧ s.tap.made + 1 = s.tap.stop ∧ s.insertQueue.length < 4 ∧
    (tapping none 65530 65529 3).insertQueue.length < 4 ∧ (packet 256 5 false []).length = 188 :=
  ⟨⟨rfl, rfl, rfl, rfl⟩, by unfold State.admitsLevel; decide, rfl, by decide, rfl, rfl, rfl, by decide, by decide, by decide,
    rfl, rfl, by decide, by decide, by decide +kernel⟩

theorem witness_NoticesAndFaults :
    let off : State := { full with settings := { Settings.default with noticeEnable := 0x00007FF6 } }
    plant.phase = .running ∧ plant.settings.noticeEnable.getLsbD (noticeCode (.dark 7 0)) = true ∧
    off.settings.noticeEnable.getLsbD (noticeCode (.dark 7 0)) = false ∧ off.settings.noticeEnable.getLsbD 15 = false ∧
    off.settings.noticeEnable.getLsbD (noticeCode (.restored 7 0)) = true ∧ full.settings.noticeEnable.getLsbD 15 = true ∧
    plant.noticeQueue.length < 64 ∧ 64 ≤ full.noticeQueue.length ∧ full.noticeLoss ≤ 65535 ∧ full.faultSummary.getLsbD 5 = false ∧
    ({ full with faultSummary := 0x20 } : State).faultSummary.getLsbD 5 = true ∧
    (0x80 : BitVec 8).getLsbD (faultCode .storeWrite) = true ∧ plant.faultSummary.getLsbD (faultCode (.tunerLink 12 0)) = false := by
  decide +kernel

theorem witness_FaultsReadAndCleared :
    plant.takesCommand ∧ plant.admitsLevel 3 3 ∧ plant.admitsLevel 1 1 ∧ (cmd 3 []).body = [] ∧ (cmd 1 [0xFF]).body = [0xFF] ∧
    full.noticeLoss ≤ 65535 ∧ full.noticeQueue.length ≤ 64 ∧ State.reset.takesCommand ∧
    (∀ x, State.reset.faultRecord.entry = some x → x.fault.wf = true) :=
  ⟨plant_takes, by unfold State.admitsLevel; decide, by unfold State.admitsLevel; decide, rfl, rfl, by decide, by decide +kernel,
    ⟨rfl, rfl, rfl, rfl⟩, some_all (b := ⟨.storeInvalid, 0⟩) rfl rfl⟩

/-- A packet with a command record of `n` body octets. -/
def commandPacket (n : Nat) : Packet :=
  packet 8160 0 true (sealed16 ([0x01, 3, 0, 7] ++ be8 n ++ List.replicate n 0))

theorem witness_ControlPacket :
    let command (p : Packet) : Bool := p.length == 188 && !isDamaged p && isStart p && adaptationOf p == 1
    command (damagedPacket 8160) = false ∧ command (packet 8160 0 false []) = false ∧ (damagedPacket 8160).length = 188 ∧
    command (commandPacket 0) = true ∧ octetAt ((commandPacket 0).drop 4) 4 ≤ 176 ∧ command (commandPacket 176) = true ∧
    octetAt ((commandPacket 176).drop 4) 4 = 176 ∧ command (packet 8160 0 true [1, 3, 0, 7, 177]) = true ∧
    176 < octetAt ((packet 8160 0 true [1, 3, 0, 7, 177]).drop 4) 4 ∧ 8 ≤ full.commandQueue.length ∧
    plant.commandQueue.length < 8 := by decide +kernel

theorem witness_Identify :
    plant.takesCommand ∧ plant.admitsLevel 3 3 ∧ (cmd 3 []).body = [] ∧ (cmd 3 [0]).body ≠ [] :=
  ⟨plant_takes, by unfold State.admitsLevel; decide, rfl, by decide⟩

theorem witness_ReadAndProbe :
    let r (l : List Byte) := readEntryBody l
    let probe (k level kind : Nat) : List Byte := be8 4 ++ be16 k ++ be8 level ++ be8 kind
    (plant.takesCommand ∧ plant.admitsLevel 3 3 ∧ ({ full with commandQueue := [] } : State).takesCommand) ∧
    (r (be8 4 ++ be16 511 ++ be8 2 ++ [1, 30]) = some ⟨4, 511, [1, 30]⟩ ∧ tableOf 4 = some .service ∧
      TableId.service.holds 511 = true ∧ (∀ f ∈ [1, 30], TableId.service.hasField 511 f = true) ∧ 1 ≤ [1, 30].length ∧
      (List.replicate 34 1).length ≤ 34) ∧
    (r (be8 10 ++ be16 0 ++ be8 0) = some ⟨10, 0, []⟩ ∧ tableOf 10 = none ∧ TableId.service.holds 512 = false ∧
      34 < (List.replicate 35 1).length ∧ TableId.service.hasField 0 31 = false ∧ r [4, 0, 0, 1] = none ∧ r [] = none) ∧
    (cmd 3 (probe 511 1 1)).body = probe 511 1 1 ∧ (511 < 65536 ∧ 3 < 4 ∧ 1 < 2) ∧ 2 < 3 ∧
    (2 ≤ 2 ∧ (plant.service 7).cfg.guardLevel < 2) ∧ 1 ≤ (plant.service 7).cfg.guardLevel ∧ plant.changes.length < 32 ∧
    32 ≤ full.changes.length :=
  ⟨⟨plant_takes, ⟨by decide, by decide, .inr (by decide)⟩, ⟨rfl, rfl, rfl, rfl⟩⟩, by decide +kernel, by decide +kernel,
    by decide +kernel⟩

/-- The plant with the COMMISSION line asserted. -/
def commissioned : State := { plant with commission := true }

theorem commissioned_takes : commissioned.takesCommand := ⟨rfl, rfl, rfl, rfl⟩
theorem commissioned_admits : commissioned.admitsLevel 0 0 := ⟨Nat.le_refl _, Nat.zero_le _, .inl rfl⟩

theorem witness_SettingsWrite :
    let w (f v : Nat) : TableWrite := ⟨0, 0, [[(f, v)]]⟩
    let clash := commissioned.setLanePlace 9 (some ⟨14, 32, 41, 0, none⟩)
    (writeBody false (writes1 0 0 1 32) = some (w 1 32) ∧
      writeBody true (be8 0 ++ be16 0 ++ be8 1 ++ be8 1 ++ be8 1 ++ be32 32) = some (w 1 32) ∧ (w 1 32).inRange = true ∧
      (w 12 0xFFFE).inRange = true ∧ 8161 = commissioned.settings.reportLane ∧
      clash.lanePlace 9 = some ⟨14, 32, 41, 0, none⟩ ∧ (plant.service 7).cfg.state ≠ .unused ∧
      (plant.service 7).cfg.base ≤ 95 ∧ 95 ≤ (plant.service 7).cfg.base + 7) ∧
    (commissioned.takesCommand ∧ commissioned.canonical ∧ commissioned.admitsLevel 0 0) ∧
    ¬((∃ i e, commissioned.lanePlace i = some e ∧ e.source = 14 ∧ e.lane = 32) ∨
      ∃ k f, (commissioned.service k).cfg.state ≠ .unused ∧ (f = 1 ∨ f = 2 ∨ f = 3) ∧ (commissioned.service k).cfg.base ≤ 32 ∧
        32 ≤ (commissioned.service k).cfg.base + 7) := by
  refine ⟨by decide +kernel, ⟨commissioned_takes, canonical_of (by decide +kernel), commissioned_admits⟩, ?_⟩
  rintro (⟨i, e, h, hs, -⟩ | ⟨k, f, h, -, hb, -⟩)
  · exact (plant_lanes (i := i) h).2.2.1 hs
  · by_cases hk : k = 7
    · subst hk; exact absurd hb (by decide +kernel)
    · exact h (congrArg (fun v : Service => v.cfg.state) (plant_service hk))

theorem witness_WeightAndCounterWrites :
    let w (t i f v : Nat) : TableWrite := ⟨t, i, [[(f, v)]]⟩
    plant.takesCommand ∧ plant.admitsLevel 1 1 ∧ writeBody false (writes1 2 3 5 1000) = some (w 2 3 5 1000) ∧
    (w 2 3 5 1000).inRange = true ∧ (w 2 0 3 0xFFFFFF9C).inRange = true ∧
    writeBody true (runs2 2 0 5 1 2) = some ⟨2, 0, [[(5, 1)], [(5, 2)]]⟩ ∧
    writeBody false (writes1 9 14 10 99) = some (w 9 14 10 99) ∧ (w 9 14 10 99).inRange = true ∧ (w 9 526 4 0).inRange = true ∧
    TableId.counters.hasField 526 3 = true ∧ (∀ e ∈ (w 9 14 10 99).covers, e.1 = 13 → 8 ∉ e.2.map Prod.fst) :=
  ⟨plant_takes, by unfold State.admitsLevel; decide, by decide +kernel⟩

/-- SP0 DISABLED and idle while two entries wait. -/
def idle12 : State :=
  { plant.setPort 12 { Port.default 12 with cfg := { (Port.default 12).cfg with enable := false }, state := .disabled } with
    commission := true, visitQueue := [6, 9] }

theorem witness_PortAndSweepWrites :
    let w (t i f v : Nat) : TableWrite := ⟨t, i, [[(f, v)]]⟩
    let writes (run : Bool) (t i f v : Nat) : Bool :=
      writeBody run (writes1 t i f v) == some (w t i f v) && (w t i f v).inRange && (w t i f v).covers == [(i, [(f, v)])]
    let v12 : State := { at12 (some ⟨6, false, .settling 900⟩) false with commission := true }
    let held : State := (at12 none true).setSweepPort 13 ⟨none, 0, true⟩
    (writes false 1 3 1 0 ∧ writes false 1 3 4 0 ∧ writes false 1 12 1 1 ∧ writes false 1 12 5 0x77 ∧ writes false 3 6 1 2 ∧
      (w 1 14 3 2000).inRange = true ∧ (w 1 3 2 256).inRange = true ∧ (w 3 63 6 5000).inRange = true ∧
      commissioned.lanePlace 0 = some ⟨3, 256, 40, 0, some 4⟩ ∧ commissioned.lanePlace 3 = some ⟨70, 1025, 42, 0, some 9⟩) ∧
    (commissioned.takesCommand ∧ commissioned.canonical ∧ commissioned.admitsLevel 0 0) ∧
    ¬(∃ j e m, commissioned.lanePlace j = some e ∧ (2, m) ∈ [(1, 0)] ∧ e.lane = m ∧ m ≤ 8190 ∧ e.source = 3) ∧
    ((commissioned.port 3).cfg.dirCheck = true ∧ commissioned.visiting 12 = none ∧ (idle12.port 12).cfg.enable = false ∧
      idle12.visiting 12 = none ∧ (idle12.sweepPort 12).held = false ∧ idle12.visitQueue = 6 :: [9] ∧
      (idle12.sweepEntry 6).cfg.affinity = .any) ∧
    (idle12.takesCommand ∧ idle12.canonical) ∧
    ((v12.visiting 12).isSome = true ∧ (v12.port 12).held = none ∧ v12.underVisit 6 = true ∧ (v12.sweepEntry 6).held = none ∧
      held.underVisit 6 = false ∧ (held.sweepPort 12).held = true ∧ (held.sweepPort 13).held = true) ∧
    (v12.takesCommand ∧ v12.canonical) ∧ held.takesCommand ∧ held.canonical ∧ plant.admitsLevel 1 1 :=
  ⟨by decide +kernel, ⟨commissioned_takes, canonical_of (by decide +kernel), commissioned_admits⟩,
    by rintro ⟨j, e, m, -, hm, -⟩; simp at hm, by decide +kernel, ⟨⟨rfl, rfl, rfl, rfl⟩, canonical_of (by decide +kernel)⟩,
    by decide +kernel, ⟨⟨rfl, rfl, rfl, rfl⟩, canonical_of (by decide +kernel)⟩, ⟨rfl, rfl, rfl, rfl⟩,
    canonical_of (by decide +kernel), ⟨by decide, by decide, .inr (by decide)⟩⟩

/-- The enable of SP0 is turned on while it is idle: it seeks and takes the oldest queued entry (R2, R119, R121). -/
theorem test_idle_sweep_port_enabled :
    gets (exec (.portWrite false (cmd 0 (writes1 1 12 1 1))) idle12) fun t =>
      (t.port 12).state == .seeking && t.visiting 12 == some 6 && t.visitQueue == [9] := by decide +kernel

/-- A feed port whose directory check is turned off stops collecting (R134). -/
theorem test_directory_check_off :
    gets (exec (.portWrite false (cmd 0 (writes1 1 3 4 0))) commissioned) fun t =>
      t.dirContext 3 == ⟨none, none, .none, ⟨none, []⟩⟩ && (t.port 3).state == .locked := by decide +kernel

theorem witness_SavesAndRestarts :
    commissioned.takesCommand ∧ commissioned.canonical ∧ commissioned.admitsLevel 0 0 ∧ (cmd 0 []).body = [] ∧
    commissioned.save = none ∧ ({ commissioned with save := some Image.defaults } : State).save.isSome = true ∧
    ({ commissioned with save := some Image.defaults } : State).canonical ∧
    commissioned.generation ≠ 0xFFFFFFFF ∧ ({ commissioned with generation := 0xFFFFFFFE } : State).generation ≠ 0xFFFFFFFF := by
  have h := canonical_of (s := commissioned) (by decide +kernel)
  refine ⟨commissioned_takes, h, commissioned_admits, rfl, rfl, rfl, ?_, by decide, by decide⟩
  obtain ⟨h1, h2, h3, h4, h5, h6, h7, h8, h9, h10, -⟩ := h
  exact ⟨h1, h2, h3, h4, h5, h6, h7, h8, h9, h10, some_all (b := Image.defaults) rfl
    ⟨Table.wf_nil _, Table.wf_nil _, Table.wf_nil _, Table.wf_nil _, Table.wf_nil _⟩⟩

theorem witness_RefusalsAndWaiting :
    let s (n : Nat) : State := { plant with commandQueue := List.replicate n ⟨0x7F, true, cmd 1 []⟩ }
    let w (t i f v : Nat) : TableWrite := ⟨t, i, [[(f, v)]]⟩
    let held (t i : Nat) : Bool := (tableOf t).any fun id => id.holds i
    let first (s : State) (r : CommandRecord) (u : State) : Prop := s.phase = .running ∧ s.replyInHand = none ∧
      s.restart = none ∧
      ((s.commandQueue = [] ∧ u = s) ∨ ∃ rest, s.commandQueue = r :: rest ∧ u = { s with commandQueue := rest })
    (first plant ⟨0x01, true, cmd 1 [0]⟩ plant ∧ first (s 8) ⟨0x7F, true, cmd 1 []⟩ (s 7) ∧
      first (s 1) ⟨0x7F, true, cmd 1 []⟩ plant) ∧
    ((cmd 1 [0]).body.length ≠ 0 ∧ (cmd 1 []).body.length = 0 ∧ 3 < (cmd 4 []).level ∧ (cmd 0 []).level = 0 ∧
      plant.commission = false ∧ (cmd 1 (writes1 9 0 1 0)).body ≠ [] ∧ octetAt (writes1 9 0 1 0) 0 = 9 ∧
      writeBody false [] = none ∧ writeBody true [4, 0, 0] = none ∧ writeBody false [1, 0, 0, 1, 1] = none ∧
      writeBody false (writes1 1 15 1 0) = some (w 1 15 1 0) ∧ (w 1 15 1 0).inRange = false ∧ (w 3 6 7 0).inRange = false ∧
      (w 2 64 1 0).inRange = false ∧ writeBody false (writes1 6 0 1 0) = some (w 6 0 1 0) ∧
      writeBody false (writes1 200 0 1 0) = some (w 200 0 1 0) ∧ (9 < 200)) ∧
    (held 0 0 ∧ held 1 14 ∧ held 2 3 ∧ held 3 63 ∧ held 9 526) ∧
    (commissioned.admitsLevel 0 0 ∧ plant.admitsLevel 1 1 ∧ plant.admitsLevel 2 2) ∧
    ((s 1).commandQueue = ⟨0x7F, true, cmd 1 []⟩ :: [] ∧ (CommandRecord.mk 0x7F true (cmd 1 [])) ≠ ⟨0x01, true, cmd 1 []⟩ ∧
      (s 7).commandQueue.length < 8 ∧ 8 ≤ (s 8).commandQueue.length ∧
      (s 8).commandQueue = ⟨0x7F, true, cmd 1 []⟩ :: List.replicate 7 ⟨0x7F, true, cmd 1 []⟩ ∧
      (CommandRecord.mk 0x01 false (cmd 1 [])).checkGood = false ∧ (CommandRecord.mk 0x06 true (cmd 1 [])).checkGood = true ∧
      (0x06 : Byte) ∉ [0x01, 0x02, 0x03, 0x04, 0x05, 0x10] ∧ (0x43 : Byte) ∉ [0x40, 0x41, 0x42] ∧
      plant.pending = [] ∧ plant.inFlight = [] ∧ plant.changes = [] ∧ plant.noticeQueue = [] ∧
      ({ s 1 with restart := some .soft } : State).restart ≠ none) := by
  refine ⟨⟨⟨rfl, rfl, rfl, .inl ⟨rfl, rfl⟩⟩, ⟨rfl, rfl, rfl, .inr ⟨_, rfl, rfl⟩⟩, ⟨rfl, rfl, rfl, .inr ⟨_, rfl, rfl⟩⟩⟩,
    by decide +kernel, by decide +kernel, ?_, by decide +kernel⟩
  exact ⟨commissioned_admits, ⟨by decide, by decide, .inr (by decide)⟩, ⟨by decide, by decide, .inr (by decide)⟩⟩

/-- The unit takes its head, a CLOSE INTERVAL of level 1 that comes too early, and the next command waits (R159). -/
theorem test_head_taken :
    gets (step { plant with commandQueue := [⟨0x10, true, cmd 1 []⟩, ⟨0x01, true, cmd 3 []⟩], intervalStart := 300 }) fun t =>
      replied 0x10 .refused .state [] t && t.commandQueue.length == 1 := by decide +kernel

end Sys2Proof.Tests
end

section
/-! PROOFS. The grade arithmetic (section 4.7): the penalties of R67 by case, what a computed grade record holds, and the
sum rule of R68 with its overrides. -/

namespace Sys2Proof.Machine

/-! ### The margin penalty by case (R67) -/

@[simp] theorem marginPenalty_noLane (w : WeightSet) (lowest : Option Int) : marginPenalty w false lowest = 0 := rfl

@[simp] theorem marginPenalty_unread (w : WeightSet) : marginPenalty w true none = w.absent := rfl

@[simp] theorem marginPenalty_read (w : WeightSet) (x : Int) :
    marginPenalty w true (some x) = min 1000 ((w.floor - x).toNat * w.margin) := rfl

/-- The product that R67 forms exactly in the integers: a lowest margin at or above the floor costs nothing. -/
theorem marginPenalty_read_int (w : WeightSet) (x : Int) :
    (marginPenalty w true (some x) : Int) = min 1000 (max 0 (w.floor - x) * w.margin) := by
  rw [marginPenalty_read, Nat.cast_min, Nat.cast_mul, Int.toNat_eq_max, max_comm]
  rfl

/-! ### The sum of the five penalties and the rule of R68 -/

/-- The sum of the five penalties that a grade record shows (R68). -/
def GradeRecord.penaltySum (g : GradeRecord) : Nat :=
  g.damagePenalty + g.gapPenalty + g.marginPenalty + g.uncorrectedPenalty + g.correctedPenalty

section
variable (w : WeightSet) (i : Nat) (counting lane : Bool) (r : MarginReadings) (m : Measurement) (n : BitVec 32)
  (v : Option (Nat × Nat))

/-- The grade by the record's own flags and penalties (R68). -/
theorem gradeRecord_grade : (gradeRecord w i counting lane r m n v).grade =
    if (gradeRecord w i counting lane r m n v).silent || (gradeRecord w i counting lane r m n v).unlocked then 0
    else 1000 - (gradeRecord w i counting lane r m n v).penaltySum := rfl

@[simp] theorem gradeRecord_marginPenalty :
    (gradeRecord w i counting lane r m n v).marginPenalty = marginPenalty w lane r.lowest := rfl

@[simp] theorem gradeRecord_marginAbsent :
    (gradeRecord w i counting lane r m n v).marginAbsent = (lane && r.lowest.isNone) := rfl

theorem gradeRecord_silent_iff :
    (gradeRecord w i counting lane r m n v).silent = true ↔ m.packets = 0 ∨ w.silenceLimit < m.silence :=
  decide_eq_true_iff

theorem gradeRecord_grade_of_override
    (h : (gradeRecord w i counting lane r m n v).silent = true ∨ (gradeRecord w i counting lane r m n v).unlocked = true) :
    (gradeRecord w i counting lane r m n v).grade = 0 := by
  rw [gradeRecord_grade, if_pos (Bool.or_eq_true_iff.mpr h)]

theorem gradeRecord_grade_of_no_override (hs : (gradeRecord w i counting lane r m n v).silent = false)
    (hu : (gradeRecord w i counting lane r m n v).unlocked = false) :
    (gradeRecord w i counting lane r m n v).grade = 1000 - (gradeRecord w i counting lane r m n v).penaltySum := by
  rw [gradeRecord_grade, hs, hu]
  rfl

theorem gradeRecord_grade_le : (gradeRecord w i counting lane r m n v).grade ≤ 1000 := by
  rw [gradeRecord_grade]
  split
  · exact Nat.zero_le _
  · exact Nat.sub_le _ _

end

/-- Settles O24: both gradings store `gradeRecord`, whose penalties are those of R67; the grade follows from the record's
own flags and penalty sum, with or without an override. -/
theorem gradeArithmetic : Obligations.GradeArithmetic := by
  refine ⟨fun s x => ⟨_, _, _, rfl⟩, fun s d x => ⟨_, rfl⟩, fun w i counting lane r m n v => ?_⟩
  have noOverride := gradeRecord_grade_of_no_override w i counting lane r m n v
  refine ⟨rfl, rfl, ?noLane, ?unread, ?read, rfl, rfl, gradeRecord_silent_iff w i counting lane r m n v, Iff.rfl,
    gradeRecord_grade_of_override w i counting lane r m n v, ?within, ?exceeded, gradeRecord_grade_le w i counting lane r m n v⟩
  case noLane => rintro rfl; simp
  case unread => rintro rfl hr; simp [hr]
  case read =>
    rintro x rfl hx
    rw [gradeRecord_marginAbsent, gradeRecord_marginPenalty, hx]
    exact ⟨rfl, marginPenalty_read_int w x⟩
  case within =>
    intro hs hu hsum
    rw [noOverride hs hu]
    exact Nat.sub_add_cancel hsum
  case exceeded =>
    intro hs hu hsum
    rw [noOverride hs hu]
    exact Nat.sub_eq_zero_of_le hsum.le

end Sys2Proof.Machine
end

section
/-! PROOFS. The Probe Tap (section 9.8): what EXTEND TAP comes to by case (R155), what an offered packet comes to when the
tap copies it (R154, R156), and the two orders of the extension and the completing copy. -/

namespace Sys2Proof.Machine

/-! ### The verdict of EXTEND TAP by case (R155) -/

section
variable {s : State} {b : List Byte}

theorem extendTap_of_zero (h : beAt b 0 2 = 0) : extendTap b s = .refused .range := by
  simp [extendTap, h]

theorem extendTap_of_idle (hn : 1 ≤ beAt b 0 2) (hr : s.tap.running = false) : extendTap b s = .refused .state := by
  simp [extendTap, hr, Nat.ne_of_gt hn]

theorem extendTap_of_past (hn : 1 ≤ beAt b 0 2) (hr : s.tap.running = true) (h : 65535 < s.tap.stop + beAt b 0 2) :
    extendTap b s = .refused .range := by
  simp [extendTap, hr, Nat.ne_of_gt hn, h]

theorem extendTap_of_within (hn : 1 ≤ beAt b 0 2) (hr : s.tap.running = true) (h : s.tap.stop + beAt b 0 2 ≤ 65535) :
    extendTap b s = .done (be16 (s.tap.stop + beAt b 0 2) ++ be16 s.tap.made ++ be16 s.tap.skipped)
      { s with tap := { s.tap with stop := s.tap.stop + beAt b 0 2 } } := by
  simp [extendTap, hr, Nat.ne_of_gt hn, Nat.not_lt.mpr h]

end

/-! ### EXTEND TAP taken by a free Management Unit -/

section
variable {s : State} {c : Cmd} {n : Nat}

theorem exec_extendTap (h : s.takesCommand) :
    exec (.extendTap c) s = .next (answer (goodRecord 0x39 c) s (command 2 1 c (extendTap c.body) s)) := by
  have dispatch : exec (.extendTap c) s = execExtendTap c s := rfl
  rw [dispatch, execExtendTap, whenRunning_next h.1, manage_takes h]

/-- A body of two octets at a level that is admitted leaves the answer to the command itself. -/
theorem exec_extendTap_admitted (h : s.takesCommand) (hb : c.body.length = 2) (hl : s.admitsLevel c.level 1) :
    exec (.extendTap c) s = .next (answer (goodRecord 0x39 c) s (extendTap c.body s)) := by
  rw [exec_extendTap h, command_admits hb hl]

/-- A level above 1 is refused before the increment is read. -/
theorem exec_extendTap_level (h : s.takesCommand) (hb : c.body.length = 2) (hl : 1 < c.level) :
    exec (.extendTap c) s = .next (s.refuses c 0x39 .level) := by
  have hadmits : decide (c.level ≤ 1) = false := decide_eq_false (Nat.not_le.mpr hl)
  rw [exec_extendTap h, command, hb, beq_self_eq_true, checked_level (.inr hadmits)]
  rfl

theorem exec_extendTap_refused {why : Reason} (h : s.takesCommand) (hb : c.body.length = 2)
    (hl : s.admitsLevel c.level 1) (hv : extendTap c.body s = .refused why) :
    exec (.extendTap c) s = .next (s.refuses c 0x39 why) := by
  rw [exec_extendTap_admitted h hb hl, hv]
  rfl

/-- The running tap is extended, and nothing else changes but the reply in hand. -/
theorem exec_extendTap_extended (h : s.takesCommand) (hb : c.body.length = 2) (hl : s.admitsLevel c.level 1)
    (hi : beAt c.body 0 2 = n) (hn : 1 ≤ n) (hr : s.tap.running = true) (hw : s.tap.stop + n ≤ 65535) :
    exec (.extendTap c) s = .next (({ s with tap := { s.tap with stop := s.tap.stop + n } }).replies c 0x39 .done
      (be16 (s.tap.stop + n) ++ be16 s.tap.made ++ be16 s.tap.skipped)) := by
  subst hi
  rw [exec_extendTap_admitted h hb hl, extendTap_of_within hn hr hw]
  rfl

end

/-! ### A copy by the tap (R154, R156) -/

/-- The tap runs on this port and lane, and the Insert Queue has room for one copy more (R150, R154). -/
structure State.Copies (s : State) (p : Nat) (packet : Packet) : Prop where
  running : s.tap.running = true
  port : s.tap.port = p
  lane : s.tap.covers (laneOf packet) = true
  room : 0 < freeInserts s ∧ tapCopies s < 12

theorem Tap.covers_of_all {t : Tap} (h : t.lane = none) (lane : Nat) : t.covers lane = true := by
  simp [Tap.covers, h]

theorem tapCopies_le_length (s : State) : tapCopies s ≤ s.insertQueue.length := List.length_filter_le _ _

/-- A tap on ALL copies every packet of its port while the Insert Queue holds fewer than 12 inserts. -/
theorem State.Copies.of_all {s : State} {packet : Packet} (hr : s.tap.running = true) (ha : s.tap.lane = none)
    (hq : s.insertQueue.length < 12) : s.Copies s.tap.port packet := by
  have hfree : 0 < freeInserts s := by unfold freeInserts; omega
  exact ⟨hr, rfl, Tap.covers_of_all ha _, hfree, (tapCopies_le_length s).trans_lt hq⟩

section
variable {s : State} {p : Nat} {packet : Packet}

theorem offerTap_of_copies (h : s.Copies p packet) :
    offerTap p packet s =
      if s.tap.stop ≤ s.tap.made + 1 then endTap .complete (placeCopy packet s) else placeCopy packet s := by
  have hcovered : ¬(!(s.tap.running && s.tap.port == p && s.tap.covers (laneOf packet))) = true := by
    simp [h.running, h.port, h.lane]
  rw [offerTap, if_neg hcovered, if_pos h.room]
  rfl

/-- An offer taken from those in flight leaves the tap and the Insert Queue. -/
theorem State.Copies.take (h : s.Copies p packet) (i : Instr) : (s.take i).Copies p packet :=
  ⟨h.running, h.port, h.lane, h.room⟩

/-- An extended tap keeps its port and lane, and a reply in hand takes no place of the Insert Queue (R150, R155). -/
theorem State.Copies.extended (h : s.Copies p packet) (stop : Nat) (c : Cmd) (code : Byte) (outcome : ReplyOutcome)
    (body : List Byte) :
    (({ s with tap := { s.tap with stop := stop } }).replies c code outcome body).Copies p packet :=
  ⟨h.running, h.port, h.lane, h.room⟩

theorem exec_tapOffer (h : s.phase = .running) (hp : p < 15) (hk : packet.length = 188) :
    exec (.tapOffer p packet) s = .next (offerTap p packet (s.take (.tapOffer p packet))) := by
  have dispatch : exec (.tapOffer p packet) s = execTapOffer p packet s := rfl
  rw [dispatch, execTapOffer, onPort_of_lt hp, onPacket_of_length hk, whenRunning_next h]

theorem exec_tapOffer_copied (h : s.phase = .running) (hp : p < 15) (hk : packet.length = 188) (hc : s.Copies p packet)
    (hs : s.tap.made + 1 < s.tap.stop) :
    exec (.tapOffer p packet) s = .next (placeCopy packet (s.take (.tapOffer p packet))) := by
  rw [exec_tapOffer h hp hk, offerTap_of_copies (hc.take _), State.take_tap, if_neg (Nat.not_le.mpr hs)]

theorem exec_tapOffer_completed (h : s.phase = .running) (hp : p < 15) (hk : packet.length = 188)
    (hc : s.Copies p packet) (hs : s.tap.stop ≤ s.tap.made + 1) :
    exec (.tapOffer p packet) s = .next (endTap .complete (placeCopy packet (s.take (.tapOffer p packet)))) := by
  rw [exec_tapOffer h hp hk, offerTap_of_copies (hc.take _), State.take_tap, if_pos hs]

end

/-! ### What a copy and an end of the tap leave -/

section
variable (s : State) (packet : Packet) (how : TapEnd)

@[simp] theorem placeCopy_tap : (placeCopy packet s).tap = { s.tap with made := s.tap.made + 1 } := rfl
@[simp] theorem endTap_tap : (endTap how s).tap = { s.tap with running := false } := rfl

theorem notice_mem_endTap :
    .noticePost (.tapEnded s.tap.made s.tap.skipped how) s.clock ∈ (endTap how s).inFlight :=
  List.mem_append_right _ (List.mem_singleton.mpr rfl)

theorem takesCommand_endTap_placeCopy : (endTap how (placeCopy packet s)).takesCommand ↔ s.takesCommand := Iff.rfl

theorem admitsLevel_endTap_placeCopy (level most : Nat) :
    (endTap how (placeCopy packet s)).admitsLevel level most ↔ s.admitsLevel level most := Iff.rfl

end

/-! ### The two orders of EXTEND TAP and the completing copy (R155) -/

section
variable {s : State} {c : Cmd} {n : Nat} {packet : Packet}

/-- The command first: the offered packet is copied and counted against the new stop count, and the tap runs on. -/
theorem extendTap_then_tapOffer (h : s.takesCommand) (hb : c.body.length = 2) (hl : s.admitsLevel c.level 1)
    (hi : beAt c.body 0 2 = n) (hn : 1 ≤ n) (hw : s.tap.stop + n ≤ 65535) (hp : s.tap.port < 15)
    (hk : packet.length = 188) (hc : s.Copies s.tap.port packet) (hm : s.tap.made + 1 = s.tap.stop) :
    ∃ t u, exec (.extendTap c) s = .next t ∧ exec (.tapOffer s.tap.port packet) t = .next u ∧
      u.tap = { s.tap with stop := s.tap.stop + n, made := s.tap.stop } := by
  have hnew : s.tap.made + 1 < s.tap.stop + n := by omega
  refine ⟨_, _, exec_extendTap_extended h hb hl hi hn hc.running hw,
    exec_tapOffer_copied h.1 hp hk (hc.extended _ _ _ _ _) hnew, ?_⟩
  rw [placeCopy_tap, ← hm]
  rfl

/-- The copy first: the tap ends COMPLETE with its notice in flight, and the command finds it IDLE. -/
theorem tapOffer_then_extendTap (h : s.takesCommand) (hb : c.body.length = 2) (hl : s.admitsLevel c.level 1)
    (hn : 1 ≤ beAt c.body 0 2) (hp : s.tap.port < 15) (hk : packet.length = 188) (hc : s.Copies s.tap.port packet)
    (hm : s.tap.made + 1 = s.tap.stop) :
    ∃ t, exec (.tapOffer s.tap.port packet) s = .next t ∧ t.tap = { s.tap with running := false, made := s.tap.stop } ∧
      .noticePost (.tapEnded s.tap.stop s.tap.skipped .complete) s.clock ∈ t.inFlight ∧
      exec (.extendTap c) t = .next (t.refuses c 0x39 .state) := by
  refine ⟨_, exec_tapOffer_completed h.1 hp hk hc hm.ge, ?ended, ?notice, ?refused⟩
  case ended => rw [endTap_tap, placeCopy_tap, ← hm, State.take_tap]
  case notice =>
    rw [← hm]
    exact notice_mem_endTap (placeCopy packet (s.take (.tapOffer s.tap.port packet))) .complete
  case refused =>
    exact exec_extendTap_refused ((takesCommand_endTap_placeCopy _ _ _).mpr h) hb
      ((admitsLevel_endTap_placeCopy _ _ _ _ _).mpr hl) (extendTap_of_idle hn rfl)

end

/-- Settles O50: each refusal and the extension by the verdict of R155, then the two orders against the copy that would
have reached the old stop count. -/
theorem tapExtended : Obligations.TapExtended := by
  intro s c n h hbody hn16
  have hb : c.body.length = 2 := by rw [hbody, length_be16]
  have hi : beAt c.body 0 2 = n := by simpa [hbody] using beAt_be16 hn16 []
  refine ⟨exec_extendTap_level h hb, ?zero, ?idle, ?past, ?extended, ?orders⟩
  case zero =>
    intro hl hn
    exact exec_extendTap_refused h hb hl (extendTap_of_zero (hi.trans hn))
  case idle =>
    intro hl hn hr
    exact exec_extendTap_refused h hb hl (extendTap_of_idle (hi.symm ▸ hn) hr)
  case past =>
    intro hl hn hr hw
    exact exec_extendTap_refused h hb hl (extendTap_of_past (hi.symm ▸ hn) hr (hi.symm ▸ hw))
  case extended =>
    intro hl hn hr hw
    exact exec_extendTap_extended h hb hl hi hn hr hw
  case orders =>
    intro packet hk hp hr ha hm hq hl hn hw
    have hc : s.Copies s.tap.port packet := State.Copies.of_all hr ha (by omega)
    exact ⟨extendTap_then_tapOffer h hb hl hi hn hw hp hk hc hm,
      tapOffer_then_extendTap h hb hl (hi.symm ▸ hn) hp hk hc hm⟩

end Sys2Proof.Machine
end

section
/-! PROOFS. IDENTIFY (section 10.6): the row taken by a free Management Unit, its reply to an empty body, and the refusal of
any other length (R160, R167). -/

namespace Sys2Proof.Machine

/-- The length check of a command comes before its level and its meaning (R160). -/
theorem command_badLength {n : Nat} {c : Cmd} (h : c.body.length ≠ n) (m : Nat) (v : State → Verdict) (s : State) :
    command n m c v s = .refused .badLength := by
  have hlength : (c.body.length == n) = false := beq_false_of_ne h
  rw [command, hlength, checked_length]

section
variable {s : State} {c : Cmd}

theorem exec_identify (h : s.takesCommand) :
    exec (.identify c) s = .next (answer (goodRecord 0x01 c) s (command 0 3 c identify s)) := by
  have dispatch : exec (.identify c) s = execIdentify c s := rfl
  rw [dispatch, execIdentify, whenRunning_next h.1, manage_takes h]

/-- The reply describes the state in which the command is taken, and nothing but the reply in hand changes. -/
theorem exec_identify_done (h : s.takesCommand) (hb : c.body = []) (hl : s.admitsLevel c.level 3) :
    exec (.identify c) s = .next (s.replies c 0x01 .done
      (identityOctets ++ [Config.revisionMajor, Config.revisionMinor] ++ be32 s.generation.toNat ++
        flag8 s.store.valid ++ flag8 s.save.isSome ++ flag8 s.commission)) := by
  have hlength : c.body.length = 0 := List.length_eq_zero_iff.mpr hb
  rw [exec_identify h, command_admits hlength hl, identify, answer_done]
  rfl

theorem exec_identify_badLength (h : s.takesCommand) (hb : c.body ≠ []) :
    exec (.identify c) s = .next (s.refuses c 0x01 .badLength) := by
  have hlength : c.body.length ≠ 0 := mt List.length_eq_zero_iff.mp hb
  rw [exec_identify h, command_badLength hlength, answer_refused]
  rfl

end

/-- Settles O54: an empty body passes the checks and is answered by `identify`, whose octets are those of R167; any other
body fails the length check. -/
theorem identify_spec : Obligations.Identify := fun _ _ h hl =>
  ⟨fun hb => exec_identify_done h hb hl, exec_identify_badLength h⟩

end Sys2Proof.Machine
end

section
/-! PROOFS. What an update keeps. `Keeps s t` says that going from `s` to `t` leaves the model's queue alone and preserves
each law of Safety.lean. It is a preorder, so that a law is proved once for each elementary update of the state, and an
operation keeps the laws because it is a chain of such updates. -/

namespace Sys2Proof.Machine

/-- The two states have the same queue of commands, and each law of Safety.lean that holds of the first holds of the
second. -/
structure Keeps (s t : State) : Prop where
  queue : t.pending = s.pending
  capacity : s.withinCapacity → t.withinCapacity
  canonical : s.canonical → t.canonical
  placed : s.canonical → s.placed → t.placed
  fault : s.faultLaw → t.faultLaw
  visit : s.visitLaw → t.visitLaw
  tap : s.tapLaw → t.tapLaw
  save : s.saveLaw → t.saveLaw
  store : s.storeLaw → t.storeLaw

namespace Keeps

variable {s t u : State}

@[refl] theorem refl (s : State) : Keeps s s := ⟨rfl, id, id, fun _ => id, id, id, id, id, id⟩

@[trans] theorem trans (h : Keeps s t) (h' : Keeps t u) : Keeps s u where
  queue := h'.queue.trans h.queue
  capacity := h'.capacity ∘ h.capacity
  canonical := h'.canonical ∘ h.canonical
  placed hc hp := h'.placed (h.canonical hc) (h.placed hc hp)
  fault := h'.fault ∘ h.fault
  visit := h'.visit ∘ h.visit
  tap := h'.tap ∘ h.tap
  save := h'.save ∘ h.save
  store := h'.store ∘ h.store

theorem foldl {α : Type} {f : State → α → State} (h : ∀ t x, Keeps t (f t x)) (l : List α) (s : State) :
    Keeps s (l.foldl f s) := by
  induction l generalizing s with
  | nil => exact refl s
  | cons x l ih => exact (h s x).trans (ih (f s x))

theorem of_ite {c : Prop} [Decidable c] (h : c → Keeps s t) (h' : ¬c → Keeps s u) : Keeps s (if c then t else u) := by
  split
  · exact h ‹_›
  · exact h' ‹_›

end Keeps

/-! ### Fields that no law speaks of -/

/-- The state without the fields that no law of Safety.lean speaks of. -/
def lawMask (s : State) : State :=
  { s with
    inFlight := [], now := 0, phase := .off, commission := false, outputLink := [], headHeld := false, intervalNumber := 0
    intervalStart := 0, intervalLength := 0, gradingTimer := none, reportCounter := 0, tapCounter := 0
    settings := Settings.default, generation := 0, replyInHand := none, restart := none }

theorem keeps_lawMask (s : State) : Keeps s (lawMask s) := ⟨rfl, id, id, fun _ => id, id, id, id, id, id⟩

theorem lawMask_keeps (s : State) : Keeps (lawMask s) s := ⟨rfl, id, id, fun _ => id, id, id, id, id, id⟩

theorem Keeps.of_lawMask {s t : State} (h : lawMask t = lawMask s) : Keeps s t :=
  (keeps_lawMask s).trans (h ▸ lawMask_keeps t)

section
variable {s : State}

theorem keeps_send (l : List Instr) : Keeps s (s.send l) := .of_lawMask rfl
theorem keeps_take (i : Instr) : Keeps s (s.take i) := .of_lawMask rfl
theorem keeps_post (n : Notice) : Keeps s (s.post n) := .of_lawMask rfl
theorem keeps_raise (f : FaultReport) : Keeps s (s.raise f) := .of_lawMask rfl
theorem keeps_atTime (t : Nat) : Keeps s (s.atTime t) := .of_lawMask rfl

end

namespace Keeps
variable {s t : State} (h : Keeps s t)
include h

theorem send {l : List Instr} : Keeps s (t.send l) := h.trans (keeps_send l)
theorem post {n : Notice} : Keeps s (t.post n) := h.trans (keeps_post n)
theorem raise {f : FaultReport} : Keeps s (t.raise f) := h.trans (keeps_raise f)

end Keeps

/-! ### Tables: a property of every listed record -/

namespace Table
variable {α β : Type} {P : α → Prop}

theorem forall_get {d : Nat → α} {t : Table α} (h : ∀ e ∈ t, P e.2) (hd : ∀ k, P (d k)) (k : Nat) : P (get d t k) := by
  induction t with
  | nil => exact hd k
  | cons a t ih =>
    rw [get_cons]
    split
    · exact h a (List.mem_cons_self ..)
    · exact ih fun e he => h e (List.mem_cons_of_mem _ he)

theorem forall_set [DecidableEq α] {d : Nat → α} {t : Table α} (h : ∀ e ∈ t, P e.2) {k : Nat} {v : α} (hv : P v) :
    ∀ e ∈ set d t k v, P e.2 := by
  have herase : ∀ e ∈ erase t k, P e.2 := fun e he => h e (List.mem_of_mem_filter he)
  unfold set
  split
  · exact herase
  · intro e he
    rcases mem_insert he with rfl | he
    · exact hv
    · exact herase e he

theorem forall_remap [DecidableEq β] {Q : β → Prop} {d : Nat → β} {f : Nat → α → β} {t : Table α}
    (h : ∀ e ∈ t, Q (f e.1 e.2)) : ∀ e ∈ remap d f t, Q e.2 := by
  intro e he
  obtain ⟨a, ha, hae⟩ := List.mem_filterMap.1 he
  split at hae
  · cases hae
  · cases hae; exact h a ha

end Table

/-! ### Fields whose laws speak of them alone -/

/-- The fields of the laws of the Fault Record, the Visit Queue, the tap, the save and the store, with the queue. -/
def State.recordFields (s : State) : List Instr × List Nat × Tap × Option Image × Store × BitVec 8 × FaultRecord :=
  (s.pending, s.visitQueue, s.tap, s.save, s.store, s.faultSummary, s.faultRecord)

/-- Where those fields stand, the capacities, the canonical form and the laws of membership are all there is to keep. -/
theorem Keeps.of_recordFields {s t : State} (h : t.recordFields = s.recordFields)
    (capacity : s.withinCapacity → t.withinCapacity) (canonical : s.canonical → t.canonical)
    (placed : s.canonical → s.placed → t.placed) : Keeps s t := by
  simp only [State.recordFields, Prod.mk.injEq] at h
  obtain ⟨hp, hv, ht, hs, hr, hf, hr'⟩ := h
  refine ⟨hp, capacity, canonical, placed, ?_, ?_, ?_, ?_, ?_⟩
  · simp only [State.faultLaw, hf, hr', imp_self]
  · simp only [State.visitLaw, hv, imp_self]
  · simp only [State.tapLaw, ht, imp_self]
  · simp only [State.saveLaw, hs, hr, imp_self]
  · simp only [State.storeLaw, hr, imp_self]

/-! ### Updates of records that only a counter or the canonical form speaks of -/

section
variable {s : State}

theorem keeps_setPort {p : Nat} {v : Port} (hv : (s.port p).withinTop → v.withinTop) : Keeps s (s.setPort p v) :=
  .of_recordFields rfl (by
    rintro ⟨hc, hq, hd, hf, hi, ht, hm, hn, hl, ho, hmal, hcmd, hports, hrest⟩
    have hp : (s.port p).withinTop := Table.forall_get hports (fun _ => by simp [Port.default, Port.started,
      PortCounters.zero, MarginReadings.cleared, Port.withinTop]) p
    exact ⟨hc, hq, hd, hf, hi, ht, hm, hn, hl, ho, hmal, hcmd, Table.forall_set hports (hv hp), hrest⟩)
  (fun ⟨hp, hrest⟩ => ⟨Table.wf_set _ _ _ _ hp, hrest⟩)
  (fun _ h => h)

theorem keeps_setWeightSet (w : Nat) (v : WeightSet) : Keeps s (s.setWeightSet w v) :=
  .of_recordFields rfl id
  (fun ⟨hp, hl, hs, hc, hw, hrest⟩ => ⟨hp, hl, hs, hc, Table.wf_set _ _ _ _ hw, hrest⟩)
  (fun _ h => h)

theorem keeps_setSweepEntry (e : Nat) (v : SweepEntry) : Keeps s (s.setSweepEntry e v) :=
  .of_recordFields rfl id
  (fun ⟨hp, hl, hs, hc, hw, he, hrest⟩ => ⟨hp, hl, hs, hc, hw, Table.wf_set _ _ _ _ he, hrest⟩)
  (fun _ h => h)

theorem keeps_setSweepPort (p : Nat) (v : SweepPort) : Keeps s (s.setSweepPort p v) :=
  .of_recordFields rfl id
  (fun ⟨hp, hl, hs, hc, hw, he, hm, hrest⟩ => ⟨hp, hl, hs, hc, hw, he, Table.wf_set _ _ _ _ hm, hrest⟩)
  (fun _ h => h)

theorem keeps_setDirContext (p : Nat) (v : DirContext) : Keeps s (s.setDirContext p v) :=
  .of_recordFields rfl id
  (fun ⟨hp, hl, hs, hc, hw, he, hm, hd, hrest⟩ =>
    ⟨hp, hl, hs, hc, hw, he, hm, Table.wf_set _ _ _ _ hd, hrest⟩)
  (fun _ h => h)

theorem keeps_setSnapshot (x : Nat) (v : Option Snapshot) : Keeps s (s.setSnapshot x v) :=
  .of_recordFields rfl id
  (fun ⟨hp, hl, hs, hc, hw, he, hm, hd, hn, hrest⟩ =>
    ⟨hp, hl, hs, hc, hw, he, hm, hd, Table.wf_set _ _ _ _ hn, hrest⟩)
  (fun _ h => h)

end

/-! ### Services -/

/-- The candidates a service names: its members, its selection and its pending target. -/
def Service.names (v : Service) (c : Nat) : Prop :=
  c ∈ v.rank ∨ v.selected = some c ∨ ∃ a, v.armed = some a ∧ a.target = c

/-- What an update of one service must leave for the laws to stand: its counters stop, it does not become UNUSED with
members, its rank order is at most reordered, and it names no candidate it did not name. -/
structure Service.KeptBy (w v : Service) : Prop where
  top : w.withinTop → v.withinTop
  used : v.cfg.state = .unused → w.cfg.state = .unused ∨ w.rank = []
  rank : v.rank.Perm w.rank
  names : ∀ c, v.names c → w.names c

/-- The selections and pending targets are members exactly when every name is. -/
theorem selectionLaw_iff (s : State) : s.selectionLaw ↔ ∀ k c, (s.service k).names c → c ∈ (s.service k).rank := by
  constructor
  · rintro ⟨hsel, harm⟩ k c (h | h | ⟨a, h, rfl⟩)
    · exact h
    · exact hsel k c h
    · exact harm k a h
  · exact fun h => ⟨fun k c hc => h k c (.inr (.inl hc)), fun k a ha => h k _ (.inr (.inr ⟨a, ha, rfl⟩))⟩

theorem Service.withinTop_default (k : Nat) : (Service.default k).withinTop := by
  simp [Service.default, Service.started, Service.withinTop]

/-- The laws of membership under updates of services, the candidates standing as they are. -/
theorem placed_of_services {s t : State} (hs : s.placed) (hk : ∀ k, (s.service k).KeptBy (t.service k))
    (hc : t.candidates = s.candidates) (hl : t.laneMap = s.laneMap) (hi : t.store = s.store) (hv : t.save = s.save) :
    t.placed := by
  obtain ⟨howned, hfree, hranks, hsel, hlane, hstore, hsave⟩ := hs
  have hcand : ∀ c, t.candidate c = s.candidate c := fun c => by rw [State.candidate, hc]; rfl
  refine ⟨fun c hne => ?owned, fun c he => ?free, fun k => ?ranks, (selectionLaw_iff t).2 fun k c hn => ?sel, ?lane,
    hi ▸ hstore, hv ▸ hsave⟩
  case owned =>
    rw [hcand] at hne ⊢
    obtain ⟨hx, k, ho, hu⟩ := howned c hne
    refine ⟨hx, k, ho, fun hu' => ?_⟩
    rcases (hk k).used hu' with h | h
    · exact hu h
    · exact List.not_mem_nil (h ▸ ((hranks k).2.2 c).2 ⟨hne, ho⟩)
  case free => rw [hcand] at he ⊢; exact hfree c he
  case ranks =>
    obtain ⟨hnd, hlen, hmem⟩ := hranks k
    have hp := (hk k).rank
    refine ⟨hp.nodup_iff.2 hnd, hp.length_eq ▸ hlen, fun c => ?_⟩
    rw [hp.mem_iff, hcand, hmem c]
  case sel => exact (hk k).rank.mem_iff.2 ((selectionLaw_iff s).1 hsel k c ((hk k).names c hn))
  case lane =>
    refine ⟨hl ▸ hlane.1, fun c => ?_⟩
    rw [hl, hcand]
    exact hlane.2 c

theorem Service.KeptBy.refl (w : Service) : w.KeptBy w := ⟨id, .inl, .refl _, fun _ => id⟩

theorem Service.KeptBy.trans {u v w : Service} (h : u.KeptBy v) (h' : v.KeptBy w) : u.KeptBy w where
  top := h'.top ∘ h.top
  used hu := (h'.used hu).elim h.used fun hr => .inr (List.Perm.nil_eq (hr ▸ h.rank)).symm
  rank := h'.rank.trans h.rank
  names c := h.names c ∘ h'.names c

theorem withinCapacity_setService {s : State} {k : Nat} {v : Service} (hv : (s.service k).withinTop → v.withinTop) :
    s.withinCapacity → (s.setService k v).withinCapacity := by
  rintro ⟨hc, hq, hd, hf, hi, ht, hm, hn, hl, ho, hmal, hcmd, hports, hsvc, hrest⟩
  have hk : (s.service k).withinTop := Table.forall_get hsvc Service.withinTop_default k
  exact ⟨hc, hq, hd, hf, hi, ht, hm, hn, hl, ho, hmal, hcmd, hports, Table.forall_set hsvc (hv hk), hrest⟩

theorem canonical_setService {s : State} (k : Nat) (v : Service) : s.canonical → (s.setService k v).canonical :=
  fun ⟨hp, hl, hs, hrest⟩ => ⟨hp, hl, Table.wf_set _ _ _ _ hs, hrest⟩

theorem keeps_setService {s : State} {k : Nat} {v : Service} (hv : (s.service k).KeptBy v) : Keeps s (s.setService k v) :=
  .of_recordFields rfl (withinCapacity_setService hv.top) (canonical_setService k v)
    (fun _ h => placed_of_services h (fun j => by
      rw [State.service_setService]
      split
      · subst j; exact hv
      · exact .refl _) rfl rfl rfl rfl)

/-! ### Candidates -/

/-- What an update of a candidate other than a change of its entry leaves: its counters stop, its configuration stands. -/
structure Candidate.KeptBy (x y : Candidate) : Prop where
  top : x.withinTop → y.withinTop
  cfg : y.cfg = x.cfg

theorem Candidate.KeptBy.refl (x : Candidate) : x.KeptBy x := ⟨id, rfl⟩

theorem Candidate.withinTop_default (c : Nat) : (Candidate.default c).withinTop := by
  simp [Candidate.default, Candidate.fresh, Measurement.opened, Candidate.withinTop]

/-- The laws of membership speak of a candidate's configuration only. -/
theorem placed_of_candidates {s t : State} (hs : s.placed) (hk : ∀ c, (t.candidate c).cfg = (s.candidate c).cfg)
    (hv : t.services = s.services) (hl : t.laneMap = s.laneMap) (hi : t.store = s.store) (hsv : t.save = s.save) :
    t.placed := by
  obtain ⟨howned, hfree, hranks, hsel, hlane, hstore, hsave⟩ := hs
  have hservice : ∀ k, t.service k = s.service k := fun k => by rw [State.service, hv]; rfl
  refine ⟨fun c => ?_, fun c => ?_, fun k => ?_, (selectionLaw_iff t).2 fun k c => ?_, ⟨hl ▸ hlane.1, fun c => ?_⟩,
    hi ▸ hstore, hsv ▸ hsave⟩
  · simp only [hk, hservice]; exact howned c
  · rw [hk]; exact hfree c
  · simp only [hk, hservice]; exact hranks k
  · rw [hservice]; exact (selectionLaw_iff s).1 hsel k c
  · rw [hl, hk]; exact hlane.2 c

theorem withinCapacity_setCandidate {s : State} {c : Nat} {y : Candidate}
    (hy : (s.candidate c).withinTop → y.withinTop) : s.withinCapacity → (s.setCandidate c y).withinCapacity := by
  rintro ⟨hc, hq, hd, hf, hi, ht, hm, hn, hl, ho, hmal, hcmd, hports, hsvc, hcand, hrest⟩
  have hx : (s.candidate c).withinTop := Table.forall_get hcand Candidate.withinTop_default c
  exact ⟨hc, hq, hd, hf, hi, ht, hm, hn, hl, ho, hmal, hcmd, hports, hsvc, Table.forall_set hcand (hy hx), hrest⟩

theorem canonical_setCandidate {s : State} (c : Nat) (y : Candidate) : s.canonical → (s.setCandidate c y).canonical :=
  fun ⟨hp, hl, hs, hc, hrest⟩ => ⟨hp, hl, hs, Table.wf_set _ _ _ _ hc, hrest⟩

theorem keeps_setCandidate {s : State} {c : Nat} {y : Candidate} (hy : (s.candidate c).KeptBy y) :
    Keeps s (s.setCandidate c y) :=
  .of_recordFields rfl (withinCapacity_setCandidate hy.top) (canonical_setCandidate c y)
    (fun _ h => placed_of_candidates h (fun d => by
      rw [State.candidate_setCandidate]
      split
      · subst d; exact hy.cfg
      · rfl) rfl rfl rfl rfl)

/-- Every listed candidate passed through a function that leaves its configuration and the default record. -/
theorem keeps_remapCandidates {s : State} {f : Candidate → Candidate} (hf : ∀ x : Candidate, x.KeptBy (f x))
    (hd : ∀ c, f (Candidate.default c) = Candidate.default c) :
    Keeps s { s with candidates := Table.remap Candidate.default (fun _ x => f x) s.candidates } :=
  .of_recordFields rfl (by
    rintro ⟨hc, hq, hd, hf', hi, ht, hm, hn, hl, ho, hmal, hcmd, hports, hsvc, hcand, hrest⟩
    have hall : ∀ e ∈ Table.remap Candidate.default (fun _ x => f x) s.candidates, e.2.withinTop :=
      Table.forall_remap fun e he => (hf e.2).top (hcand e he)
    exact ⟨hc, hq, hd, hf', hi, ht, hm, hn, hl, ho, hmal, hcmd, hports, hsvc, hall, hrest⟩)
  (fun ⟨hp, hl, hs, hc, hrest⟩ =>
    ⟨hp, hl, hs, Table.wf_remap Candidate.default (fun _ x => f x) s.candidates hc.1, hrest⟩)
  (fun hcan h => placed_of_candidates h (fun c =>
    (congrArg Candidate.cfg (Table.get_remap Candidate.default Candidate.default (fun _ x => f x) s.candidates
      hcan.2.2.2.1.1 c (hd c))).trans (hf _).cfg) rfl rfl rfl rfl)

/-- Every listed port passed through a function that leaves its counters and at most clears its readings. -/
theorem keeps_remapPorts {s : State} {f : Nat → Port → Port} (hf : ∀ p v, v.withinTop → (f p v).withinTop) :
    Keeps s { s with ports := Table.remap Port.default f s.ports } :=
  .of_recordFields rfl (by
    rintro ⟨hc, hq, hd, hf', hi, ht, hm, hn, hl, ho, hmal, hcmd, hports, hrest⟩
    have hall : ∀ e ∈ Table.remap Port.default f s.ports, e.2.withinTop :=
      Table.forall_remap fun e he => hf e.1 e.2 (hports e he)
    exact ⟨hc, hq, hd, hf', hi, ht, hm, hn, hl, ho, hmal, hcmd, hall, hrest⟩)
  (fun ⟨hp, hrest⟩ => ⟨Table.wf_remap Port.default f s.ports hp.1, hrest⟩)
  (fun _ h => h)

end Sys2Proof.Machine
end

section
/-! PROOFS. What each operation of the blocks keeps (`Keeps`): the Port Acquisition Units, Directory Watch, the Report Unit,
the Output Composer, the Switch Controller, the Classifier, the Quality Monitor and the Ranking Unit. -/

namespace Sys2Proof.Machine

theorem satAdd_le (top a b : Nat) : satAdd top a b ≤ top := Nat.min_le_left ..

theorem bump_le (n : Nat) : bump n ≤ top32 := satAdd_le ..

variable (s : State)

/-! ### Ports (01) -/

section
variable (p : Nat)

theorem sendLeftLocked_keeps : Keeps s (sendLeftLocked p s) := keeps_send _

theorem restartPort_keeps : Keeps s (restartPort p s) := by
  have h : Keeps s (s.setPort p (s.port p).restarted) :=
    keeps_setPort fun ⟨hc, hd, _⟩ => ⟨hc, hd, Nat.zero_le _, Nat.zero_le _⟩
  exact .of_ite (fun _ => h.trans (sendLeftLocked_keeps _ p)) fun _ => h

theorem declareOutage_keeps : Keeps s (declareOutage p s) := by
  have out (v : Port) (hc : v.counters = { (s.port p).counters with outages := bump (s.port p).counters.outages })
      (hr : v.readings = (s.port p).readings) : Keeps s (s.setPort p v) :=
    keeps_setPort fun ⟨⟨ha, hs, hb, _⟩, hrest⟩ => by
      simp only [Port.withinTop, hc, hr]
      exact ⟨⟨ha, hs, hb, bump_le _⟩, hrest⟩
  exact .of_ite (fun _ => (out _ (by rfl) (by rfl)).send) fun _ => (out _ (by rfl) (by rfl)).send.post

theorem loseSync_keeps : Keeps s (loseSync p s) := by
  have lost (v : Port) (hc : v.counters = { (s.port p).counters with
      syncLosses := bump (s.port p).counters.syncLosses }) (hr : v.readings = (s.port p).readings) :
      Keeps s (sendLeftLocked p (s.setPort p v)) :=
    (keeps_setPort fun ⟨⟨ha, _, hb, ho⟩, hrest⟩ => by
      simp only [Port.withinTop, hc, hr]
      exact ⟨⟨ha, bump_le _, hb, ho⟩, hrest⟩).trans (sendLeftLocked_keeps _ p)
  exact .of_ite (fun _ => (lost _ (by rfl) (by rfl)).trans (declareOutage_keeps _ p)) fun _ => lost _ (by rfl) (by rfl)

theorem enterLocked_keeps : Keeps s (enterLocked p s) :=
  .of_ite (fun _ => (keeps_setPort (by exact id)).send.post) fun _ => keeps_setPort id

theorem searchOctet_keeps (o : Byte) : Keeps s (searchOctet p o s) := .of_ite (fun _ => keeps_setPort id) fun _ => .refl s

theorem dropConfirmation_keeps : Keeps s (dropConfirmation p s) := keeps_setPort id

theorem countBlip_keeps : Keeps s (countBlip p s) :=
  .of_ite (fun _ => keeps_setPort fun ⟨⟨ha, hs, _, ho⟩, hrest⟩ => ⟨⟨ha, hs, bump_le _, ho⟩, hrest⟩) fun _ => .refl s

theorem confirmOctet_keeps (o : Byte) : Keeps s (confirmOctet p o s) :=
  .of_ite (fun _ => .refl s) fun _ => .of_ite (fun _ => dropConfirmation_keeps s p) fun _ =>
    .of_ite (fun _ => keeps_setPort id) fun _ => (countBlip_keeps s p).trans (enterLocked_keeps _ p)

theorem lockedOctet_keeps (o : Byte) : Keeps s (lockedOctet p o s) :=
  .of_ite (fun _ => .refl s) fun _ => .of_ite (fun _ => keeps_setPort id) fun _ =>
    .of_ite (fun _ => keeps_setPort id) fun _ => loseSync_keeps s p

theorem starve_keeps : Keeps s (starve p s) := by
  unfold starve
  split
  · exact .refl s
  · exact (keeps_atTime _).trans (.of_ite (fun _ => loseSync_keeps _ p) fun _ => dropConfirmation_keeps _ p)

theorem holdoverExpires_keeps : Keeps s (holdoverExpires p s) := by
  unfold holdoverExpires
  split
  · exact .refl s
  · exact (keeps_atTime _).trans (declareOutage_keeps _ p)

theorem readMargin_keeps (packet : Packet) : Keeps s (readMargin p packet s) := by
  have read (u : State) (r : MarginReadings) (f : MarginFields) (n : Nat) (hr : (u.port p).readings = r) :
      Keeps u (u.setPort p { u.port p with lastMarginSeq := some n, readings := updateReadings r f }) :=
    keeps_setPort fun ⟨ha, hb, _⟩ => ⟨ha, hb, satAdd_le .., satAdd_le ..⟩
  refine .of_ite (fun _ => .refl s) fun _ => .of_ite (fun _ => keeps_setPort ?_) fun _ =>
    .of_ite (fun _ => .refl s) fun _ => .of_ite (fun _ => (read s _ _ _ rfl).send) fun _ => read s _ _ _ rfl
  exact fun ⟨ha, ⟨hu, _, hrest⟩, hr⟩ => ⟨ha, ⟨hu, bump_le _, hrest⟩, hr⟩

theorem countAccepted_keeps : Keeps s (countAccepted p s) :=
  keeps_setPort fun ⟨⟨_, ha⟩, hrest⟩ => ⟨⟨bump_le _, ha⟩, hrest⟩

theorem offerToTap_keeps (packet : Packet) : Keeps s (offerToTap p packet s) :=
  .of_ite (fun _ => keeps_send _) fun _ => .refl s

theorem acceptPacket_keeps (packet : Packet) : Keeps s (acceptPacket p packet s) := by
  have h : Keeps s (offerToTap p packet (countAccepted p s)) := (countAccepted_keeps s p).trans (offerToTap_keeps _ p packet)
  exact .of_ite (fun _ => .of_ite (fun _ => h.trans (readMargin_keeps _ p packet)) fun _ => h.send) fun _ => .refl s

theorem retunePort_keeps : Keeps s (retunePort p s) := (restartPort_keeps s p).trans (keeps_setPort id)

theorem followDirCheck_keeps (b a : Bool) : Keeps s (followDirCheck p b a s) :=
  .of_ite (fun _ => keeps_setDirContext ..) fun _ => .refl s

theorem applyPortWrite_keeps (fields : List (Nat × Nat)) : Keeps s (applyPortWrite p fields s) := by
  have write (c : PortConfig) : Keeps s (s.setPort p { s.port p with cfg := c }) := keeps_setPort id
  exact ((write _).trans (.of_ite (fun _ => restartPort_keeps _ p) fun _ => .refl _)).trans (followDirCheck_keeps _ p _ _)

theorem holdPortWrite_keeps (tag : BitVec 16) (fields : List (Nat × Nat)) : Keeps s (holdPortWrite p tag fields s) :=
  keeps_setPort id

theorem applyHeldPortWrite_keeps : Keeps s (applyHeldPortWrite p s) := by
  unfold applyHeldPortWrite
  split
  · exact .refl s
  · have h : Keeps s (s.setPort p { s.port p with held := none }) := keeps_setPort id
    dsimp only
    split
    · exact h.trans (applyPortWrite_keeps _ p _)
    · exact .of_ite (fun _ => (h.trans (applyPortWrite_keeps _ p _)).raise.post) fun _ => h.trans (applyPortWrite_keeps _ p _)

end

/-! ### Directory Watch (08) -/

theorem countDiscard_keeps (p : Nat) : Keeps s (countDiscard p s) :=
  keeps_setPort fun ⟨ha, ⟨hu, hb, hc, _⟩, hrest⟩ => ⟨ha, ⟨hu, hb, hc, bump_le _⟩, hrest⟩

theorem countCrcFailure_keeps (p : Nat) : Keeps s (countCrcFailure p s) :=
  keeps_setPort fun ⟨ha, ⟨hu, hb, _, hd⟩, hrest⟩ => ⟨ha, ⟨hu, hb, bump_le _, hd⟩, hrest⟩

theorem replaceSnapshot_keeps (x : Nat) (i : SetIdentity) (entries : List (Nat × Nat)) :
    Keeps s (replaceSnapshot x i entries s) := keeps_setSnapshot ..

/-- A new Discovery Log and overflow count within their bounds. -/
theorem keeps_discoveries {l : List Discovery} {n : Nat} (hn : s.discoveryOverflow ≤ top32 → n ≤ top32)
    (hl : s.discoveries.length ≤ 128 → l.length ≤ 128)
    (ht : (∀ d ∈ s.discoveries, d.times ≤ 255) → ∀ d ∈ l, d.times ≤ 255) :
    Keeps s { s with discoveries := l, discoveryOverflow := n } :=
  .of_recordFields rfl
    (fun ⟨hc, hq, hd, hf, hi, hcop, hm, hno, hlo, ho, hmal, hcmd, hp, hs, hcand, htimes⟩ =>
      ⟨hc, hq, hl hd, hf, hi, hcop, hm, hno, hlo, hn ho, hmal, hcmd, hp, hs, hcand, ht htimes⟩) id fun _ => id

theorem logDiscovery_keeps (x : Nat) (d : Nat × Nat) : Keeps s (logDiscovery x s d) := by
  refine .of_ite (fun _ => ?seen) fun _ => .of_ite (fun hl => ?new) fun _ => ?lost
  case seen =>
    refine keeps_discoveries s id (fun h => by simpa using h) fun h e he => ?_
    obtain ⟨a, ha, rfl⟩ := List.mem_map.1 he
    split
    · exact satAdd_le ..
    · exact h a ha
  case new =>
    refine keeps_discoveries s id (fun _ => by simpa using hl) fun h e he => ?_
    rcases List.mem_append.1 he with he | he
    · exact h e he
    · rw [List.mem_singleton.1 he]; exact (by decide : 1 ≤ 255)
  case lost => exact keeps_discoveries s (fun _ => satAdd_le ..) id id

theorem checkedCandidate_keptBy (x : Nat) (entries : List (Nat × Nat)) (v : Candidate) :
    v.KeptBy (checkedCandidate x entries v) := by
  unfold checkedCandidate
  split
  · exact .refl v
  · split <;> exact ⟨id, rfl⟩

theorem completeDirectory_keeps (x : Nat) (i : SetIdentity) (entries : List (Nat × Nat)) :
    Keeps s (completeDirectory x i entries s) := by
  have checks (u : State) : Keeps u { u with
      candidates := Table.remap Candidate.default (fun _ v => checkedCandidate x entries v) u.candidates } :=
    keeps_remapCandidates (checkedCandidate_keptBy x entries) fun _ => rfl
  have log (l : List (Nat × Nat)) (u : State) : Keeps u (l.foldl (logDiscovery x) u) :=
    .foldl (fun t d => logDiscovery_keeps t x d) l u
  have all := fun l m => (((replaceSnapshot_keeps s x i entries).trans (checks _)).trans (log l _)).send (l := m)
  exact .of_ite (fun _ => (all _ _).post) fun _ => all _ _

theorem abandonSet_keeps (p : Nat) : Keeps s (abandonSet p s) := keeps_setDirContext ..

theorem holdSection_keeps (p : Nat) (i : SetIdentity) (n : Nat) (entries : List (Nat × Nat))
    (held : List (Nat × List (Nat × Nat))) : Keeps s (holdSection p i n entries held s) := by
  refine .of_ite (fun _ => ?_) fun _ => keeps_setDirContext ..
  split
  · exact (abandonSet_keeps s p).trans (completeDirectory_keeps _ _ _ _)
  · exact .refl s

theorem takeGoodSection_keeps (p : Nat) (l : List Byte) : Keeps s (takeGoodSection p l s) := by
  refine .of_ite (fun _ => .refl s) fun _ =>
    .of_ite (fun _ => (abandonSet_keeps s p).trans (countDiscard_keeps _ p)) fun _ => ?_
  split
  · exact holdSection_keeps ..
  · refine .of_ite (fun _ => ?_) fun _ => .of_ite (fun _ => .refl s) fun _ => holdSection_keeps ..
    exact Keeps.trans (.of_ite (fun _ => .refl s) fun _ => countDiscard_keeps s p) (holdSection_keeps ..)

theorem takeItem_keeps (p : Nat) (item : DirItem) : Keeps s (takeItem p s item) :=
  match item with
  | .discard => countDiscard_keeps s p
  | .badLength => (abandonSet_keeps s p).trans (countDiscard_keeps _ p)
  | .complete _ => .of_ite (fun _ => takeGoodSection_keeps ..) fun _ => countCrcFailure_keeps ..

theorem directoryPacket_keeps (p source : Nat) (packet : Packet) : Keeps s (directoryPacket p source packet s) :=
  .of_ite (fun _ => .refl s) fun _ => (keeps_setDirContext ..).trans (.foldl (fun t i => takeItem_keeps t p i) _ _)

theorem directoryLeftLocked_keeps (p : Nat) : Keeps s (directoryLeftLocked p s) :=
  .of_ite (fun _ => .refl s) fun _ => (keeps_setDirContext ..).trans (.foldl (fun t i => takeItem_keeps t p i) _ _)

end Sys2Proof.Machine
end

section
/-! PROOFS. What each operation keeps, continued: the Report Unit, the Output Composer and the Probe Tap. -/

namespace Sys2Proof.Machine

variable (s : State)

/-! ### The Report Unit (11) -/

theorem faultCode_lt (f : FaultReport) : faultCode f < 8 := by cases f <;> simp [faultCode]

/-- Recording a fault sets its bit of the Fault Summary and leaves every other. -/
theorem enterFault_summary (f : FaultReport) (i : Nat) :
    (enterFault f s).faultSummary.getLsbD i = (s.faultSummary.getLsbD i || decide (i = faultCode f)) := by
  have hf := faultCode_lt f
  simp only [enterFault, BitVec.getLsbD_or, BitVec.natCast_eq_ofNat, BitVec.getLsbD_ofNat, Nat.one_shiftLeft, Nat.testBit_two_pow, eq_comm (a := i)]
  by_cases h : faultCode f = i
  · simp [h, h ▸ hf]
  · simp [h]

theorem enterFault_keeps (f : FaultReport) : Keeps s (enterFault f s) where
  queue := rfl
  capacity := id
  canonical := id
  placed _ := id
  visit := id
  tap := id
  save := id
  store := id
  fault h := by
    by_cases hl : s.faultRecord.locked = true
    · rw [State.faultLaw, if_pos hl] at h
      obtain ⟨e, he, hbit⟩ := h
      have hr : (enterFault f s).faultRecord = { s.faultRecord with lost := true } := if_pos hl
      rw [State.faultLaw, hr, if_pos hl]
      exact ⟨e, he, by rw [enterFault_summary, hbit, Bool.true_or]⟩
    · have hr : (enterFault f s).faultRecord = ⟨true, false, some ⟨f, s.intervalNumber⟩⟩ := if_neg hl
      rw [State.faultLaw, hr, if_pos rfl]
      exact ⟨_, rfl, by rw [enterFault_summary, decide_eq_true rfl, Bool.or_true]⟩

theorem keeps_noticeQueue {l : List NoticeRecord} (hl : s.noticeQueue.length ≤ 64 → l.length ≤ 64) :
    Keeps s { s with noticeQueue := l } :=
  .of_recordFields rfl
    (fun ⟨hc, hq, hd, hf, hi, ht, hm, hn, hrest⟩ => ⟨hc, hq, hd, hf, hi, ht, hm, hl hn, hrest⟩) id fun _ => id

theorem queueNotice_keeps (r : NoticeRecord) (h : s.noticeQueue.length < 64) : Keeps s (queueNotice r s) :=
  keeps_noticeQueue s fun _ => by simpa using h

theorem loseNotice_keeps : Keeps s (loseNotice s) :=
  .of_recordFields rfl
    (fun ⟨hc, hq, hd, hf, hi, ht, hm, hn, _, hrest⟩ => ⟨hc, hq, hd, hf, hi, ht, hm, hn, satAdd_le .., hrest⟩)
    id fun _ => id

theorem overflowNotice_keeps : Keeps s (overflowNotice s) :=
  .of_ite (fun _ => .refl s) fun _ => .of_ite (queueNotice_keeps s _) fun _ => loseNotice_keeps s

theorem recordOverflow_keeps : Keeps s (recordOverflow s) :=
  .of_ite (fun _ => (enterFault_keeps s _).trans (overflowNotice_keeps _)) fun _ => enterFault_keeps s _

theorem takeNotice_keeps (r : NoticeRecord) : Keeps s (takeNotice r s) :=
  .of_ite (fun _ => .refl s) fun _ => .of_ite (queueNotice_keeps s r) fun _ =>
    (loseNotice_keeps s).trans (recordOverflow_keeps _)

theorem recordFault_keeps (f : FaultReport) : Keeps s (recordFault f s) := by
  have h := enterFault_keeps s f
  exact .of_ite (fun _ => h) fun _ => .of_ite (fun _ => h.trans (overflowNotice_keeps _)) fun _ =>
    h.trans (takeNotice_keeps _ _)

/-! ### The queues of the Output Composer (09) -/

theorem keeps_forwardQueue {l : List Packet} (hl : s.forwardQueue.length ≤ 256 → l.length ≤ 256) :
    Keeps s { s with forwardQueue := l } :=
  .of_recordFields rfl (fun ⟨hc, hq, hd, hf, hrest⟩ => ⟨hc, hq, hd, hl hf, hrest⟩) id fun _ => id

/-- The tap copies among inserts. -/
def copiesIn (l : List Insert) : Nat := (l.filter fun i => i.kind == .tap).length

theorem copiesIn_append (l m : List Insert) : copiesIn (l ++ m) = copiesIn l + copiesIn m := by
  simp [copiesIn]

@[simp] theorem copiesIn_ageInserts (l : List Insert) : copiesIn (ageInserts l) = copiesIn l := by
  simp [copiesIn, ageInserts, List.filter_map, Function.comp_def]

@[simp] theorem length_ageInserts (l : List Insert) : (ageInserts l).length = l.length := List.length_map _

theorem copiesIn_tail_le (i : Insert) (l : List Insert) : copiesIn l ≤ copiesIn (i :: l) :=
  ((List.sublist_cons_self i l).filter _).length_le

theorem keeps_insertQueue {l : List Insert} (hl : s.insertQueue.length ≤ 16 → l.length ≤ 16)
    (hc : copiesIn s.insertQueue ≤ 12 → copiesIn l ≤ 12) : Keeps s { s with insertQueue := l } :=
  .of_recordFields rfl (fun ⟨hch, hq, hd, hf, hi, ht, hrest⟩ => ⟨hch, hq, hd, hf, hl hi, hc ht, hrest⟩) id fun _ => id

theorem keeps_tap {v : Tap} (hr : s.tapLaw → v.running = true → v.made < v.stop) (hs : s.tap.stop ≤ 65535 → v.stop ≤ 65535)
    (hk : s.tap.skipped ≤ 65535 → v.skipped ≤ 65535) : Keeps s { s with tap := v } :=
  ⟨rfl, id, id, fun _ => id, id, id, fun h => ⟨hr h, hs h.2.1, hk h.2.2⟩, id, id⟩

/-- Fields of a service that no law of membership speaks of. -/
theorem Service.KeptBy.of_eq {w v : Service} (hc : v.cfg = w.cfg) (hr : v.rank = w.rank) (hs : v.selected = w.selected)
    (ha : v.armed = w.armed) (ht : w.withinTop → v.withinTop) : w.KeptBy v where
  top := ht
  used h := .inl (hc ▸ h)
  rank := hr ▸ .refl _
  names c := by simp only [Service.names, hr, hs, ha, imp_self]

theorem admitForward_keeps (k slot : Nat) (advance : Bool) (packet : Packet) :
    Keeps s (admitForward k slot advance packet s) := by
  refine .of_ite (fun hl => ?_) fun _ => ?_
  · exact (keeps_setService (.of_eq (by rfl) (by rfl) (by rfl) (by rfl) (by exact id))).trans
      (keeps_forwardQueue _ fun _ => by simpa using hl)
  · exact (keeps_setService (.of_eq (by rfl) (by rfl) (by rfl) (by rfl)
      (by exact fun ⟨hs, hf, ha, _, hst⟩ => ⟨hs, hf, ha, satAdd_le .., hst⟩))).raise

theorem placeOnReportLane_keeps (kind : InsertKind) (record : List Byte) (hk : kind ≠ .tap) (hq : s.insertQueue.length < 16) :
    Keeps s (placeOnReportLane kind record s) := by
  have count : Keeps s { s with reportCounter := s.reportCounter + 1 } := .of_lawMask rfl
  refine count.trans (keeps_insertQueue _ (fun _ => by simpa using hq) fun h => ?_)
  rw [copiesIn_append]
  simpa [copiesIn, hk] using h

theorem freeInserts_pos {s : State} : 0 < freeInserts s ↔ s.insertQueue.length < 16 := by
  unfold freeInserts; omega

theorem placeReply_keeps : Keeps s (placeReply s) := by
  unfold placeReply
  split
  · exact .refl s
  · refine .of_ite (fun hf => ?_) fun _ => .refl s
    have taken : Keeps s { s with replyInHand := none } := .of_lawMask rfl
    exact taken.trans (placeOnReportLane_keeps _ _ _ (by split <;> decide) (freeInserts_pos.1 hf))

theorem placeReport_keeps : Keeps s (placeReport s) := by
  refine .of_ite (fun ⟨_, hf⟩ => ?_) fun _ => .refl s
  have taken : Keeps s { s with noticeQueue := s.noticeQueue.drop 8 } :=
    keeps_noticeQueue s fun h => (by rw [List.length_drop]; omega : (s.noticeQueue.drop 8).length ≤ 64)
  exact taken.trans (placeOnReportLane_keeps _ _ _ (by decide) (freeInserts_pos.1 (Nat.zero_lt_of_lt hf)))

theorem endTap_keeps (how : TapEnd) : Keeps s (endTap how s) :=
  (keeps_tap s (v := { s.tap with running := false }) (fun _ h => nomatch h) id id).post

/-- An offered packet is copied, which may end the tap, or counted as skipped (R154). -/
theorem offerTap_keeps (p : Nat) (packet : Packet) : Keeps s (offerTap p packet s) := by
  refine .of_ite (fun _ => .refl s) fun _ => .of_ite (fun ⟨hf, hc⟩ => ?copy) fun _ => ?skip
  case skip => exact keeps_tap s (fun h => h.1) id fun _ => satAdd_le ..
  case copy =>
    have room : s.insertQueue.length < 16 := freeInserts_pos.1 hf
    have insert (u : State) (i : Insert) (n : BitVec 4) (hu : u.insertQueue = s.insertQueue) :
        Keeps u { u with tapCounter := n, insertQueue := s.insertQueue ++ [i] } := by
      have counted : Keeps u { u with tapCounter := n } := .of_lawMask rfl
      refine counted.trans (keeps_insertQueue _ (fun _ => by simpa using room) fun _ => ?_)
      have : copiesIn [i] ≤ 1 := List.length_filter_le ..
      have : copiesIn s.insertQueue < 12 := hc
      rw [copiesIn_append]; omega
    refine .of_ite (fun hle => ?ended) fun hlt => ?runs
    case ended =>
      have tap : Keeps s { s with tap := { s.tap with made := s.tap.made + 1, running := false } } :=
        keeps_tap s (fun _ h => nomatch h) id id
      exact (tap.trans (insert _ _ _ rfl)).post
    case runs =>
      have tap : Keeps s { s with tap := { s.tap with made := s.tap.made + 1 } } :=
        keeps_tap s (fun _ _ => Nat.not_le.1 hlt) id id
      exact tap.trans (insert _ _ _ rfl)

/-- The arbiter takes the head of a queue. -/
theorem queue_of_choose (s : State) :
    (∀ i rest, choose s = .insert i rest → s.insertQueue = i :: rest) ∧
      ∀ p rest, choose s = .forward p rest → s.forwardQueue = p :: rest := by
  unfold choose
  constructor <;> intros <;> rename_i h <;> (repeat' split at h) <;> simp_all

theorem sendChoice_keeps : Keeps s (sendChoice s) := by
  have link (u : State) (p : Packet) : Keeps u { u with outputLink := p } := .of_lawMask rfl
  have age (u : State) (l : List Insert) (hl : u.insertQueue = l) : Keeps u { u with insertQueue := ageInserts l } :=
    keeps_insertQueue u (by simp [hl]) (by simp [hl])
  unfold sendChoice
  split
  case h_1 i rest hc =>
    have hq := (queue_of_choose s).1 i rest hc
    have tail : Keeps s { s with insertQueue := rest } :=
      keeps_insertQueue s (fun h => by rw [hq, List.length_cons] at h; omega) fun h => by
        rw [hq] at h; exact (copiesIn_tail_le i rest).trans h
    exact (tail.trans (link _ i.packet)).trans (age _ rest rfl)
  case h_2 p rest hc =>
    have hq := (queue_of_choose s).2 p rest hc
    have tail : Keeps s { s with forwardQueue := rest } :=
      keeps_forwardQueue s fun h => by rw [hq, List.length_cons] at h; omega
    exact (tail.trans (link _ p)).trans (age _ s.insertQueue rfl)
  case h_3 => exact (link s nullPacket).trans (age _ s.insertQueue rfl)

end Sys2Proof.Machine
end

section
/-! PROOFS. What each operation keeps, continued: the Switch Controller, the Classifier, the Quality Monitor and the Ranking
Unit. -/

namespace Sys2Proof.Machine

variable (s : State)

/-! ### Switching (06) -/

/-- An arming toward a candidate that the service names already. -/
theorem Service.KeptBy.arm {w v : Service} (a : Armed) (hn : w.names a.target) (hc : v.cfg = w.cfg) (hr : v.rank = w.rank)
    (hs : v.selected = w.selected) (ha : v.armed = some a) (ht : w.withinTop → v.withinTop) : w.KeptBy v where
  top := ht
  used h := .inl (hc ▸ h)
  rank := hr ▸ .refl _
  names c := by
    rintro (h | h | ⟨b, hb, rfl⟩)
    · exact .inl (hr ▸ h)
    · exact .inr (.inl (hs ▸ h))
    · cases ha.symm.trans hb; exact hn

/-- A switch that leaves ARMED, the selection standing. -/
theorem Service.KeptBy.disarm {w v : Service} (hc : v.cfg = w.cfg) (hr : v.rank = w.rank) (hs : v.selected = w.selected)
    (ha : v.armed = none) (ht : w.withinTop → v.withinTop) : w.KeptBy v where
  top := ht
  used h := .inl (hc ▸ h)
  rank := hr ▸ .refl _
  names c := by
    rintro (h | h | ⟨b, hb, -⟩)
    · exact .inl (hr ▸ h)
    · exact .inr (.inl (hs ▸ h))
    · cases ha.symm.trans hb

/-- A cut toward a candidate that the service names already. -/
theorem Service.KeptBy.cut {w v : Service} {c : Nat} (hn : w.names c) (hc : v.cfg = w.cfg) (hr : v.rank = w.rank)
    (hs : v.selected = some c) (ha : v.armed = none) (ht : w.withinTop → v.withinTop) : w.KeptBy v where
  top := ht
  used h := .inl (hc ▸ h)
  rank := hr ▸ .refl _
  names d := by
    rintro (h | h | ⟨b, hb, -⟩)
    · exact .inl (hr ▸ h)
    · cases hs.symm.trans h; exact hn
    · cases ha.symm.trans hb

theorem firstEligible_mem {s : State} {order except : List Nat} {c : Nat} (h : s.firstEligible order except = some c) :
    c ∈ order := List.mem_of_find?_eq_some h

section
variable (k : Nat)

theorem tellLeftArmed_keeps : Keeps s (tellLeftArmed k s) := keeps_send _

theorem armSwitch_keeps (target : Nat) (cause : SwitchCause) (h : (s.service k).names target) :
    Keeps s (armSwitch k target cause s) := keeps_setService (.arm ⟨target, cause, _⟩ h rfl rfl rfl rfl id)

theorem retargetSwitch_keeps (target : Nat) (cause : SwitchCause) (h : (s.service k).names target) :
    Keeps s (retargetSwitch k target cause s) :=
  (armSwitch_keeps s k target cause h).trans (keeps_setService (.of_eq rfl rfl rfl rfl id))

theorem escalateSwitch_keeps (a : Armed) (h : (s.service k).armed = some a) : Keeps s (escalateSwitch k a s) :=
  keeps_setService (.arm { a with cause := .urgent, timer := _ } (.inr (.inr ⟨a, h, rfl⟩)) rfl rfl rfl rfl id)

theorem makeCut_keeps (a : Armed) (kind : CutKind) (h : (s.service k).names a.target) : Keeps s (makeCut k a kind s) := by
  have top (v : Service) (hs : v.switches = satAdd top32 (s.service k).switches 1) (hf : v.forcedCuts =
      if kind = .forced then satAdd top32 (s.service k).forcedCuts 1 else (s.service k).forcedCuts)
      (ha : v.abandoned = (s.service k).abandoned) (hd : v.forwardDrops = (s.service k).forwardDrops) (hst : v.streak = 0) :
      (s.service k).withinTop → v.withinTop := by
    rintro ⟨-, hf', ha', hd', -⟩
    refine ⟨hs ▸ satAdd_le .., ?_, ha ▸ ha', hd ▸ hd', hst ▸ Nat.zero_le _⟩
    rw [hf]
    split
    · exact satAdd_le ..
    · exact hf'
  exact (keeps_setService (.cut h (by rfl) (by rfl) (by rfl) (by rfl)
    (top _ (by rfl) (by rfl) (by rfl) (by rfl) (by rfl)))).post.trans (tellLeftArmed_keeps _ k)

theorem offerPacket_keeps (c slot : Nat) (cls : PacketClass) (start : Bool) :
    Keeps s (offerPacket k c slot cls start s) := by
  unfold offerPacket
  split
  · exact .refl s
  · next a ha =>
    refine .of_ite (fun _ => .refl s) fun _ => ?_
    split
    · exact .refl s
    · exact makeCut_keeps s k a _ (.inr (.inr ⟨a, ha, rfl⟩))

theorem retrySwitch_keeps : Keeps s (retrySwitch k s) :=
  (keeps_setService (.disarm (by rfl) (by rfl) (by rfl) (by rfl) (by exact id))).trans (tellLeftArmed_keeps _ k)

theorem abandonSwitch_keeps (a : Armed) : Keeps s (abandonSwitch k a s) :=
  (keeps_setService (.disarm (by rfl) (by rfl) (by rfl) (by rfl)
    (by exact fun ⟨hs, hf, _, hd, _⟩ => ⟨hs, hf, satAdd_le .., hd, Nat.zero_le _⟩))).raise.post.trans (tellLeftArmed_keeps _ k)

theorem waitExpires_keeps : Keeps s (waitExpires k s) := by
  unfold waitExpires
  split
  · exact .refl s
  · next a ha =>
    refine (keeps_atTime _).trans (.of_ite (fun _ => .of_ite (fun _ => retrySwitch_keeps _ k) fun _ =>
      abandonSwitch_keeps _ k a) fun _ => makeCut_keeps _ k a _ (.inr (.inr ⟨a, ha, rfl⟩)))

theorem dropSwitch_keeps : Keeps s (dropSwitch k s) :=
  (keeps_setService (.disarm (by rfl) (by rfl) (by rfl) (by rfl) (by exact id))).trans (tellLeftArmed_keeps _ k)

theorem cancelSwitch_keeps : Keeps s (cancelSwitch k s) := by
  unfold cancelSwitch
  dsimp only
  split
  · exact .refl s
  · have steady : Keeps s (s.setService k { (s.service k).steady with attempts := 0 }) :=
      keeps_setService (.disarm rfl rfl rfl rfl id)
    split
    · split
      · next c hc =>
        refine steady.trans (armSwitch_keeps _ k c _ (.inl ?_))
        rw [State.service_setService_same]
        exact firstEligible_mem hc
      · exact steady.trans (tellLeftArmed_keeps _ k)
    · exact (steady.trans (keeps_setService (.of_eq (by rfl) (by rfl) (by rfl) (by rfl) (by exact id)))).trans
        (tellLeftArmed_keeps _ k)
    · exact steady.trans (tellLeftArmed_keeps _ k)
    · exact steady.trans (tellLeftArmed_keeps _ k)

theorem takeRequest_keeps (target : Nat) (cause : SwitchCause) (h : target ∈ (s.service k).rank) :
    Keeps s (takeRequest k target cause s) := by
  unfold takeRequest
  split
  · exact armSwitch_keeps s k target cause (.inl h)
  · next a ha =>
    exact .of_ite (fun _ => armSwitch_keeps s k target _ (.inl h)) fun _ =>
      .of_ite (fun _ => escalateSwitch_keeps s k a ha) fun _ => retargetSwitch_keeps s k target cause (.inl h)

theorem mem_rank_of_not_discards {s : State} {k target : Nat} {cause : SwitchCause}
    (h : (!discardsRequest s k target cause) = true) : target ∈ (s.service k).rank := by
  simp only [discardsRequest, Bool.not_eq_true', Bool.or_eq_false_iff] at h
  simpa using h.1.1.1.2

theorem switchRequest_keeps (target : Nat) (cause : SwitchCause) : Keeps s (switchRequest k target cause s) := by
  refine .of_ite (fun h => takeRequest_keeps s k target cause (mem_rank_of_not_discards h)) fun _ =>
    .of_ite (fun _ => ?_) fun _ => .refl s
  split
  · next c hc => exact takeRequest_keeps s k c _ (firstEligible_mem hc)
  · exact .refl s

theorem targetGraded_keeps : Keeps s (targetGraded k s) := by
  unfold targetGraded
  split
  · exact .refl s
  · exact .of_ite (fun _ => .refl s) fun _ => cancelSwitch_keeps s k

theorem mem_rank_of_pinFit {s : State} {k c : Nat} (h : s.pinFit k c = true) : c ∈ (s.service k).rank := by
  simp only [State.pinFit, Bool.and_eq_true] at h
  simpa using h.1.1

theorem takeUpPinned_keeps : Keeps s (takeUpPinned k s) := by
  refine .of_ite (fun _ => ?_) fun _ => .refl s
  split
  · exact .refl s
  · exact .of_ite (fun h => armSwitch_keeps s k _ _ (.inl (mem_rank_of_pinFit h))) fun _ =>
      keeps_setService (.of_eq rfl rfl rfl rfl id)

theorem setPin_keeps (c : Nat) (h : c ∈ (s.service k).rank) : Keeps s (setPin k c s) := by
  have pin : Keeps s (s.setService k { s.service k with pinned := some c }) := keeps_setService (.of_eq rfl rfl rfl rfl id)
  refine .of_ite (fun _ => pin) fun _ => .of_ite (fun _ => .of_ite (fun _ => pin) fun _ => pin.trans (dropSwitch_keeps _ k))
    fun _ => pin.trans (armSwitch_keeps _ k c _ (.inl ?_))
  rw [State.service_setService_same]
  exact h

theorem releasePin_keeps : Keeps s (releasePin k s) := by
  have release : Keeps s (s.setService k { s.service k with pinned := none }) :=
    keeps_setService (.of_eq rfl rfl rfl rfl id)
  unfold releasePin
  dsimp only
  split
  · exact .of_ite (fun _ => release.trans (dropSwitch_keeps _ k)) fun _ => release
  · exact release

end

/-! ### The Lane Map (02) -/

namespace Table
variable {α : Type}

theorem insert_perm (k : Nat) (v : α) (t : Table α) : (insert k v t).Perm ((k, v) :: t) := by
  induction t with
  | nil => exact .refl _
  | cons e t ih =>
    unfold insert
    split
    · exact (ih.cons e).trans (.swap ..)
    · exact .refl _

theorem erase_of_not_mem {t : Table α} {k : Nat} (h : k ∉ t.map Prod.fst) : erase t k = t := by
  refine List.filter_eq_self.2 fun e he => bne_iff_ne.2 fun hk => ?_
  exact h (hk ▸ List.mem_map_of_mem he)

/-- A listed entry and the table without it are the table, up to order. -/
theorem perm_cons_erase {t : Table α} (h : (t.map Prod.fst).Pairwise (· < ·)) {k : Nat} {v : α} (hm : (k, v) ∈ t) :
    t.Perm ((k, v) :: erase t k) := by
  induction t with
  | nil => cases hm
  | cons e t ih =>
    obtain ⟨hlt, hs⟩ := List.pairwise_cons.1 h
    rcases List.mem_cons.1 hm with rfl | hm
    · have : k ∉ t.map Prod.fst := fun hk => Nat.lt_irrefl _ (hlt k hk)
      rw [show erase ((k, v) :: t) k = erase t k by simp [erase], erase_of_not_mem this]
    · have hne : e.1 ≠ k := fun hk => Nat.lt_irrefl _ (hk ▸ hlt k (List.mem_map_of_mem hm))
      rw [show erase (e :: t) k = e :: erase t k by simp [erase, hne]]
      exact ((ih hs hm).cons e).trans (.swap ..)

theorem set_perm [DecidableEq α] {d : Nat → α} {t : Table α} {k : Nat} {v : α} (hv : v ≠ d k) :
    (set d t k v).Perm ((k, v) :: erase t k) := by
  rw [set, if_neg hv]
  exact insert_perm ..

/-- Where no listed entry becomes a default one, passing a table through a function leaves its keys. -/
theorem remap_eq_map {β : Type} [DecidableEq β] {d : Nat → β} {f : Nat → α → β} {t : Table α}
    (h : ∀ e ∈ t, f e.1 e.2 ≠ d e.1) : remap d f t = t.map fun e => (e.1, f e.1 e.2) := by
  induction t with
  | nil => rfl
  | cons e t ih =>
    have he := h e (List.mem_cons_self ..)
    have ih := ih fun a ha => h a (List.mem_cons_of_mem _ ha)
    simp only [remap, List.filterMap_cons, if_neg he, List.map_cons] at ih ⊢
    rw [ih]

end Table

/-- The entries of a candidate among the places of a Lane Map. -/
def placesOf (c : Nat) (m : Table (Option LaneEntry)) : List (Nat × Option LaneEntry) := m.filter fun e => placeOf c e.2

/-- A Lane Map with as many entries, and as many of each candidate, as the one it replaces. -/
theorem keeps_laneMap {m : Table (Option LaneEntry)}
    (hw : Table.wf (fun _ => none) s.laneMap → Table.wf (fun _ => none) m)
    (hl : Table.wf (fun _ => none) s.laneMap → m.length = s.laneMap.length)
    (hc : Table.wf (fun _ => none) s.laneMap → ∀ c, (placesOf c m).length = (placesOf c s.laneMap).length) :
    Keeps s { s with laneMap := m } :=
  .of_recordFields rfl id (fun ⟨hp, hm, hrest⟩ => ⟨hp, hw hm, hrest⟩)
    fun ⟨_, hm, _⟩ ⟨ho, hf, hr, hs, ⟨hlen, hcount⟩, hrest⟩ =>
      ⟨ho, hf, hr, hs, ⟨(hl hm).trans_le hlen, fun c => (hc hm c).trans (hcount c)⟩, hrest⟩

/-- A listed place takes another entry of the same candidate. -/
theorem keeps_setLanePlace {i : Nat} {e e' : LaneEntry} (hm : (i, some e) ∈ s.laneMap) (hc : e'.candidate = e.candidate) :
    Keeps s (s.setLanePlace i (some e')) := by
  have perm (hw : Table.wf (fun _ => none) s.laneMap) := Table.perm_cons_erase hw.1 hm
  have perm' := Table.set_perm (d := fun _ => none) (t := s.laneMap) (k := i) (v := some e') (by simp)
  refine keeps_laneMap s (fun hw => Table.wf_set _ _ _ _ hw) (fun hw => ?_) fun hw c => ?_
  · rw [perm'.length_eq, (perm hw).length_eq]; rfl
  · have hplace : placeOf c (some e') = placeOf c (some e) := by simp [placeOf, hc]
    simp only [placesOf]
    rw [(perm'.filter _).length_eq, ((perm hw).filter _).length_eq, List.filter_cons, List.filter_cons, hplace]
    split <;> rfl

theorem mem_of_lookupLane {s : State} {x lane i : Nat} {e : LaneEntry} (h : lookupLane s x lane = some (i, e)) :
    (i, some e) ∈ s.laneMap := by
  obtain ⟨⟨j, v⟩, hm, hv⟩ := List.exists_of_findSome?_eq_some h
  cases v with
  | none => simp at hv
  | some v =>
    dsimp only at hv
    split at hv
    · cases hv; exact hm
    · cases hv

theorem forgetSequence_keeps (x : Nat) : Keeps s (forgetSequence x s) := by
  have eq (hw : Table.wf (fun _ => none) s.laneMap) := Table.remap_eq_map (d := fun _ => none) (t := s.laneMap)
    (f := fun _ v => v.map fun e => if e.source = x then { e with lastSeq := none } else e)
    fun e he hn => hw.2 e he (by simpa using hn)
  refine keeps_laneMap s (fun hw => Table.wf_remap _ _ _ hw.1) (fun hw => ?_) fun hw c => ?_
  · rw [eq hw, List.length_map]
  · rw [eq hw, placesOf, placesOf, List.filter_map, List.length_map]
    congr 2
    funext ⟨j, v⟩
    cases v with
    | none => rfl
    | some e => simp only [Function.comp_apply, placeOf, Option.map_some, Option.any_some]; split <;> rfl

theorem countUnclaimed_keeps (p : Nat) : Keeps s (countUnclaimed p s) :=
  keeps_setPort fun ⟨ha, ⟨_, hrest⟩, hr⟩ => ⟨ha, ⟨bump_le _, hrest⟩, hr⟩

theorem forwardHit_keeps (e : LaneEntry) (cls : PacketClass) (packet : Packet) : Keeps s (forwardHit e cls packet s) := by
  unfold forwardHit
  split
  · exact keeps_send _
  · exact .refl s

theorem offerHit_keeps (e : LaneEntry) (cls : PacketClass) (start : Bool) : Keeps s (offerHit e cls start s) := by
  unfold offerHit
  split
  · exact offerPacket_keeps ..
  · exact .refl s

theorem hit_keeps (i : Nat) (e : LaneEntry) (time : Nat) (packet : Packet) (hm : (i, some e) ∈ s.laneMap) :
    Keeps s (hit i e time packet s) := by
  unfold hit
  dsimp only
  exact ((keeps_setLanePlace s hm (by rfl)).send.trans (offerHit_keeps ..)).trans (forwardHit_keeps ..)

theorem routePacket_keeps (port : Nat) (source : Option Nat) (time : Nat) (packet : Packet) :
    Keeps s (routePacket port source time packet s) := by
  unfold routePacket
  split
  · exact countUnclaimed_keeps s port
  · refine .of_ite (fun _ => keeps_send _) fun _ => .of_ite (fun _ => ?_) fun _ => ?_
    · exact .of_ite (fun _ => countUnclaimed_keeps s port) fun _ => .of_ite (fun _ => .refl s) fun _ => keeps_send _
    · split
      · next h => exact hit_keeps s _ _ time packet (mem_of_lookupLane h)
      · exact countUnclaimed_keeps s port

/-! ### The Quality Monitor (04) -/

theorem Measurement.arrive_keptBy (x : Candidate) (a : Measured) : x.KeptBy { x with measured := x.measured.arrive a } := by
  refine ⟨?_, rfl⟩
  rintro ⟨hp, hd, hg, hdup, hsil, hfl⟩
  have count : ∀ m : Measurement, m = x.measured.count a.cls a.gap →
      m.packets ≤ top32 ∧ m.damaged ≤ top32 ∧ m.gaps ≤ top32 ∧ m.duplicates ≤ top32 ∧ m.silence ≤ 10000 := by
    rintro _ rfl
    cases a.cls <;> simp only [Measurement.count, bump_le, satAdd_le, hp, hd, hg, hdup, hsil, and_self]
  obtain ⟨hp', hd', hg', hdup', hsil'⟩ := count _ rfl
  dsimp only [Measurement.arrive, Candidate.withinTop]
  split
  · exact ⟨hp', hd', hg', hdup', max_le hsil' (Nat.min_le_left ..), hfl⟩
  · exact ⟨hp', hd', hg', hdup', hsil', hfl⟩

theorem measure_keeps (a : Measured) : Keeps s (measure a s) :=
  .of_ite (fun _ => .refl s) fun _ => keeps_setCandidate (Measurement.arrive_keptBy _ a)

/-- A record that is cleared counts nothing. -/
theorem Candidate.keptBy_opened (x : Candidate) (g : Option GradeRecord) (t : Nat) :
    x.KeptBy { x with grade := g, measured := .opened t } :=
  ⟨fun ⟨_, _, _, _, _, hf⟩ => ⟨Nat.zero_le _, Nat.zero_le _, Nat.zero_le _, Nat.zero_le _, Nat.zero_le _, hf⟩, rfl⟩

theorem intervalCandidate_keptBy (x : Candidate) : x.KeptBy (intervalCandidate s x) := by
  unfold intervalCandidate
  split
  · exact x.keptBy_opened _ _
  · unfold ageSurvey
    split
    · exact .refl x
    · split
      · exact .refl x
      · exact ⟨id, rfl⟩

theorem intervalGrading_keeps : Keeps s (intervalGrading s) := by
  have graded := keeps_remapCandidates (s := s) (intervalCandidate_keptBy s) fun _ => rfl
  have ports (u : State) := keeps_remapPorts (s := u) (f := intervalPort) fun p v h => by
    unfold intervalPort
    split
    · exact ⟨h.1, h.2.1, Nat.zero_le _, Nat.zero_le _⟩
    · exact h
  have begins (u : State) (n : BitVec 32) : Keeps u (beginInterval n u) := .of_lawMask rfl
  exact ((graded.trans (ports _)).trans (begins _ _)).send

theorem gradingExpires_keeps : Keeps s (gradingExpires s) := by
  unfold gradingExpires
  split
  · exact .refl s
  · exact (keeps_atTime _).trans (intervalGrading_keeps _)

theorem Candidate.clearDiscard_keptBy (p : Nat) (x : Candidate) : x.KeptBy (x.clearDiscard p) := by
  unfold Candidate.clearDiscard; split <;> exact ⟨id, rfl⟩

theorem Candidate.clearDiscard_default (p c : Nat) :
    (Candidate.default c).clearDiscard p = Candidate.default c := by
  unfold Candidate.clearDiscard; split <;> rfl

theorem clearDiscards_keeps (p : Nat) : Keeps s (clearDiscards p s) :=
  keeps_remapCandidates (Candidate.clearDiscard_keptBy p) (Candidate.clearDiscard_default p)

theorem Candidate.KeptBy.trans {x y z : Candidate} (h : x.KeptBy y) (h' : y.KeptBy z) : x.KeptBy z :=
  ⟨h'.top ∘ h.top, h'.cfg.trans h.cfg⟩

theorem surveyGrading_keeps (d : DwellEnd) : Keeps s (surveyGrading d s) := by
  refine (keeps_remapCandidates (f := fun x => (if gradedAtDwell d x then gradeAtDwell s d x else x).clearDiscard d.port)
    (fun x => ?_) fun c => Candidate.clearDiscard_default d.port c).send
  refine Candidate.KeptBy.trans ?_ (Candidate.clearDiscard_keptBy d.port _)
  split
  · exact x.keptBy_opened _ _
  · exact .refl x

theorem clearDwellRecords_keeps (e : Nat) : Keeps s (clearDwellRecords e s) := by
  refine keeps_remapCandidates (fun x => ?_) fun c => rfl
  split
  · exact x.keptBy_opened x.grade _
  · exact .refl x

/-! ### The Ranking Unit (05) -/

theorem goDark_keeps (k : Nat) : Keeps s (goDark k s) :=
  .of_ite (fun _ => (keeps_setService (.of_eq (by rfl) (by rfl) (by rfl) (by rfl) (by exact id))).post) fun _ => .refl s

theorem Service.clearChallenge_keptBy (w : Service) : w.KeptBy w.clearChallenge :=
  .of_eq rfl rfl rfl rfl fun ⟨hs, hf, ha, hd, _⟩ => ⟨hs, hf, ha, hd, Nat.zero_le _⟩

theorem Service.dropChallenger_keptBy (w : Service) (c : Nat) : w.KeptBy (w.dropChallenger c) := by
  unfold Service.dropChallenger
  split
  · exact w.clearChallenge_keptBy
  · exact .refl w

theorem Service.dropAdvisory_keptBy (w : Service) (c : Nat) : w.KeptBy (w.dropAdvisory c) := by
  unfold Service.dropAdvisory
  split
  · exact .of_eq rfl rfl rfl rfl id
  · exact .refl w

theorem quarantineSwitching_keeps (k c : Nat) (request : Bool) : Keeps s (quarantineSwitching k c request s) := by
  have cancelled : Keeps s (if ((s.service k).armed.map Armed.target) = some c then cancelSwitch k s else s) :=
    .of_ite (fun _ => cancelSwitch_keeps s k) fun _ => .refl s
  have unpinned (u : State) : Keeps u (if (u.service k).pinned = some c then
      u.setService k { u.service k with pinned := none } else u) :=
    .of_ite (fun _ => keeps_setService (.of_eq rfl rfl rfl rfl id)) fun _ => .refl u
  have moves (u : State) : Keeps u (match u.firstEligible (u.service k).rank [c] with
      | some t => u.send [.switchRequest k t .urgent]
      | none => goDark k u) := by
    split
    · exact keeps_send _
    · exact goDark_keeps u k
  exact (cancelled.trans (unpinned _)).trans (.of_ite (fun _ => moves _) fun _ => .refl _)

theorem enterQuarantine_keeps (c : Nat) (reason : QuarantineReason) (duration : Nat) (request : Bool) :
    Keeps s (enterQuarantine c reason duration request s) := by
  have record : Keeps s (s.setCandidate c { s.candidate c with
      quarantine := some ⟨reason, duration⟩, flaps := 0, decay := 0, demoted := false }) :=
    keeps_setCandidate ⟨fun ⟨hp, hd, hg, hu, hs, _⟩ => ⟨hp, hd, hg, hu, hs, Nat.zero_le _⟩, rfl⟩
  unfold enterQuarantine
  dsimp only
  split
  · exact record.post
  · refine (record.trans (keeps_setService ?_)).post.trans (quarantineSwitching_keeps ..)
    exact (Service.dropChallenger_keptBy _ c).trans (Service.dropAdvisory_keptBy _ c)

theorem quarantineCandidate_keeps (c : Nat) (reason : QuarantineReason) (duration : Nat) :
    Keeps s (quarantineCandidate c reason duration s) := by
  unfold quarantineCandidate
  dsimp only
  split
  · exact keeps_setCandidate ⟨id, rfl⟩
  · exact .of_ite (fun _ => enterQuarantine_keeps ..) fun _ => .refl s

theorem endQuarantine_keeps (c : Nat) : Keeps s (endQuarantine c s) :=
  (keeps_setCandidate ⟨by exact fun ⟨hp, hd, hg, hu, hs, _⟩ => ⟨hp, hd, hg, hu, hs, Nat.zero_le _⟩, by rfl⟩).post

theorem countDown_keeps (c : Nat) : Keeps s (countDown s c) := by
  unfold countDown
  dsimp only
  split
  · exact .refl s
  · exact .of_ite (fun _ => endQuarantine_keeps s c) fun _ => keeps_setCandidate ⟨id, rfl⟩

theorem Candidate.decayed_keptBy (limit : Nat) (x : Candidate) : x.KeptBy (x.decayed limit) := by
  unfold Candidate.decayed
  split
  · exact ⟨id, rfl⟩
  · split
    · exact .refl x
    · split
      · exact ⟨fun ⟨hp, hd, hg, hu, hs, hf⟩ => ⟨hp, hd, hg, hu, hs, (Nat.sub_le ..).trans hf⟩, rfl⟩
      · exact ⟨id, rfl⟩

theorem decayFlaps_keeps (c : Nat) : Keeps s (decayFlaps s c) := keeps_setCandidate (Candidate.decayed_keptBy _ _)

theorem insertByGrade_perm (grade : Nat → Nat) (c : Nat) (l : List Nat) : (insertByGrade grade c l).Perm (c :: l) := by
  induction l with
  | nil => exact .refl _
  | cons d l ih =>
    unfold insertByGrade
    split
    · exact .refl _
    · exact (ih.cons d).trans (.swap ..)

/-- A ranking reorders the members and neither adds nor drops one (R81). -/
theorem rankedOrder_perm (members : List Nat) : (rankedOrder s members).Perm members := by
  have sorted (l : List Nat) : (l.foldr (insertByGrade s.gradeOf) []).Perm l := by
    induction l with
    | nil => exact .refl _
    | cons c l ih => exact (insertByGrade_perm ..).trans (ih.cons c)
  exact ((sorted _).append_right _).trans (List.filter_append_perm s.eligible members)

theorem rebuildRank_keeps (k : Nat) : Keeps s (rebuildRank k s) := by
  have hp := rankedOrder_perm s (s.service k).rank
  exact keeps_setService ⟨id, .inl, hp, fun c => Or.imp_left hp.mem_iff.1⟩

theorem darkAtRanking_keeps (k : Nat) : Keeps s (darkAtRanking k s) := by
  unfold darkAtRanking
  dsimp only
  split
  · exact goDark_keeps s k
  · exact .of_ite (fun _ => (keeps_setService (.of_eq (by rfl) (by rfl) (by rfl) (by rfl) (by exact id))).post) fun _ => .refl s

theorem countFlap_keeps (c : Nat) : Keeps s (countFlap c s) := by
  have flap : Keeps s (s.setCandidate c { s.candidate c with
      flaps := min 15 ((s.candidate c).flaps + 1), decay := 0, demoted := true }) :=
    keeps_setCandidate ⟨fun ⟨hp, hd, hg, hu, hs, _⟩ => ⟨hp, hd, hg, hu, hs, Nat.min_le_left ..⟩, rfl⟩
  exact .of_ite (fun _ => .refl s) fun _ => .of_ite (fun _ => flap.trans (enterQuarantine_keeps ..)) fun _ => flap

theorem Service.challengeTest_keptBy (w : Service) (holds : Bool) (e : Nat) : w.KeptBy (w.challengeTest holds e) := by
  unfold Service.challengeTest
  split
  · exact w.clearChallenge_keptBy
  · split
    · exact .of_eq rfl rfl rfl rfl fun ⟨hs, hf, ha, hd, _⟩ => ⟨hs, hf, ha, hd, Nat.min_le_left ..⟩
    · exact .of_eq rfl rfl rfl rfl fun ⟨hs, hf, ha, hd, _⟩ => ⟨hs, hf, ha, hd, by exact (by decide : 1 ≤ 15)⟩

theorem selectionDecision_keeps (k : Nat) : Keeps s (selectionDecision k s).1 := by
  have cleared : Keeps s (s.setService k (s.service k).clearChallenge) :=
    keeps_setService (Service.clearChallenge_keptBy _)
  unfold selectionDecision
  dsimp only
  split
  · exact cleared
  · exact cleared
  · split
    · exact keeps_setService (Service.challengeTest_keptBy ..)
    · exact .of_ite (fun _ => cleared.trans (countFlap_keeps ..)) fun _ => cleared
  · exact cleared

theorem decideSelection_keeps (k : Nat) : Keeps s (decideSelection k s).1 := by
  unfold decideSelection
  dsimp only
  split
  · exact keeps_setService (Service.clearChallenge_keptBy _)
  · split
    · exact .refl s
    · exact selectionDecision_keeps s k

theorem advisoryCheck_keeps (k : Nat) : Keeps s (advisoryCheck k s) := by
  unfold advisoryCheck
  dsimp only
  split
  · exact keeps_setService (.of_eq rfl rfl rfl rfl id)
  · exact .of_ite (fun _ => .refl s) fun _ =>
      (keeps_setService (.of_eq (by rfl) (by rfl) (by rfl) (by rfl) (by exact id))).post

theorem rankMembers_keeps (k : Nat) : Keeps s (rankMembers k s) :=
  ((Keeps.foldl (fun t c => countDown_keeps t c) ..).trans (.foldl (fun t c => decayFlaps_keeps t c) ..)).trans
    (rebuildRank_keeps _ k)

theorem rankActive_keeps (k : Nat) : Keeps s (rankActive k s) :=
  (((darkAtRanking_keeps s k).trans (decideSelection_keeps _ k)).trans (advisoryCheck_keeps _ k)).send

theorem rankService_keeps (k : Nat) : Keeps s (rankService k s) := by
  unfold rankService
  split
  · exact .refl s
  · exact rankMembers_keeps s k
  · exact (rankMembers_keeps s k).trans (rankActive_keeps _ k)

theorem outageOfService_keeps (k : Nat) : Keeps s (outageOfService s k) := by
  unfold outageOfService
  split
  · exact .refl s
  · next c _ =>
    have flap := countFlap_keeps s c
    dsimp only
    split
    · exact flap.send
    · exact .of_ite (fun _ => flap) fun _ => flap.trans (goDark_keeps _ k)

end Sys2Proof.Machine
end

section
/-! PROOFS. What each operation keeps, continued: the Sweep Controller, and the Table Unit where it applies no CANDIDATE
change. -/

namespace Sys2Proof.Machine

variable (s : State)

/-! ### The Sweep Controller (07) -/

theorem keeps_visitQueue {l : List Nat} (hl : s.visitQueue.length ≤ 8 → l.length ≤ 8) (hn : s.visitLaw → l.Nodup) :
    Keeps s { s with visitQueue := l } :=
  ⟨rfl, fun ⟨hc, hq, hrest⟩ => ⟨hc, hl hq, hrest⟩, id, fun _ => id, id, hn, id, id, id⟩

theorem keeps_dequeueVisit (e : Nat) : Keeps s { s with visitQueue := s.visitQueue.erase e } :=
  keeps_visitQueue s (List.length_erase_le.trans) fun h => h.erase e

theorem applySweepWrite_keeps (e : Nat) (fields : List (Nat × Nat)) : Keeps s (applySweepWrite e fields s) :=
  .of_ite (fun _ => keeps_setSweepEntry ..) fun _ => (keeps_setSweepEntry ..).trans (keeps_dequeueVisit _ e)

theorem holdSweepWrite_keeps (e : Nat) (fields : List (Nat × Nat)) : Keeps s (holdSweepWrite e fields s) :=
  keeps_setSweepEntry ..

theorem applyHeldSweepWrite_keeps (e : Nat) : Keeps s (applyHeldSweepWrite e s) := by
  unfold applyHeldSweepWrite
  split
  · exact .refl s
  · exact (keeps_setSweepEntry ..).trans (applySweepWrite_keeps ..)

theorem beginAttempt_keeps (p n : Nat) (v : Visit) : Keeps s (beginAttempt p n v s) := keeps_setSweepPort ..

theorem beginVisit_keeps (p e : Nat) (fromQueue : Bool) : Keeps s (beginVisit p e fromQueue s) :=
  (keeps_dequeueVisit s e).trans (beginAttempt_keeps ..)

theorem tryChoose_keeps (p : Nat) : Keeps s (tryChoose p s) := by
  refine .of_ite (fun _ => .refl s) fun _ => ?_
  split
  · exact beginVisit_keeps ..
  · split
    · exact beginVisit_keeps ..
    · exact .refl s

theorem tryBoth_keeps : Keeps s (tryBoth s) := (tryChoose_keeps s 12).trans (tryChoose_keeps _ 13)

theorem closeDwell_keeps (p : Nat) (v : Visit) (how : VisitEnd) : Keeps s (closeDwell p v how s) := by
  have withdrawn : Keeps s (withdrawSource p s) := keeps_setPort id
  have cleared : Keeps s (if v.dwells then clearDiscards p (withdrawSource p s) else withdrawSource p s) :=
    .of_ite (fun _ => withdrawn.trans (clearDiscards_keeps _ p)) fun _ => withdrawn
  exact .of_ite (fun _ => cleared.trans (keeps_setDirContext ..)) fun _ => cleared

theorem reportVisit_keeps (p e : Nat) (how : VisitEnd) : Keeps s (reportVisit p e how s) := by
  unfold reportVisit
  split
  · exact (keeps_raise _).post
  · exact keeps_post _
  all_goals exact .refl s

theorem endVisit_keeps (p : Nat) (v : Visit) (how : VisitEnd) : Keeps s (endVisit p v how s) := by
  have closed := (closeDwell_keeps s p v how).trans (keeps_setSweepEntry v.entry { (closeDwell p v how s).sweepEntry v.entry with
    lastOutcome := how.outcome, lastVisit := some (closeDwell p v how s).intervalNumber })
  have held (u : State) : Keeps u (applyHeldPortWrite p (applyHeldSweepWrite v.entry u)) :=
    (applyHeldSweepWrite_keeps ..).trans (applyHeldPortWrite_keeps ..)
  have left (u : State) : Keeps u (leaveVisit p v how u) := keeps_setSweepPort ..
  exact (((closed.trans (reportVisit_keeps ..)).trans (held _)).trans (left _)).trans (tryBoth_keeps _)

theorem attemptFails_keeps (p n : Nat) (v : Visit) : Keeps s (attemptFails p n v s) :=
  .of_ite (fun _ => keeps_setSweepPort ..) fun _ => endVisit_keeps ..

theorem attemptSucceeds_keeps (p : Nat) (v : Visit) : Keeps s (attemptSucceeds p v s) :=
  .of_ite (fun _ => (keeps_send _).trans (endVisit_keeps ..)) fun _ => (keeps_send _).trans (keeps_setSweepPort ..)

theorem attemptDone_keeps (p : Nat) (acknowledged : Bool) : Keeps s (attemptDone p acknowledged s) := by
  unfold attemptDone
  split
  · exact .of_ite (fun _ => attemptSucceeds_keeps ..) fun _ => attemptFails_keeps ..
  · exact .refl s

theorem attemptLimit_keeps (p : Nat) : Keeps s (attemptLimit p s) := by
  unfold attemptLimit
  split
  · exact (keeps_atTime _).trans (attemptFails_keeps ..)
  · exact .refl s

theorem gapExpires_keeps (p : Nat) : Keeps s (gapExpires p s) := by
  unfold gapExpires
  split
  · exact (keeps_atTime _).trans (beginAttempt_keeps ..)
  · exact .refl s

theorem beginDwell_keeps (p : Nat) (v : Visit) : Keeps s (beginDwell p v s) := by
  have records := (forgetSequence_keeps s (64 + v.entry)).trans (clearDwellRecords_keeps _ v.entry)
  have given (u : State) : Keeps u (u.setPort p { u.port p with given := some v.entry, readings := .cleared }) :=
    keeps_setPort fun ⟨ha, hb, _⟩ => ⟨ha, hb, Nat.zero_le _, Nat.zero_le _⟩
  exact ((records.trans (keeps_setDirContext ..)).trans (given _)).trans (keeps_setSweepPort ..)

theorem marginArrives_keeps (p lock : Nat) : Keeps s (marginArrives p lock s) := by
  unfold marginArrives
  split
  · exact .of_ite (fun _ => beginDwell_keeps ..) fun _ => .refl s
  · exact .refl s

theorem settleExpires_keeps (p : Nat) : Keeps s (settleExpires p s) := by
  unfold settleExpires
  split
  · exact (keeps_atTime _).trans (endVisit_keeps ..)
  · exact .refl s

theorem dwellExpires_keeps (p : Nat) : Keeps s (dwellExpires p s) := by
  have withdrawn (u : State) : Keeps u (idleContext p (withdrawSource p u)) :=
    (keeps_setPort (by exact id)).trans (keeps_setDirContext ..)
  unfold dwellExpires
  split
  · exact (((keeps_atTime _).trans (withdrawn _)).trans (keeps_setSweepPort ..)).send
  · exact .refl s

theorem gradingComplete_keeps (p : Nat) : Keeps s (gradingComplete p s) := by
  unfold gradingComplete
  split
  · exact endVisit_keeps ..
  · exact .refl s

theorem sweepOutage_keeps (p : Nat) : Keeps s (sweepOutage p s) := by
  unfold sweepOutage
  split
  · exact endVisit_keeps ..
  · exact .refl s

theorem holdVisit_keeps (p : Nat) : Keeps s (holdVisit p s) := by
  unfold holdVisit
  split
  · exact endVisit_keeps ..
  · exact endVisit_keeps ..
  · exact .refl s

theorem setHeld_keeps (p : Nat) (b : Bool) : Keeps s (setHeld p b s) := keeps_setSweepPort ..

theorem holdPorts_keeps (ports : List Nat) : Keeps s (holdPorts ports s) :=
  (Keeps.foldl (fun t p => setHeld_keeps t p true) ..).trans (.foldl (fun t p => holdVisit_keeps t p) ..)

theorem resumePorts_keeps (ports : List Nat) : Keeps s (resumePorts ports s) :=
  (Keeps.foldl (fun t p => setHeld_keeps t p false) ..).trans (tryBoth_keeps _)

/-! ### SERVICE changes and the Pending Change List (03) -/

theorem keeps_changes {l : List Change} (hl : s.changes.length ≤ 32 → l.length ≤ 32) : Keeps s { s with changes := l } :=
  .of_recordFields rfl (fun ⟨hc, hrest⟩ => ⟨hl hc, hrest⟩) id fun _ => id

theorem failChange_keeps (h : Change) (r : FailReason) : Keeps s (failChange h r s) := (keeps_raise _).post

/-- A service that becomes UNUSED has no members (R43). -/
theorem rank_of_checkService {s : State} {k : Nat} {r : ServiceConfig} (h : checkService s k r = none)
    (hu : r.state = .unused) : (s.service k).rank = [] := by
  by_contra hne
  simp [checkService, hu, hne] at h

/-- A change of configuration takes or leaves the selection with the streak, and touches no counter (R51). -/
theorem Service.reconfigured_fields (new : ServiceConfig) (w : Service) :
    ∃ streak selected challenger dark advisory pinned attempts, (streak = 0 ∨ streak = w.streak) ∧
      (selected = none ∨ selected = w.selected) ∧ w.reconfigured new = { w with
        cfg := new, streak := streak, selected := selected, challenger := challenger, dark := dark, advisory := advisory
        pinned := pinned, attempts := attempts } := by
  unfold Service.reconfigured
  split
  · exact ⟨_, _, _, _, _, _, _, .inl rfl, .inl rfl, rfl⟩
  · split
    · exact ⟨_, _, _, _, _, _, _, .inl rfl, .inl rfl, rfl⟩
    · exact ⟨_, _, _, _, _, _, _, .inr rfl, .inr rfl, rfl⟩
  · exact ⟨_, _, _, _, _, _, _, .inr rfl, .inr rfl, rfl⟩

theorem Service.reconfigured_keptBy (new : ServiceConfig) (w : Service) (h : new.state = .unused → w.rank = []) :
    w.KeptBy (w.reconfigured new) := by
  obtain ⟨streak, selected, _, _, _, _, _, hstreak, hsel, heq⟩ := w.reconfigured_fields new
  rw [heq]
  refine ⟨?top, fun hu => .inr (h hu), .refl _, fun c => Or.imp_right (Or.imp_left ?_)⟩
  case top =>
    rintro ⟨hs, hf, ha, hd, hst⟩
    refine ⟨hs, hf, ha, hd, ?_⟩
    rcases hstreak with rfl | rfl
    · exact Nat.zero_le _
    · exact hst
  · rcases hsel with rfl | rfl
    · exact fun hc => nomatch hc
    · exact id

theorem applyService_keeps (k : Nat) (new : ServiceConfig) (h : new.state = .unused → (s.service k).rank = []) :
    Keeps s (applyService k new s) := by
  have set := keeps_setService (Service.reconfigured_keptBy new (s.service k) h)
  exact .of_ite (fun _ => set.send) fun _ => set

theorem examineHead_keeps (k : Nat) : Keeps s (examineHead k s) := by
  unfold examineHead
  split
  · exact .refl s
  · exact .of_ite (fun _ => .of_lawMask rfl) fun _ => .refl s

end Sys2Proof.Machine
end

section
/-! PROOFS. What an applied CANDIDATE change keeps: the new record suits its state (R42), the Lane Map is renewed (R24),
and the candidate leaves its old owner and joins its new one (R45 to R47). -/

namespace Sys2Proof.Machine

/-! ### Entries added to and removed from the Lane Map -/

/-- The lowest free place is not an occupied one. -/
theorem freePlace_not_mem (i : Nat) (l : List Nat) (hs : l.Pairwise (· < ·)) (hi : ∀ j ∈ l, i ≤ j) : freePlace i l ∉ l := by
  have above (i : Nat) (l : List Nat) : i ≤ freePlace i l := by
    induction l generalizing i with
    | nil => exact Nat.le_refl _
    | cons j l ih =>
      unfold freePlace
      split
      · exact (Nat.le_succ i).trans (ih _)
      · exact Nat.le_refl _
  induction l generalizing i with
  | nil => exact List.not_mem_nil
  | cons j l ih =>
    obtain ⟨hlt, hs'⟩ := List.pairwise_cons.1 hs
    unfold freePlace
    split
    · subst j
      have hne : freePlace (i + 1) l ≠ i := fun h => by have := above (i + 1) l; omega
      exact fun hm => (List.mem_cons.1 hm).elim hne (ih (i + 1) hs' fun j hj => hlt j hj)
    · have hij := hi j (List.mem_cons_self ..)
      refine fun hm => (List.mem_cons.1 hm).elim (by omega) fun hm => ?_
      have := hlt i hm
      omega

variable {s : State}

/-- The canonical form of the Lane Map. -/
abbrev State.lanesWf (s : State) : Prop := Table.wf (fun _ => none) s.laneMap

/-- An added entry takes a place of its own. -/
theorem addLane_perm (h : s.lanesWf) (e : LaneEntry) :
    ∃ i, (addLane s e).laneMap.Perm ((i, some e) :: s.laneMap) := by
  rw [addLane, State.setLanePlace_laneMap]
  refine ⟨freePlace 0 (Table.keys s.laneMap), (Table.set_perm (Option.some_ne_none e)).trans ?_⟩
  rw [Table.erase_of_not_mem (freePlace_not_mem 0 (Table.keys s.laneMap) h.1 fun _ _ => Nat.zero_le _)]

theorem addLane_wf (h : s.lanesWf) (e : LaneEntry) : (addLane s e).lanesWf := by
  rw [State.lanesWf, addLane, State.setLanePlace_laneMap]
  exact Table.wf_set _ _ _ _ h

theorem length_placesOf_perm {c : Nat} {m n : Table (Option LaneEntry)} (h : m.Perm n) :
    (placesOf c m).length = (placesOf c n).length := (h.filter _).length_eq

/-- Adding entries of one candidate adds as many to the map and to the candidate, and none to another. -/
theorem foldl_addLane {c : Nat} (l : List LaneEntry) (hl : ∀ e ∈ l, e.candidate = c) (h : s.lanesWf) :
    (l.foldl addLane s).lanesWf ∧ (l.foldl addLane s).laneMap.length = s.laneMap.length + l.length ∧
      ∀ d, (placesOf d (l.foldl addLane s).laneMap).length =
        (placesOf d s.laneMap).length + if d = c then l.length else 0 := by
  induction l generalizing s with
  | nil => exact ⟨h, rfl, fun d => by simp⟩
  | cons e l ih =>
    obtain ⟨hw, hlen, hcount⟩ := ih (fun a ha => hl a (List.mem_cons_of_mem _ ha)) (addLane_wf h e)
    obtain ⟨i, hp⟩ := addLane_perm h e
    refine ⟨hw, ?_, fun d => ?_⟩
    · rw [List.foldl_cons, hlen, hp.length_eq, List.length_cons, List.length_cons]; omega
    · have he : e.candidate = c := hl e (List.mem_cons_self ..)
      rw [List.foldl_cons, hcount, length_placesOf_perm hp, placesOf, placesOf, List.filter_cons]
      by_cases hd : d = c
      · simp [placeOf, he, hd]; omega
      · simp [placeOf, he, hd, Ne.symm hd]

theorem laneEntries_candidate (c : Nat) (cfg : CandidateConfig) : ∀ e ∈ laneEntries c cfg, e.candidate = c := by
  unfold laneEntries
  split
  · simp
  · intro e he
    obtain ⟨_, _, rfl⟩ := List.mem_map.1 he
    rfl

theorem length_laneEntries (c : Nat) {cfg : CandidateConfig} (h : cfg.source ≠ none) :
    (laneEntries c cfg).length = cfg.lanes.length := by
  unfold laneEntries
  split
  · contradiction
  · simp

/-- Removing a candidate's entries leaves those of the others. -/
theorem placesOf_removeCandidateLanes (c d : Nat) :
    placesOf d (removeCandidateLanes c s).laneMap = if d = c then [] else placesOf d s.laneMap := by
  simp only [placesOf, removeCandidateLanes, List.filter_filter]
  split
  · subst d; simp
  · next hd =>
    refine List.filter_congr fun e _ => ?_
    rcases e with ⟨i, _ | e⟩
    · rfl
    · simp only [placeOf, Option.any_some, Bool.and_eq_left_iff_imp, beq_iff_eq, Bool.not_eq_true', beq_eq_false_iff_ne]
      rintro rfl
      exact hd

/-! ### What each part of the change leaves alone -/

section
variable (c : Nat) (old new : CandidateConfig)

theorem changeLanes_laneMask : laneMask (changeLanes c old new s) = laneMask s := by
  unfold changeLanes
  split
  · rw [addCandidateLanes_laneMask, removeCandidateLanes_laneMask]
  · rfl

@[simp] theorem changeLanes_candidates : (changeLanes c old new s).candidates = s.candidates :=
  (congrArg State.candidates (changeLanes_laneMask (s := s) c old new) :
    (laneMask _).candidates = (laneMask s).candidates)

@[simp] theorem changeLanes_services : (changeLanes c old new s).services = s.services :=
  (congrArg State.services (changeLanes_laneMask (s := s) c old new) :
    (laneMask _).services = (laneMask s).services)

theorem service_changeOldOwner (k : Nat) : (changeOldOwner c old new s).service k =
    if old.owner = some k then (s.service k).afterChange c old new else s.service k := by
  unfold changeOldOwner
  split
  · next h => simp [h]
  · next j h =>
    rw [State.service_setService, h]
    by_cases hk : k = j
    · simp [hk]
    · simp [hk, Ne.symm hk]

theorem service_joinOwner (k : Nat) : (joinOwner c old new s).service k =
    if new.owner = some k ∧ joins old new = true then { s.service k with rank := (s.service k).rank ++ [c] }
    else s.service k := by
  unfold joinOwner
  split
  · next h => simp [h]
  · next j h =>
    by_cases hj : joins old new = true
    · rw [if_pos hj, State.service_setService, h]
      by_cases hk : k = j
      · simp [hk, hj]
      · simp [hk, Ne.symm hk]
    · simp [hj]

end

/-- The services' updates of an applied change, as one function of a service. -/
def Service.changed (c : Nat) (old new : CandidateConfig) (k : Nat) (w : Service) : Service :=
  let v := if old.owner = some k then w.afterChange c old new else w
  if new.owner = some k ∧ joins old new = true then { v with rank := v.rank ++ [c] } else v

/-- An applied change at the level of the tables. -/
theorem applyCandidate_tables (c : Nat) (new : CandidateConfig) (s : State) :
    (∀ d, (applyCandidate c new s).candidate d = if d = c then (s.candidate c).afterChange s new else s.candidate d) ∧
    (∀ k, (applyCandidate c new s).service k = (s.service k).changed c (s.candidate c).cfg new k) ∧
    (applyCandidate c new s).laneMap =
      (changeLanes c (s.candidate c).cfg new (s.setCandidate c ((s.candidate c).afterChange s new))).laneMap := by
  have old : ∀ t : State, (changeOldOwner c (s.candidate c).cfg new t).candidates = t.candidates ∧
      (changeOldOwner c (s.candidate c).cfg new t).laneMap = t.laneMap := fun t => by
    unfold changeOldOwner; split <;> exact ⟨rfl, rfl⟩
  have join : ∀ t : State, (joinOwner c (s.candidate c).cfg new t).candidates = t.candidates ∧
      (joinOwner c (s.candidate c).cfg new t).laneMap = t.laneMap := fun t => by
    unfold joinOwner; split
    · exact ⟨rfl, rfl⟩
    · split <;> exact ⟨rfl, rfl⟩
  refine ⟨fun d => ?_, fun k => ?_, ?_⟩
  · have same : (applyCandidate c new s).candidates = (s.setCandidate c ((s.candidate c).afterChange s new)).candidates := by
      simp only [applyCandidate, State.send_candidates, (join _).1, (old _).1, changeLanes_candidates]
    rw [← State.candidate_setCandidate, State.candidate, same]
    rfl
  · have base : (changeLanes c (s.candidate c).cfg new (s.setCandidate c ((s.candidate c).afterChange s new))).service k =
        s.service k := by rw [State.service, changeLanes_services]; rfl
    simp only [applyCandidate, State.send_acc_service, service_joinOwner, service_changeOldOwner, base, Service.changed]
  · simp only [applyCandidate, State.send_laneMap, (join _).2, (old _).2]

/-! ### The fields of a service and of a candidate after a change -/

/-- A change of one candidate takes it out of the order, the challenge, the pin and the selection, and touches no counter
and no armed switch of its old owner (R46 to R48, R50). -/
theorem Service.afterChange_fields (c : Nat) (old new : CandidateConfig) (w : Service) :
    ∃ challenger streak attempts advisory pinned selected, (streak = 0 ∨ streak = w.streak) ∧
      (selected = w.selected ∨ selected = none) ∧ (leaves old new = true → selected ≠ some c) ∧
      w.afterChange c old new = { w with
        rank := if leaves old new then w.rank.erase c else w.rank, challenger := challenger, streak := streak
        attempts := attempts, advisory := advisory, pinned := pinned, selected := selected } := by
  have lost : leaves old new = true → losesSelection old new = true := by
    simp only [leaves, losesSelection, Bool.and_eq_true, Bool.or_eq_true]
    rintro ⟨-, h | h⟩ <;> simp [h]
  have advisory (v : Service) : ∃ a, v.dropAdvisory c = { v with advisory := a } := by
    unfold Service.dropAdvisory; split <;> exact ⟨_, rfl⟩
  have challenger (v : Service) : ∃ a n m, (n = 0 ∨ n = v.streak) ∧
      v.dropChallenger c = { v with challenger := a, streak := n, attempts := m } := by
    unfold Service.dropChallenger; split
    · exact ⟨_, _, _, .inl rfl, rfl⟩
    · exact ⟨_, _, _, .inr rfl, rfl⟩
  have first : ∃ a, (if leaves old new then { w with rank := w.rank.erase c }.dropAdvisory c else w) =
      { w with rank := if leaves old new then w.rank.erase c else w.rank, advisory := a } := by
    split
    · exact advisory _
    · exact ⟨_, rfl⟩
  obtain ⟨a, ha⟩ := first
  have second (v : Service) : ∃ b n m, (n = 0 ∨ n = v.streak) ∧
      (if losesChallenge old new then v.dropChallenger c else v) = { v with challenger := b, streak := n, attempts := m } := by
    split
    · exact challenger v
    · exact ⟨_, _, _, .inr rfl, rfl⟩
  have third (v : Service) : ∃ p, (if v.pinned = some c ∧ losesPin old new then { v with pinned := none } else v) =
      { v with pinned := p } := by
    split <;> exact ⟨_, rfl⟩
  have fourth (v : Service) : ∃ x, (x = v.selected ∨ x = none) ∧ (leaves old new = true → x ≠ some c) ∧
      (if v.selected = some c ∧ losesSelection old new then { v with selected := none } else v) = { v with selected := x } := by
    split
    · exact ⟨none, .inr rfl, fun _ h => (nomatch h), rfl⟩
    · next h => exact ⟨_, .inl rfl, fun hl hs => h ⟨hs, lost hl⟩, rfl⟩
  obtain ⟨b, n, m, hn, hb⟩ := second { w with
    rank := if leaves old new then w.rank.erase c else w.rank, advisory := a }
  obtain ⟨p, hp⟩ := third { w with
    rank := if leaves old new then w.rank.erase c else w.rank, advisory := a, challenger := b, streak := n, attempts := m }
  obtain ⟨x, hx, hxl, hxe⟩ := fourth { w with
    rank := if leaves old new then w.rank.erase c else w.rank, advisory := a, challenger := b, streak := n, attempts := m
    pinned := p }
  refine ⟨b, n, m, a, p, x, hn, hx, hxl, ?_⟩
  rw [Service.afterChange]
  simp only [ha, hb, hp, hxe]

theorem Candidate.afterChange_withinTop {x : Candidate} (s : State) (new : CandidateConfig) (h : x.withinTop) :
    (x.afterChange s new).withinTop := by
  obtain ⟨hp, hd, hg, hu, hs, hf⟩ := h
  unfold Candidate.afterChange
  dsimp only
  split
  · exact Candidate.withinTop_default 0
  · dsimp only [Candidate.withinTop]
    have flaps : (if joins x.cfg new then 0 else x.flaps) ≤ 15 := by
      split
      · exact Nat.zero_le _
      · exact hf
    split
    · exact ⟨Nat.zero_le _, Nat.zero_le _, Nat.zero_le _, Nat.zero_le _, Nat.zero_le _, flaps⟩
    · exact ⟨hp, hd, hg, hu, hs, flaps⟩

/-! ### The checks that an applied change has passed (R42) -/

/-- What a record that passes the checks says, for a change whose record is canonical when it is FREE. -/
structure State.Admits (s : State) (c : Nat) (new : CandidateConfig) : Prop where
  free : new.state = .free → new = .free
  owned : new.state ≠ .free → new.source ≠ none ∧ ∃ k, new.owner = some k ∧ (s.service k).cfg.state ≠ .unused
  joins : Machine.joins (s.candidate c).cfg new = true → ∀ k, new.owner = some k → (s.service k).rank.length < 6
  fits : placesOfOthers s c + new.lanes.length ≤ 4096

theorem State.Admits.of_check {s : State} {c : Nat} {new : CandidateConfig} (h : checkCandidate s c new = none)
    (free : new.state = .free → new = .free) : s.Admits c new := by
  unfold checkCandidate at h
  dsimp only at h
  split_ifs at h with howner hsuits hfull hlane hmap
  have suits : stateSuits new = true := by simpa using hsuits
  refine ⟨free, fun hne => ?owned, fun hj k hk => ?joins, Nat.not_lt.1 hmap⟩
  case owned =>
    have hsome : new.owner.isSome = true ∧ new.source.isSome = true := by
      unfold stateSuits at suits
      cases hst : new.state <;> simp only [hst, Bool.and_eq_true] at suits hne
      · exact absurd rfl hne
      · exact ⟨suits.1.1.1, (Option.any_eq_true_iff_get _ _).1 suits.2 |>.1⟩
      · exact ⟨suits.1.1.1, (Option.any_eq_true_iff_get _ _).1 suits.2 |>.1⟩
      · exact ⟨suits.1.1.1, suits.2⟩
    obtain ⟨k, hk⟩ := Option.isSome_iff_exists.1 hsome.1
    refine ⟨Option.isSome_iff_ne_none.1 hsome.2, k, hk, fun hu => howner ⟨hne, ?_⟩⟩
    simp [hk, hu]
  case joins =>
    by_contra hlen
    exact hfull ⟨hj, by simpa [hk] using hlen⟩

/-! ### The laws after an applied change -/

section
variable {s : State} {c : Nat} {new : CandidateConfig}

theorem cfg_afterChange (h : s.Admits c new) (x : Candidate) : (x.afterChange s new).cfg = new := by
  unfold Candidate.afterChange
  dsimp only
  split
  · next hf => exact (h.free hf).symm
  · rfl

/-- The Lane Map after a change keeps its form, and holds the lanes of the new record in place of the old ones. -/
theorem laneMapLaw_changeLanes (h : s.Admits c new) (hcan : s.canonical) (hp : s.placed) :
    let t := changeLanes c (s.candidate c).cfg new (s.setCandidate c ((s.candidate c).afterChange s new))
    t.lanesWf ∧ t.laneMap.length ≤ 4096 ∧ ∀ d, (placesOf d t.laneMap).length =
      if d = c then new.lanes.length else (s.candidate d).cfg.lanes.length := by
  obtain ⟨-, hfree, -, -, ⟨hlen, hcount⟩, -⟩ := hp
  have hw : s.lanesWf := hcan.2.1
  intro t
  by_cases hr : resetsRecord (s.candidate c).cfg new = true
  · have ht : t = addCandidateLanes c new (removeCandidateLanes c (s.setCandidate c ((s.candidate c).afterChange s new))) :=
      if_pos hr
    have hentries : (laneEntries c new).length = new.lanes.length := by
      by_cases hs : new.state = .free
      · rw [h.free hs]; rfl
      · exact length_laneEntries c (h.owned hs).1
    have hwr : (removeCandidateLanes c (s.setCandidate c ((s.candidate c).afterChange s new))).lanesWf :=
      Table.wf_filter _ _ _ hw
    obtain ⟨hw', hlen', hcount'⟩ := foldl_addLane (laneEntries c new) (laneEntries_candidate c new) hwr
    rw [ht]
    refine ⟨hw', ?_, fun d => ?_⟩
    · have others : (removeCandidateLanes c (s.setCandidate c ((s.candidate c).afterChange s new))).laneMap.length =
          placesOfOthers s c := rfl
      rw [addCandidateLanes, hlen', hentries, others]
      exact h.fits
    · rw [addCandidateLanes, hcount', placesOf_removeCandidateLanes, hentries]
      split
      · simp
      · exact hcount d
  · have hsame : t = s.setCandidate c ((s.candidate c).afterChange s new) := if_neg hr
    have hlanes : (s.candidate c).cfg.lanes = new.lanes := by
      simp only [resetsRecord, Bool.or_eq_true, bne_iff_ne, not_or, not_not] at hr
      exact hr.2
    rw [hsame]
    refine ⟨hw, hlen, fun d => (hcount d).trans ?_⟩
    split
    · subst d; rw [hlanes]
    · rfl

theorem mem_rank_iff (hp : s.placed) (k d : Nat) :
    d ∈ (s.service k).rank ↔ (s.candidate d).cfg.state ≠ .free ∧ (s.candidate d).cfg.owner = some k :=
  (hp.2.2.1 k).2.2 d

/-- What a change makes of one service, at the level of the laws. -/
theorem Service.changed_fields (c : Nat) (old new : CandidateConfig) (k : Nat) (w : Service) :
    (w.withinTop → (w.changed c old new k).withinTop) ∧ (w.changed c old new k).cfg = w.cfg ∧
      (w.changed c old new k).armed = w.armed ∧
      ((w.changed c old new k).selected = w.selected ∨ (w.changed c old new k).selected = none) ∧
      (old.owner = some k → leaves old new = true → (w.changed c old new k).selected ≠ some c) ∧
      (w.changed c old new k).rank =
        (if old.owner = some k ∧ leaves old new = true then w.rank.erase c else w.rank) ++
          if new.owner = some k ∧ joins old new = true then [c] else [] := by
  have left : ∃ v : Service, v = (if old.owner = some k then w.afterChange c old new else w) ∧
      (w.withinTop → v.withinTop) ∧ v.cfg = w.cfg ∧ v.armed = w.armed ∧ (v.selected = w.selected ∨ v.selected = none) ∧
      (old.owner = some k → leaves old new = true → v.selected ≠ some c) ∧
      v.rank = if old.owner = some k ∧ leaves old new = true then w.rank.erase c else w.rank := by
    refine ⟨_, rfl, ?_⟩
    by_cases ho : old.owner = some k
    · obtain ⟨b, n, m, a, p, x, hn, hx, hl, he⟩ := w.afterChange_fields c old new
      have hst : w.withinTop → n ≤ 15 := fun h => by rcases hn with rfl | rfl <;> [exact Nat.zero_le _; exact h.2.2.2.2]
      rw [if_pos ho, he]
      exact ⟨fun h => ⟨h.1, h.2.1, h.2.2.1, h.2.2.2.1, hst h⟩, rfl, rfl, hx, fun _ => hl, by simp only [ho, true_and]⟩
    · rw [if_neg ho]
      exact ⟨id, rfl, rfl, .inl rfl, fun h => absurd h ho, by simp only [ho, false_and, if_false]⟩
  obtain ⟨v, hv, htop, hcfg, harmed, hsel, hnot, hrank⟩ := left
  unfold Service.changed
  rw [← hv, ← hrank]
  dsimp only
  split
  · exact ⟨htop, hcfg, harmed, hsel, hnot, rfl⟩
  · exact ⟨htop, hcfg, harmed, hsel, hnot, (List.append_nil _).symm⟩

/-- The rank orders after a change: each lists the candidates of its service (R45, R46). -/
theorem ranksLaw_changed (h : s.Admits c new) (hp : s.placed) (k : Nat) :
    let w := s.service k
    let v := w.changed c (s.candidate c).cfg new k
    v.rank.Nodup ∧ v.rank.length ≤ 6 ∧ ∀ d, d ∈ v.rank ↔
      if d = c then new.state ≠ .free ∧ new.owner = some k else d ∈ w.rank := by
  intro w v
  obtain ⟨hnd, hlen, -⟩ := hp.2.2.1 k
  have hmem := mem_rank_iff hp k c
  have hrank : v.rank = _ := (w.changed_fields c (s.candidate c).cfg new k).2.2.2.2.2
  by_cases hj : new.owner = some k ∧ joins (s.candidate c).cfg new = true
  · -- it joins this service, of which it was no member
    obtain ⟨hk, hjoins⟩ := hj
    have hnot : c ∉ w.rank := fun hc => by
      obtain ⟨hne, ho⟩ := hmem.1 hc
      simp [joins, ho, hk, hne] at hjoins
    have hstays : (if (s.candidate c).cfg.owner = some k ∧ leaves (s.candidate c).cfg new = true
        then w.rank.erase c else w.rank) = w.rank := by
      split
      · exact List.erase_of_not_mem hnot
      · rfl
    rw [hrank, hstays, if_pos ⟨hk, hjoins⟩]
    have hnew : new.state ≠ .free := by simp only [joins, Bool.and_eq_true, bne_iff_ne] at hjoins; exact hjoins.1
    refine ⟨?_, ?_, fun d => ?_⟩
    · exact List.nodup_append.2 ⟨hnd, List.nodup_singleton c, fun a ha b hb hab =>
        hnot (List.mem_singleton.1 hb ▸ hab ▸ ha)⟩
    · have := h.joins hjoins k hk
      rw [List.length_append, List.length_singleton]; exact this
    · rw [List.mem_append, List.mem_singleton]
      split
      · next hd => simp [hd, hnew, hk]
      · next hd => simp [hd]
  · rw [hrank, if_neg hj, List.append_nil]
    by_cases hl : (s.candidate c).cfg.owner = some k ∧ leaves (s.candidate c).cfg new = true
    · -- it leaves this service
      obtain ⟨ho, hleaves⟩ := hl
      rw [if_pos ⟨ho, hleaves⟩]
      refine ⟨hnd.erase c, List.length_erase_le.trans hlen, fun d => ?_⟩
      rw [hnd.mem_erase_iff]
      split
      · next hd =>
        simp only [hd, ne_eq, not_true_eq_false, false_and, false_iff, not_and]
        intro hne hk
        simp only [leaves, Bool.and_eq_true, Bool.or_eq_true, bne_iff_ne, beq_iff_eq, ho, hk] at hleaves
        exact hleaves.2.elim hne fun h => h rfl
      · next hd => exact and_iff_right hd
    · -- its membership of this service stands
      rw [if_neg hl]
      refine ⟨hnd, hlen, fun d => ?_⟩
      split
      · next hd =>
        rw [hd, hmem]
        simp only [joins, leaves, Bool.and_eq_true, Bool.or_eq_true, bne_iff_ne, beq_iff_eq] at hj hl
        constructor
        · rintro ⟨hne, ho⟩
          by_contra hcon
          exact hl ⟨ho, hne, by
            by_contra h'
            rw [not_or, not_not] at h'
            exact hcon ⟨h'.1, h'.2 ▸ ho⟩⟩
        · rintro ⟨hne, hk⟩
          by_contra hcon
          exact hj ⟨hk, hne, by
            by_contra h'
            rw [not_or, not_not] at h'
            exact hcon ⟨h'.1, h'.2.symm ▸ hk⟩⟩
      · rfl

/-- A change keeps the laws of membership when no switch of the old owner is armed (R40). -/
theorem placed_applyCandidate (h : s.Admits c new) (hcan : s.canonical) (hp : s.placed)
    (harmed : ∀ k, (s.candidate c).cfg.owner = some k → (s.service k).armed = none) :
    (applyCandidate c new s).placed := by
  obtain ⟨hcand, hserv, hmap⟩ := applyCandidate_tables c new s
  obtain ⟨-, hlen, hcount⟩ := laneMapLaw_changeLanes h hcan hp
  have hmask := applyCandidate_tableMask s c new
  have hcfg (d : Nat) : ((applyCandidate c new s).candidate d).cfg = if d = c then new else (s.candidate d).cfg := by
    rw [hcand]
    split
    · exact cfg_afterChange h _
    · rfl
  have hstate (k : Nat) : ((applyCandidate c new s).service k).cfg = (s.service k).cfg := by
    rw [hserv]; exact (Service.changed_fields ..).2.1
  have hrank := ranksLaw_changed h hp
  have hsel := (selectionLaw_iff s).1 hp.2.2.2.1
  refine ⟨fun d hne => ?owned, fun d he => ?free, fun k => ?ranks, (selectionLaw_iff _).2 fun k d hn => ?sel, ?lanes, ?store,
    ?save⟩
  case owned =>
    rw [hcfg] at hne ⊢
    simp only [hstate]
    split at hne
    · next hd => rw [if_pos hd]; exact h.owned hne
    · next hd => rw [if_neg hd]; exact hp.1 d hne
  case free =>
    rw [hcfg] at he ⊢
    split at he
    · next hd => rw [if_pos hd, h.free he]; rfl
    · next hd => rw [if_neg hd]; exact hp.2.1 d he
  case ranks =>
    obtain ⟨hnd, hle, hm⟩ := hrank k
    rw [hserv]
    refine ⟨hnd, hle, fun d => ?_⟩
    rw [hm, hcfg]
    split
    · rfl
    · exact mem_rank_iff hp k d
  case sel =>
    obtain ⟨-, -, ha, hs, hleft, hr⟩ := (s.service k).changed_fields c (s.candidate c).cfg new k
    rw [hserv] at hn ⊢
    rcases hn with hin | hother
    · exact hin
    · have hw : (s.service k).names d := by
        rcases hother with hd | ⟨a, had, rfl⟩
        · rcases hs with hs | hs <;> rw [hs] at hd
          · exact .inr (.inl hd)
          · cases hd
        · exact .inr (.inr ⟨a, ha ▸ had, rfl⟩)
      have hdw := hsel k d hw
      rw [hr]
      refine List.mem_append_left _ ?_
      split
      · next hl =>
        refine ((hp.2.2.1 k).1.mem_erase_iff).2 ⟨?_, hdw⟩
        rintro rfl
        rcases hother with hd | ⟨a, had, -⟩
        · exact hleft hl.1 hl.2 hd
        · rw [ha, harmed k hl.1] at had; cases had
      · exact hdw
  case lanes =>
    refine ⟨hmap ▸ hlen, fun d => ?_⟩
    have hd := hcount d
    rw [← hmap] at hd
    refine hd.trans ?_
    rw [hcfg]
    split <;> rfl
  case store =>
    have : (applyCandidate c new s).store = s.store := (congrArg State.store hmask :)
    exact this ▸ hp.2.2.2.2.2.1
  case save =>
    have : (applyCandidate c new s).save = s.save := (congrArg State.save hmask :)
    exact this ▸ hp.2.2.2.2.2.2

theorem withinCapacity_of_laneMask {s t : State} (hm : laneMask t = laneMask s) (h : s.withinCapacity) :
    t.withinCapacity := by
  show (laneMask t).withinCapacity
  rw [hm]
  exact h

theorem canonical_of_laneMask {s t : State} (hm : laneMask t = laneMask s) (hw : t.lanesWf) (h : s.canonical) :
    t.canonical := by
  obtain ⟨hp, -, hrest⟩ := h
  have masked : (laneMask t).canonical := by rw [hm]; exact ⟨hp, Table.wf_nil _, hrest⟩
  exact ⟨masked.1, hw, masked.2.2⟩

theorem withinCapacity_applyCandidate (c : Nat) (new : CandidateConfig) (h : s.withinCapacity) :
    (applyCandidate c new s).withinCapacity := by
  have rank (u : State) (hu : u.withinCapacity) (k : Nat) (l : List Nat) :
      (u.setService k { u.service k with rank := l }).withinCapacity := withinCapacity_setService id hu
  have record : (s.setCandidate c ((s.candidate c).afterChange s new)).withinCapacity :=
    withinCapacity_setCandidate (Candidate.afterChange_withinTop s new) h
  have lanes : (changeLanes c (s.candidate c).cfg new (s.setCandidate c ((s.candidate c).afterChange s new))).withinCapacity :=
    withinCapacity_of_laneMask (changeLanes_laneMask ..) record
  have old : (changeOldOwner c (s.candidate c).cfg new
      (changeLanes c (s.candidate c).cfg new (s.setCandidate c ((s.candidate c).afterChange s new)))).withinCapacity := by
    unfold changeOldOwner
    split
    · exact lanes
    · refine withinCapacity_setService (fun ht => ?_) lanes
      obtain ⟨_, n, _, _, _, _, hn, -, -, he⟩ := Service.afterChange_fields c (s.candidate c).cfg new
        ((changeLanes c (s.candidate c).cfg new (s.setCandidate c ((s.candidate c).afterChange s new))).service _)
      rw [he]
      refine ⟨ht.1, ht.2.1, ht.2.2.1, ht.2.2.2.1, ?_⟩
      rcases hn with rfl | rfl
      · exact Nat.zero_le _
      · exact ht.2.2.2.2
  show (joinOwner c _ new _).withinCapacity
  unfold joinOwner
  split
  · exact old
  · split
    · exact rank _ old ..
    · exact old

theorem canonical_applyCandidate (c : Nat) (new : CandidateConfig) (h : s.canonical) :
    (applyCandidate c new s).canonical := by
  have lanes : (changeLanes c (s.candidate c).cfg new (s.setCandidate c ((s.candidate c).afterChange s new))).canonical := by
    refine canonical_of_laneMask (changeLanes_laneMask ..) ?_ (canonical_setCandidate c ((s.candidate c).afterChange s new) h)
    unfold changeLanes
    split
    · exact (foldl_addLane _ (laneEntries_candidate c new) (Table.wf_filter _ _ _ h.2.1)).1
    · exact h.2.1
  have old : (changeOldOwner c (s.candidate c).cfg new
      (changeLanes c (s.candidate c).cfg new (s.setCandidate c ((s.candidate c).afterChange s new)))).canonical := by
    unfold changeOldOwner
    split
    · exact lanes
    · exact canonical_setService _ _ lanes
  show (joinOwner c _ new _).canonical
  unfold joinOwner
  split
  · exact old
  · split
    · exact canonical_setService _ _ old
    · exact old

theorem applyCandidate_keeps (h : s.Admits c new)
    (harmed : ∀ k, (s.candidate c).cfg.owner = some k → (s.service k).armed = none) : Keeps s (applyCandidate c new s) :=
  .of_recordFields (congrArg State.recordFields (applyCandidate_tableMask s c new) :) (withinCapacity_applyCandidate c new)
    (canonical_applyCandidate c new) fun hc hp => placed_applyCandidate h hc hp harmed

/-- A resulting record that is FREE is the FREE record, where it has neither owner, source nor lanes (R41). -/
theorem formCandidate_free {cfg : CandidateConfig} {fields : List (Nat × Nat)} (hs : stateSuits (formCandidate cfg fields) = true)
    (hf : (formCandidate cfg fields).state = .free) : formCandidate cfg fields = .free := by
  have resulting (r : CandidateConfig) (hs : stateSuits (if r.state = .free ∧ r.owner = none ∧ r.source = none ∧ r.lanes = []
      then .free else r) = true) (hf : (if r.state = .free ∧ r.owner = none ∧ r.source = none ∧ r.lanes = []
      then .free else r).state = .free) : (if r.state = .free ∧ r.owner = none ∧ r.source = none ∧ r.lanes = []
      then CandidateConfig.free else r) = .free := by
    by_cases h : r.state = .free ∧ r.owner = none ∧ r.source = none ∧ r.lanes = []
    · exact if_pos h
    · rw [if_neg h] at hs hf
      simp only [stateSuits, hf, Bool.and_eq_true, Option.isNone_iff_eq_none, List.isEmpty_iff] at hs
      exact absurd ⟨hf, hs.1.1, hs.1.2, hs.2⟩ h
  unfold formCandidate at hs hf ⊢
  by_cases h : selectedState fields = some .free
  · exact if_pos h
  · rw [if_neg h] at hs hf ⊢
    exact resulting _ hs hf

theorem stateSuits_of_check (h : checkCandidate s c new = none) : stateSuits new = true := by
  unfold checkCandidate at h
  dsimp only at h
  split_ifs at h with _ hs
  simpa using hs

/-- A change that touches no armed service is performed within the laws. -/
theorem performChange_keeps (h : Change) (hh : isHeld s h = false) : Keeps s (performChange h s) := by
  refine .of_ite (fun _ => ?service) fun hs => ?candidate
  case service =>
    dsimp only
    split
    · exact failChange_keeps ..
    · next hc => exact applyService_keeps s _ _ fun hu => rank_of_checkService hc hu
  case candidate =>
    dsimp only
    split
    · exact failChange_keeps ..
    · next hc =>
      refine applyCandidate_keeps (.of_check hc (formCandidate_free (stateSuits_of_check hc))) fun k hk => ?_
      have hall := List.any_eq_false.1 hh k (by simp [touches, hs, hk])
      simpa using hall

theorem takeHead_keeps (s : State) : Keeps s (takeHead s) := by
  unfold takeHead
  split
  · exact .refl s
  · next h rest hc =>
    refine .of_ite (fun _ => .refl s) fun _ => .of_ite (fun _ => .of_lawMask rfl) fun hh => ?_
    have dropped : Keeps s { s with changes := rest } := keeps_changes s fun hl => by rw [hc, List.length_cons] at hl; omega
    exact dropped.trans (performChange_keeps h (Bool.eq_false_iff.2 hh))

end

end Sys2Proof.Machine
end

section
/-! PROOFS. What each command of the Management Unit keeps. -/

namespace Sys2Proof.Machine

/-- What a verdict leaves keeps the laws; a refusal leaves the state. -/
def Verdict.Keeps (s : State) : Verdict → Prop
  | .refused _ => True
  | .done _ t => Machine.Keeps s t
  | .accepted _ t => Machine.Keeps s t

variable (s : State)

theorem Verdict.Keeps.of_ite {s : State} {c : Prop} [Decidable c] {v w : Verdict} (h : c → v.Keeps s) (h' : ¬c → w.Keeps s) :
    (if c then v else w).Keeps s := by
  split
  · exact h ‹_›
  · exact h' ‹_›

theorem Verdict.Keeps.unless {s : State} {c : Prop} [Decidable c] {why : Reason} {w : Verdict} (h : ¬c → w.Keeps s) :
    (if c then .refused why else w).Keeps s := .of_ite (fun _ => trivial) h

/-! ### Taking a command -/

theorem answer_keeps (r : CommandRecord) {v : Verdict} (h : v.Keeps s) : Keeps s (answer r s v) :=
  match v, h with
  | .refused _, _ => .of_lawMask rfl
  | .done _ _, h => h.trans (.of_lawMask rfl)
  | .accepted _ _, h => h.trans (.of_lawMask rfl)

theorem keeps_commandQueue {l : List CommandRecord} (hl : s.commandQueue.length ≤ 8 → l.length ≤ 8) :
    Keeps s { s with commandQueue := l } :=
  .of_recordFields rfl (fun ⟨hc, hq, hd, hf, hi, ht, hm, hrest⟩ => ⟨hc, hq, hd, hf, hi, ht, hl hm, hrest⟩) id fun _ => id

/-- The two counters of control packets, each at its top at most. -/
theorem keeps_controlCounters {n m : Nat} (hn : s.malformedControl ≤ top32 → n ≤ top32)
    (hm : s.commandOverflow ≤ top32 → m ≤ top32) : Keeps s { s with malformedControl := n, commandOverflow := m } :=
  .of_recordFields rfl
    (fun ⟨hc, hq, hd, hf, hi, ht, hcq, hno, hl, ho, hmal, hcmd, hrest⟩ =>
      ⟨hc, hq, hd, hf, hi, ht, hcq, hno, hl, ho, hn hmal, hm hcmd, hrest⟩) id fun _ => id

theorem joinCommandQueue_keeps (r : CommandRecord) : Keeps s (joinCommandQueue r s) :=
  .of_ite (fun h => keeps_commandQueue s fun _ => by simpa using h) fun _ =>
    (keeps_controlCounters s id fun _ => satAdd_le ..).raise

theorem takeControlPacket_keeps (p : Packet) : Keeps s (takeControlPacket p s) :=
  .of_ite (fun _ => joinCommandQueue_keeps ..) fun _ => keeps_controlCounters s (fun _ => satAdd_le ..) id

theorem manage_keeps (r : CommandRecord) {f : State → Verdict} (hf : ∀ t, (f t).Keeps t) : Keeps s (manage r f s) := by
  unfold manage
  split
  · exact .of_ite (fun _ => answer_keeps s r (hf s)) fun _ => joinCommandQueue_keeps ..
  · next h rest hq =>
    refine .of_ite (fun _ => .of_ite (fun _ => ?_) fun _ => .refl s) fun _ => joinCommandQueue_keeps ..
    have taken : Keeps s { s with commandQueue := rest } :=
      keeps_commandQueue s fun hl => by rw [hq, List.length_cons] at hl; omega
    exact taken.trans (answer_keeps _ r (hf _))

theorem checked_keeps {level : Nat} {length admits : Bool} {v : Verdict} (h : v.Keeps s) :
    (checked s level length admits v).Keeps s := .unless fun _ => .unless fun _ => .unless fun _ => h

theorem command_keeps {length level : Nat} (c : Cmd) {v : State → Verdict} (h : ∀ t, (v t).Keeps t) :
    (command length level c v s).Keeps s := checked_keeps s (h s)

/-! ### Reads -/

theorem identify_keeps : (identify s).Keeps s := Keeps.refl s

theorem readEntry_keeps (c : Cmd) : (readEntry c s).Keeps s := by
  unfold readEntry
  split
  · trivial
  · exact checked_keeps s (.of_ite (fun _ => Keeps.refl s) fun _ => trivial)

theorem probeAccess_keeps (b : List Byte) : (probeAccess b s).Keeps s := .unless fun _ => Keeps.refl s

theorem takeDiscoveries_keeps : (takeDiscoveries s).Keeps s :=
  keeps_discoveries s id (fun h => by rw [List.length_drop]; omega) fun h d hd => h d (List.mem_of_mem_drop hd)

theorem clearDiscoveries_keeps : (clearDiscoveries s).Keeps s :=
  keeps_discoveries s (fun _ => Nat.zero_le _) (fun _ => Nat.zero_le _) fun _ _ hd => nomatch hd

theorem readFaults_keeps : (readFaults s).Keeps s := Keeps.refl s

/-- Clearing kinds unlocks the Record only when its own kind is cleared (R176). -/
theorem clearFaults_keeps (kinds : BitVec 8) : (clearFaults kinds s).Keeps s := by
  have loss : Keeps s { s with
      noticeLoss := if kinds.getLsbD (faultCode .noticeOverflow) then 0 else s.noticeLoss } :=
    .of_recordFields rfl (fun ⟨hc, hq, hd, hf, hi, ht, hm, hn, hl, hrest⟩ =>
      ⟨hc, hq, hd, hf, hi, ht, hm, hn, by dsimp only; split <;> [exact Nat.zero_le _; exact hl], hrest⟩) id fun _ => id
  refine loss.trans ⟨rfl, id, id, fun _ => id, fun h => ?_, id, id, id, id⟩
  dsimp only [State.faultLaw] at h ⊢
  by_cases hl : s.faultRecord.locked = true
  · rw [if_pos hl] at h
    obtain ⟨e, he, hbit⟩ := h
    by_cases hn : recordNamed s kinds = true
    · simp [hl, hn]
    · have hkept : kinds.getLsbD (faultCode e.fault) = false := by simpa [recordNamed, he] using hn
      have hcode := faultCode_lt e.fault
      have hif : (s.faultRecord.locked && recordNamed s kinds) = false := by simp [hn]
      rw [hif, if_neg Bool.false_ne_true, if_pos hl]
      exact ⟨e, he, by rw [BitVec.getLsbD_and, BitVec.getLsbD_not, hbit, hkept]; simp [hcode]⟩
  · rw [if_neg hl] at h
    simpa [hl] using h

/-! ### Table writes -/

theorem writeSettings_keeps (reply : List Byte) (fields : List (Nat × Nat)) : (writeSettings reply fields s).Keeps s :=
  .unless fun _ => .unless fun _ => show Keeps s _ from .of_lawMask rfl

theorem writeOnePort_keeps (tag : BitVec 16) (e : Nat × List (Nat × Nat)) : Keeps s (writeOnePort tag s e) :=
  .of_ite (fun _ => holdPortWrite_keeps ..) fun _ =>
    .of_ite (fun _ => (applyPortWrite_keeps ..).trans (tryChoose_keeps ..)) fun _ => applyPortWrite_keeps ..

theorem writePorts_keeps (tag : BitVec 16) (reply : List Byte) (l : List (Nat × List (Nat × Nat))) :
    (writePorts tag reply l s).Keeps s := by
  have all : Keeps s (l.foldl (writeOnePort tag) s) := .foldl (fun t e => writeOnePort_keeps t tag e) ..
  exact .unless fun _ => .of_ite (fun _ => all) fun _ => all

theorem writeWeights_keeps (reply : List Byte) (l : List (Nat × List (Nat × Nat))) : (writeWeights reply l s).Keeps s :=
  Keeps.foldl (fun _ _ => keeps_setWeightSet ..) ..

theorem writeSweeps_keeps (reply : List Byte) (l : List (Nat × List (Nat × Nat))) : (writeSweeps reply l s).Keeps s := by
  have all : Keeps s (l.foldl (fun t e => if s.underVisit e.1 then holdSweepWrite e.1 e.2 t else applySweepWrite e.1 e.2 t) s) :=
    .foldl (fun _ _ => .of_ite (fun _ => holdSweepWrite_keeps ..) fun _ => applySweepWrite_keeps ..) ..
  have chosen := Keeps.of_ite (c := (l.all fun e => s.underVisit e.1) = true) (fun _ => all) fun _ => all.trans (tryBoth_keeps _)
  exact .of_ite (fun _ => chosen) fun _ => chosen

theorem postChanges_keeps (service : Bool) (c : Cmd) (reply : List Byte) (l : List (Nat × List (Nat × Nat))) :
    (postChanges service c reply l s).Keeps s :=
  .unless fun h => keeps_changes s fun _ => by rw [List.length_append, List.length_map]; omega

theorem PortCounters.clear_le (c : PortCounters) (f : Nat) :
    ((c.clear f).accepted ≤ c.accepted ∧ (c.clear f).syncLosses ≤ c.syncLosses ∧ (c.clear f).blips ≤ c.blips ∧
      (c.clear f).outages ≤ c.outages) ∧ (c.clear f).unclaimed ≤ c.unclaimed ∧ (c.clear f).badMargin ≤ c.badMargin ∧
      (c.clear f).crcFailures ≤ c.crcFailures ∧ (c.clear f).discards ≤ c.discards := by
  unfold PortCounters.clear
  split <;> simp

theorem PortCounters.clear_withinTop (v : Port) (f : Nat) (h : v.withinTop) :
    Port.withinTop { v with counters := v.counters.clear f } := by
  obtain ⟨⟨ha, hs, hb, ho⟩, ⟨hu, hm, hc, hd⟩, hr⟩ := h
  obtain ⟨⟨ha', hs', hb', ho'⟩, hu', hm', hc', hd'⟩ := v.counters.clear_le f
  exact ⟨⟨ha'.trans ha, hs'.trans hs, hb'.trans hb, ho'.trans ho⟩,
    ⟨hu'.trans hu, hm'.trans hm, hc'.trans hc, hd'.trans hd⟩, hr⟩

theorem Service.clearCounter_keptBy (w : Service) (f : Nat) : w.KeptBy (w.clearCounter f) := by
  unfold Service.clearCounter
  split
  · exact .of_eq rfl rfl rfl rfl fun ⟨_, hf, ha, hd, hst⟩ => ⟨Nat.zero_le _, hf, ha, hd, hst⟩
  · exact .of_eq rfl rfl rfl rfl fun ⟨hs, _, ha, hd, hst⟩ => ⟨hs, Nat.zero_le _, ha, hd, hst⟩
  · exact .of_eq rfl rfl rfl rfl fun ⟨hs, hf, _, hd, hst⟩ => ⟨hs, hf, Nat.zero_le _, hd, hst⟩
  · exact .of_eq rfl rfl rfl rfl fun ⟨hs, hf, ha, _, hst⟩ => ⟨hs, hf, ha, Nat.zero_le _, hst⟩
  · exact .refl w

theorem clearCounter_keeps (i f : Nat) : Keeps s (clearCounter i s f) :=
  .of_ite (fun _ => .of_ite (fun _ => keeps_controlCounters s (fun _ => Nat.zero_le _) id) fun _ =>
    .of_ite (fun _ => keeps_controlCounters s id fun _ => Nat.zero_le _) fun _ =>
      keeps_setPort (PortCounters.clear_withinTop _ f)) fun _ => keeps_setService (Service.clearCounter_keptBy _ f)

theorem writeCounters_keeps (reply : List Byte) (l : List (Nat × List (Nat × Nat))) : (writeCounters reply l s).Keeps s :=
  show Keeps s _ from
    .foldl (fun t (e : Nat × List (Nat × Nat)) => .foldl (fun t f => clearCounter_keeps t e.1 f) (e.2.map Prod.fst) t) l s

theorem writeTable_keeps (t : TableId) (c : Cmd) (w : TableWrite) : (writeTable t c w s).Keeps s :=
  match t with
  | .settings => writeSettings_keeps ..
  | .port => writePorts_keeps ..
  | .weight => writeWeights_keeps ..
  | .sweep => writeSweeps_keeps ..
  | .service => postChanges_keeps ..
  | .candidate => postChanges_keeps ..
  | .counters => writeCounters_keeps ..
  | .grades | .laneMap | .directory => trivial

theorem writeCommand_keeps (run : Bool) (c : Cmd) : (writeCommand run c s).Keeps s := by
  unfold writeCommand
  split
  · trivial
  · refine checked_keeps s ?_
    split
    · trivial
    · exact .of_ite (fun _ => writeTable_keeps ..) fun _ => trivial

theorem tableWrite_keeps (t : TableId) (run : Bool) (c : Cmd) : Keeps s (tableWrite t run c s) :=
  .of_ite (fun _ => manage_keeps s _ fun u => writeCommand_keeps u run c) fun _ => .refl s

/-! ### Commands on measurement, switching, the sweep and the tap -/

theorem closeInterval_keeps : (closeInterval s).Keeps s := .unless fun _ => intervalGrading_keeps s

theorem pinCommand_keeps (b : List Byte) : (pinCommand b s).Keeps s :=
  .unless fun _ => .unless fun h => setPin_keeps s _ _ (mem_rank_of_pinFit (by simpa using h))

theorem releaseCommand_keeps (b : List Byte) : (releaseCommand b s).Keeps s :=
  .unless fun _ => .unless fun _ => releasePin_keeps ..

theorem quarantineCommand_keeps (b : List Byte) : (quarantineCommand b s).Keeps s := by
  refine .unless fun _ => .unless fun _ => ?_
  have h := quarantineCandidate_keeps s (beAt b 0 2) .manual (beAt b 2 2)
  dsimp only
  split
  · exact h
  · exact h

theorem liftCommand_keeps (b : List Byte) : (liftCommand b s).Keeps s := .unless fun _ => .unless fun _ => endQuarantine_keeps ..

theorem holdCommand_keeps (b : List Byte) : (holdCommand b s).Keeps s := by
  unfold holdCommand
  split
  · trivial
  · exact holdPorts_keeps ..

theorem resumeCommand_keeps (b : List Byte) : (resumeCommand b s).Keeps s := by
  unfold resumeCommand
  split
  · trivial
  · exact resumePorts_keeps ..

theorem visitNowCommand_keeps (b : List Byte) : (visitNowCommand b s).Keeps s := by
  refine .unless fun _ => .unless fun _ => .of_ite (fun _ => Keeps.refl s) fun hn => .unless fun hl => ?_
  have queued : Keeps s { s with visitQueue := s.visitQueue ++ [octetAt b 0] } :=
    keeps_visitQueue s (fun _ => by rw [List.length_append, List.length_singleton]; omega) fun hnd =>
      List.nodup_append.2 ⟨hnd, List.nodup_singleton _, fun a ha c hc hac =>
        hn (.inl (by simpa using List.mem_singleton.1 hc ▸ hac ▸ ha))⟩
  exact queued.trans (tryBoth_keeps _)

theorem beAt_two_lt (b : List Byte) (i : Nat) : beAt b i 2 < 65536 := by
  unfold beAt
  rcases hl : (b.drop i).take 2 with _ | ⟨x, _ | ⟨y, _ | ⟨z, l⟩⟩⟩
  · simp
  · simp; omega
  · simp; omega
  · have : ((b.drop i).take 2).length ≤ 2 := List.length_take_le ..
    rw [hl] at this
    simp at this

theorem startTap_keeps (b : List Byte) : (startTap b s).Keeps s := by
  refine .unless fun h => .unless fun _ => ?_
  have sent (u : State) (l : List Instr) : Keeps u { u with inFlight := l } := .of_lawMask rfl
  have hstop : beAt b 3 2 ≠ 0 := fun h0 => h (.inr (.inr h0))
  exact (keeps_tap s (v := ⟨true, octetAt b 0, if beAt b 1 2 = 0xFFFF then none else some (beAt b 1 2), beAt b 3 2, 0, 0⟩)
    (fun _ _ => Nat.pos_of_ne_zero hstop) (fun _ => Nat.le_of_lt_succ (beAt_two_lt b 3))
    fun _ => Nat.zero_le _).trans (sent _ _)

theorem extendTap_keeps (b : List Byte) : (extendTap b s).Keeps s :=
  .unless fun _ => .unless fun _ => .unless fun h =>
    keeps_tap s (fun hl hr => (hl.1 hr).trans_le (Nat.le_add_right ..)) (fun _ => Nat.not_lt.1 h) id

theorem stopTap_keeps : (stopTap s).Keeps s := .unless fun _ => endTap_keeps ..

/-! ### The Settings Store (10.7) -/

namespace Table
variable {α β γ : Type}

/-- A listed entry is what the table reads at its index. -/
theorem get_of_mem {d : Nat → α} {t : Table α} (h : (t.map Prod.fst).Pairwise (· < ·)) {k : Nat} {v : α} (hm : (k, v) ∈ t) :
    get d t k = v := by
  induction t with
  | nil => cases hm
  | cons e t ih =>
    obtain ⟨hlt, hs⟩ := List.pairwise_cons.1 h
    rcases List.mem_cons.1 hm with rfl | hm
    · exact if_pos rfl
    · have hne : e.1 ≠ k := fun hk => Nat.lt_irrefl _ (hk ▸ hlt k (List.mem_map_of_mem hm))
      exact (if_neg hne).trans (ih hs hm)

/-- An entry that does not read its default is listed. -/
theorem mem_of_get_ne {d : Nat → α} {t : Table α} {k : Nat} (h : get d t k ≠ d k) : (k, get d t k) ∈ t := by
  induction t with
  | nil => exact absurd rfl h
  | cons e t ih =>
    by_cases hk : e.1 = k
    · rw [show get d (e :: t) k = e.2 from if_pos hk]
      exact List.mem_cons.2 (.inl (by rw [← hk]))
    · rw [show get d (e :: t) k = get d t k from if_neg hk] at h ⊢
      exact List.mem_cons_of_mem _ (ih h)

/-- An entry of a remapped table is the image of an entry, or both are default ones. -/
theorem get_remap_cases [DecidableEq β] (d : Nat → α) (d' : Nat → β) (f : Nat → α → β) {t : Table α}
    (h : (t.map Prod.fst).Pairwise (· < ·)) (k : Nat) :
    get d' (remap d' f t) k = f k (get d t k) ∨ get d t k = d k ∧ get d' (remap d' f t) k = d' k := by
  induction t with
  | nil => exact .inr ⟨rfl, rfl⟩
  | cons e t ih =>
    obtain ⟨hlt, hs⟩ := List.pairwise_cons.1 h
    have ih := ih hs
    by_cases hk : e.1 = k
    · left
      have hbelow := get_of_below d t k fun x hx => hk ▸ hlt x hx
      rw [show get d (e :: t) k = e.2 from if_pos hk]
      by_cases he : f e.1 e.2 = d' e.1
      · have hkeys : ∀ x ∈ (remap d' f t).map Prod.fst, k < x := by
          intro x hx
          obtain ⟨⟨j, w⟩, hm, rfl⟩ := List.mem_map.1 hx
          obtain ⟨v, hv, -⟩ : ∃ v, (j, v) ∈ t ∧ w = f j v := by
            obtain ⟨⟨i, v⟩, hv, hw⟩ := List.mem_filterMap.1 hm
            split at hw
            · cases hw
            · cases hw; exact ⟨v, hv, rfl⟩
          exact hk ▸ hlt _ (List.mem_map_of_mem hv)
        rw [show remap d' f (e :: t) = remap d' f t by simp [remap, he], get_of_below d' _ k hkeys, ← hk, he]
      · rw [show remap d' f (e :: t) = (e.1, f e.1 e.2) :: remap d' f t by simp [remap, he], get_cons, if_pos hk, hk]
    · rw [show get d (e :: t) k = get d t k from if_neg hk]
      by_cases he : f e.1 e.2 = d' e.1
      · rw [show remap d' f (e :: t) = remap d' f t by simp [remap, he]]
        exact ih
      · rw [show remap d' f (e :: t) = (e.1, f e.1 e.2) :: remap d' f t by simp [remap, he], get_cons, if_neg hk]
        exact ih

/-- A reading of a remapped table's entry that agrees with a reading of the entry it came from. -/
theorem read_get_remap [DecidableEq β] {d : Nat → α} {d' : Nat → β} {f : Nat → α → β} {t : Table α}
    (h : (t.map Prod.fst).Pairwise (· < ·)) (g : β → γ) (g' : α → γ) (hf : ∀ k v, g (f k v) = g' v)
    (hd : ∀ k, g (d' k) = g' (d k)) (k : Nat) : g (get d' (remap d' f t) k) = g' (get d t k) := by
  rcases get_remap_cases d d' f h k with he | ⟨he, he'⟩
  · rw [he, hf]
  · rw [he, he', hd]

theorem mem_remap [DecidableEq β] {d : Nat → β} {f : Nat → α → β} {t : Table α} {k : Nat} {w : β} (h : (k, w) ∈ remap d f t) :
    ∃ v, (k, v) ∈ t ∧ w = f k v := by
  obtain ⟨⟨j, v⟩, hm, he⟩ := List.mem_filterMap.1 h
  split at he
  · cases he
  · cases he; exact ⟨v, hm, rfl⟩

end Table

theorem takeSnapshot_candidates (s : State) :
    (takeSnapshot s).candidates = Table.remap (fun _ => CandidateConfig.free) (fun _ v => v.cfg) s.candidates := rfl

theorem takeSnapshot_candidates_wf {s : State} (h : Table.wf Candidate.default s.candidates) :
    Table.wf (fun _ => CandidateConfig.free) (takeSnapshot s).candidates := by
  rw [takeSnapshot_candidates]; exact Table.wf_remap _ _ _ h.1

theorem canonical_takeSnapshot {s : State} (h : s.canonical) : (takeSnapshot s).canonical := by
  obtain ⟨hp, -, hs, hc, hw, he, -⟩ := h
  exact ⟨Table.wf_remap PortConfig.default (fun _ (v : Port) => v.cfg) s.ports hp.1, hw,
    Table.wf_remap SweepConfig.default (fun _ (v : SweepEntry) => v.cfg) s.sweepList he.1,
    Table.wf_remap ServiceSaved.default (fun _ (v : Service) => ⟨v.cfg, v.pinned⟩) s.services hs.1, takeSnapshot_candidates_wf hc⟩

/-- The places of different candidates are different entries of the Lane Map. -/
theorem sum_placesOf_le (l : List Nat) (hl : l.Nodup) (m : Table (Option LaneEntry)) :
    (l.map fun c => (placesOf c m).length).sum ≤ m.length := by
  induction m with
  | nil => simp [placesOf]
  | cons e m ih =>
    have one : (l.map fun c => if placeOf c e.2 then 1 else 0).sum ≤ 1 := by
      rcases he : e.2 with _ | v
      · simp [placeOf]
      · have : (l.map fun c => if placeOf c (some v) then 1 else 0).sum = l.count v.candidate := by
          rw [List.count_eq_countP]
          clear ih hl
          induction l with
          | nil => rfl
          | cons c l ih =>
            rw [List.map_cons, List.sum_cons, ih, List.countP_cons]
            by_cases hc : v.candidate = c
            · simp [placeOf, hc]; omega
            · simp [placeOf, hc, Ne.symm hc]
        rw [this]
        exact List.nodup_iff_count_le_one.1 hl _
    have split : (l.map fun c => (placesOf c (e :: m)).length) =
        l.map fun c => (if placeOf c e.2 then 1 else 0) + (placesOf c m).length := by
      refine List.map_congr_left fun c _ => ?_
      simp only [placesOf, List.filter_cons]
      split
      · rw [List.length_cons]; omega
      · omega
    rw [split, List.sum_map_add, List.length_cons]
    omega

/-- The image a save takes obeys the laws of membership that the tables obey. -/
theorem placed_takeSnapshot {s : State} (hcan : s.canonical) (h : s.placed) : (takeSnapshot s).placed := by
  obtain ⟨howned, hfree, hranks, -, ⟨hlen, hcount⟩, -⟩ := h
  obtain ⟨-, -, hsvc, hcand, -⟩ := hcan
  have read (e : Nat × CandidateConfig) (he : e ∈ (takeSnapshot s).candidates) : e.2 = (s.candidate e.1).cfg := by
    rw [takeSnapshot_candidates] at he
    obtain ⟨v, hv, hw⟩ := Table.mem_remap (k := e.1) (w := e.2) he
    rw [hw, State.candidate, Table.get_of_mem hcand.1 hv]
  have sorted : ((takeSnapshot s).candidates.map Prod.fst).Pairwise (· < ·) :=
    (takeSnapshot_candidates_wf hcand).1
  have nodup : ((takeSnapshot s).candidates.map Prod.fst).Nodup := sorted.imp Nat.ne_of_lt
  refine ⟨fun e he hne => ?owned, fun e he hst => ?free, fun k => ?rank, ?sum⟩
  case owned =>
    rw [read e he] at hne ⊢
    obtain ⟨hx, k, hk, hu⟩ := howned e.1 hne
    refine ⟨hx, k, hk, fun hs => hu ?_⟩
    rw [← hs]
    exact (Table.read_get_remap (d := Service.default) (d' := ServiceSaved.default) (f := fun _ v => ⟨v.cfg, v.pinned⟩) hsvc.1
      (fun v : ServiceSaved => v.cfg.state) (fun v : Service => v.cfg.state)
      (fun _ _ => rfl) (fun _ => rfl) k).symm
  case free =>
    rw [read e he] at hst ⊢
    exact hfree e.1 hst
  case rank =>
    have sub : loadedRank (takeSnapshot s) k ⊆ (s.service k).rank := by
      intro c hc
      obtain ⟨e, he, rfl⟩ := List.mem_map.1 hc
      obtain ⟨hm, hcond⟩ := List.mem_filter.1 he
      rw [read e hm] at hcond
      exact ((hranks k).2.2 e.1).2 (by simpa using hcond)
    have hnd : (loadedRank (takeSnapshot s) k).Nodup := nodup.sublist ((List.filter_sublist).map Prod.fst)
    exact (List.subperm_of_subset hnd sub).length_le.trans (hranks k).2.1
  case sum =>
    have lanes : ((takeSnapshot s).candidates.map fun e => e.2.lanes.length) =
        ((takeSnapshot s).candidates.map Prod.fst).map fun c => (placesOf c s.laneMap).length := by
      rw [List.map_map]
      exact List.map_congr_left fun e he => by rw [read e he]; exact (hcount e.1).symm
    rw [lanes]
    exact (sum_placesOf_le _ nodup _).trans hlen

theorem saveSettings_keeps : (saveSettings s).Keeps s :=
  .unless fun _ =>
    { queue := rfl
      capacity := id
      canonical := fun h => by
        have hcan := h
        obtain ⟨hp, hl, hs, hc, hw, he, hm, hd, hn, hi, -⟩ := h
        refine ⟨hp, hl, hs, hc, hw, he, hm, hd, hn, hi, fun i hi => ?_⟩
        cases hi
        exact canonical_takeSnapshot hcan
      placed := fun hcan h => by
        have hplaced := h
        obtain ⟨ho, hf, hr, hs, hl, hi, -⟩ := h
        refine ⟨ho, hf, hr, hs, hl, hi, fun i hi => ?_⟩
        cases hi
        exact placed_takeSnapshot hcan hplaced
      fault := id
      visit := id
      tap := id
      save := fun _ _ => Store.valid_unwritten _
      store := fun _ => State.storeLaw_unwritten s }

theorem saveEnds_keeps (good : Bool) : Keeps s (saveEnds good s) := by
  unfold saveEnds
  split
  · exact .refl s
  · next image hs =>
    refine .of_ite (fun _ => ?_) fun _ => ?_
    · have written : Keeps s { s with
          save := none, generation := nextGeneration s.generation,
          store := .written { image with generation := nextGeneration s.generation } } :=
        { queue := rfl
          capacity := id
          canonical := fun ⟨hp, hl, hsv, hc, hw, he, hm, hd, hn, _, hi⟩ =>
            ⟨hp, hl, hsv, hc, hw, he, hm, hd, hn, hi image hs, fun _ h => nomatch h⟩
          placed := fun _ ⟨ho, hf, hr, hse, hl, _, hi⟩ => ⟨ho, hf, hr, hse, hl, hi image hs, fun _ h => nomatch h⟩
          fault := id
          visit := id
          tap := id
          save := fun _ h => nomatch h
          store := fun _ _ => rfl }
      exact written.post
    · have failed : Keeps s { s with save := none, store := s.store.unwritten } :=
        { queue := rfl
          capacity := id
          canonical := fun ⟨hp, hl, hsv, hc, hw, he, hm, hd, hn, hi, _⟩ =>
            ⟨hp, hl, hsv, hc, hw, he, hm, hd, hn, hi, fun _ h => nomatch h⟩
          placed := fun _ ⟨ho, hf, hr, hse, hl, hi, _⟩ => ⟨ho, hf, hr, hse, hl, hi, fun _ h => nomatch h⟩
          fault := id
          visit := id
          tap := id
          save := fun _ h => nomatch h
          store := fun _ h => nomatch h }
      exact failed.raise.post

theorem softRestart_keeps : (softRestart s).Keeps s := .unless fun _ => show Keeps s _ from .of_lawMask rfl

theorem hardRestart_keeps : (hardRestart s).Keeps s := show Keeps s _ from .of_lawMask rfl

theorem refuseRecord_keeps (r : CommandRecord) : (refuseRecord r).Keeps s := .of_ite (fun _ => trivial) fun _ => trivial

end Sys2Proof.Machine
end

section
/-! PROOFS. What a start keeps, and with it every command and every step: the invariants O2, O5, O6 and O7, and the laws of
the state after reset. -/

namespace Sys2Proof.Machine

/-! ### An image loaded -/

theorem loadedPorts_wf (i : Image) : Table.wf Port.default (loadedPorts i) := by
  constructor
  · rw [loadedPorts, List.map_map]
    exact (List.map_id (List.range 15)).symm ▸ List.pairwise_lt_range
  · intro e he hd
    obtain ⟨p, -, rfl⟩ := List.mem_map.1 he
    have hstate : (Port.default p).state = .seeking := rfl
    rw [← hd] at hstate
    cases hstate

theorem idleContexts_wf : Table.wf DirContext.default idleContexts := by decide

theorem mem_loadedRank {i : Image} (hw : Table.wf (fun _ => CandidateConfig.free) i.candidates) (k c : Nat) :
    c ∈ loadedRank i k ↔ (Table.get (fun _ => CandidateConfig.free) i.candidates c).state ≠ .free ∧
      (Table.get (fun _ => CandidateConfig.free) i.candidates c).owner = some k := by
  constructor
  · intro hc
    obtain ⟨e, he, rfl⟩ := List.mem_map.1 hc
    obtain ⟨hm, hcond⟩ := List.mem_filter.1 he
    rw [Table.get_of_mem hw.1 hm]
    simpa using hcond
  · rintro ⟨hne, ho⟩
    have listed : (c, Table.get (fun _ => CandidateConfig.free) i.candidates c) ∈ i.candidates :=
      Table.mem_of_get_ne (d := fun _ => CandidateConfig.free) fun h => hne (by rw [h]; rfl)
    exact List.mem_map.2 ⟨_, List.mem_filter.2 ⟨listed, by simp [hne, ho]⟩, rfl⟩

/-- A loaded service is its saved configuration and pin at the start values, ranking the candidates of its number or, where
nothing of it is saved, none. -/
theorem loadedServices_get {i : Image} (hw : Table.wf ServiceSaved.default i.services) (k : Nat) :
    let v := Table.get ServiceSaved.default i.services k
    Table.get Service.default (loadedServices i) k = Service.started v.cfg (loadedRank i k) v.pinned ∨
      v = ServiceSaved.default k ∧ Table.get Service.default (loadedServices i) k = Service.started v.cfg [] v.pinned := by
  intro v
  rcases Table.get_remap_cases ServiceSaved.default Service.default
    (fun k v => Service.started v.cfg (loadedRank i k) v.pinned) hw.1 k with h | ⟨hv, h⟩
  · exact .inl h
  · exact .inr ⟨hv, h.trans (by rw [show v = ServiceSaved.default k from hv]; rfl)⟩

/-- In an image that obeys the laws, every service ranks the candidates whose owner it is. -/
theorem loadedServices_placed {i : Image} (hw : i.canonical) (hp : i.placed) (k : Nat) :
    let v := Table.get ServiceSaved.default i.services k
    Table.get Service.default (loadedServices i) k = Service.started v.cfg (loadedRank i k) v.pinned := by
  intro v
  rcases loadedServices_get hw.2.2.2.1 k with h | ⟨hv, h⟩
  · exact h
  · have empty : loadedRank i k = [] := List.eq_nil_iff_forall_not_mem.2 fun c hc => by
      obtain ⟨hne, ho⟩ := (mem_loadedRank hw.2.2.2.2 k c).1 hc
      obtain ⟨-, j, hj, hu⟩ := hp.1 _ (Table.mem_of_get_ne (d := fun _ => CandidateConfig.free) (k := c)
        fun h => hne (by rw [h]; rfl)) hne
      obtain rfl : k = j := Option.some.inj (ho.symm.trans hj)
      exact hu (by rw [show Table.get ServiceSaved.default i.services k = ServiceSaved.default k from hv]; rfl)
    rw [empty]
    exact h

theorem loadedCandidates_cfg {i : Image} (hw : Table.wf (fun _ => CandidateConfig.free) i.candidates) (t c : Nat) :
    (Table.get Candidate.default (loadedCandidates i t) c).cfg = Table.get (fun _ => CandidateConfig.free) i.candidates c :=
  Table.read_get_remap (d := fun _ => CandidateConfig.free) (d' := Candidate.default) (f := fun _ cfg => Candidate.fresh cfg t)
    hw.1 Candidate.cfg id (fun _ _ => rfl) (fun _ => rfl) c

/-! ### The Lane Map rebuilt (R30) -/

/-- Adding the entries of listed candidates, one after the other. -/
theorem foldl_addCandidateLanes {s : State} (l : Table CandidateConfig)
    (hl : ∀ e ∈ l, (laneEntries e.1 e.2).length = e.2.lanes.length) (h : s.lanesWf) :
    let t := l.foldl (fun t e => addCandidateLanes e.1 e.2 t) s
    t.lanesWf ∧ t.laneMap.length = s.laneMap.length + (l.map fun e => e.2.lanes.length).sum ∧
      ∀ d, (placesOf d t.laneMap).length =
        (placesOf d s.laneMap).length + (l.map fun e => if d = e.1 then e.2.lanes.length else 0).sum := by
  induction l generalizing s with
  | nil => exact ⟨h, rfl, fun _ => rfl⟩
  | cons e l ih =>
    obtain ⟨hw, hlen, hcount⟩ := foldl_addLane (laneEntries e.1 e.2) (laneEntries_candidate _ _) h
    obtain ⟨hw', hlen', hcount'⟩ := ih (fun a ha => hl a (List.mem_cons_of_mem _ ha)) hw
    have he := hl e (List.mem_cons_self ..)
    refine ⟨hw', ?_, fun d => ?_⟩
    · rw [List.foldl_cons, addCandidateLanes, hlen', hlen, he, List.map_cons, List.sum_cons, Nat.add_assoc]
    · rw [List.foldl_cons, addCandidateLanes, hcount', hcount, he, List.map_cons, List.sum_cons, Nat.add_assoc]

/-- The lanes listed under one index are those of the entry read there. -/
theorem sum_lanes_at {l : Table CandidateConfig} (h : (l.map Prod.fst).Pairwise (· < ·)) (d : Nat) :
    (l.map fun e => if d = e.1 then e.2.lanes.length else 0).sum =
      (Table.get (fun _ => CandidateConfig.free) l d).lanes.length := by
  induction l with
  | nil => rfl
  | cons e l ih =>
    obtain ⟨hlt, hs⟩ := List.pairwise_cons.1 h
    rw [List.map_cons, List.sum_cons, ih hs, Table.get_cons]
    by_cases hd : e.1 = d
    · rw [if_pos hd, if_pos hd.symm, Table.get_of_below _ l d fun x hx => hd ▸ hlt x hx]; rfl
    · rw [if_neg hd, if_neg (Ne.symm hd), Nat.zero_add]

theorem rebuildLaneMap_laneMask (i : Image) (s : State) : laneMask (rebuildLaneMap i s) = laneMask s := by
  have all (l : Table CandidateConfig) (t : State) :
      laneMask (l.foldl (fun t e => addCandidateLanes e.1 e.2 t) t) = laneMask t := by
    induction l generalizing t with
    | nil => rfl
    | cons e l ih => exact (ih _).trans (addCandidateLanes_laneMask ..)
  exact all _ _

theorem rebuildLaneMap_lanesWf (i : Image) (s : State) : (rebuildLaneMap i s).lanesWf := by
  have all (l : Table CandidateConfig) (t : State) (ht : t.lanesWf) :
      (l.foldl (fun t e => addCandidateLanes e.1 e.2 t) t).lanesWf := by
    induction l generalizing t with
    | nil => exact ht
    | cons e l ih => exact ih _ (foldl_addLane _ (laneEntries_candidate _ _) ht).1
  exact all _ _ (Table.wf_nil _)

/-! ### A start -/

theorem startImage_canonical {s : State} (h : s.canonical) : (startImage s).canonical := by
  unfold startImage
  split
  · exact h.2.2.2.2.2.2.2.2.2.1
  · exact ⟨Table.wf_nil _, Table.wf_nil _, Table.wf_nil _, Table.wf_nil _, Table.wf_nil _⟩

theorem Image.defaults_placed : Image.defaults.placed :=
  ⟨fun _ h => (nomatch h), fun _ h => (nomatch h), fun _ => Nat.zero_le _, Nat.zero_le _⟩

theorem startImage_placed {s : State} (h : s.placed) : (startImage s).placed := by
  unfold startImage
  split
  · exact h.2.2.2.2.2.1
  · exact Image.defaults_placed

section
variable {s : State} (kind : RestartKind) {i : Image}

theorem canonical_loadImage (hs : s.canonical) (hi : i.canonical) : (loadImage kind i s).canonical := by
  obtain ⟨-, hwt, hsw, hsv, hcd⟩ := hi
  exact ⟨loadedPorts_wf i, Table.wf_nil _,
    Table.wf_remap Service.default (fun k (v : ServiceSaved) => Service.started v.cfg (loadedRank i k) v.pinned) i.services hsv.1,
    Table.wf_remap Candidate.default (fun _ cfg => Candidate.fresh cfg s.now) i.candidates hcd.1, hwt,
    Table.wf_remap SweepEntry.default (fun _ v => SweepEntry.started v) i.sweep hsw.1, Table.wf_nil _, idleContexts_wf,
    Table.wf_nil _, hs.2.2.2.2.2.2.2.2.2.1, fun _ h => nomatch h⟩

theorem withinCapacity_loadImage (h : s.withinCapacity) : (loadImage kind i s).withinCapacity := by
  obtain ⟨-, -, hd, -, -, -, -, -, hl, ho, -, hcmd, -, -, -, htimes⟩ := h
  have ports : ∀ e ∈ loadedPorts i, e.2.withinTop := by
    intro e he
    obtain ⟨p, -, rfl⟩ := List.mem_map.1 he
    simp [Port.started, PortCounters.zero, MarginReadings.cleared, Port.withinTop]
  have services : ∀ e ∈ loadedServices i, e.2.withinTop :=
    Table.forall_remap fun e _ => ⟨Nat.zero_le _, Nat.zero_le _, Nat.zero_le _, Nat.zero_le _, Nat.zero_le _⟩
  have candidates : ∀ e ∈ loadedCandidates i s.now, e.2.withinTop := Table.forall_remap fun e _ =>
    ⟨Nat.zero_le _, Nat.zero_le _, Nat.zero_le _, Nat.zero_le _, Nat.zero_le _, Nat.zero_le _⟩
  have kept {n m : Nat} (hn : n ≤ m) : (if kind = .soft then n else 0) ≤ m := by
    split
    · exact hn
    · exact Nat.zero_le _
  refine ⟨Nat.zero_le _, Nat.zero_le _, ?_, Nat.zero_le _, Nat.zero_le _, Nat.zero_le _, Nat.zero_le _, Nat.zero_le _,
    kept hl, kept ho, Nat.zero_le _, kept hcmd, ports, services, candidates, ?_⟩
  · show (if kind = .soft then s.discoveries else []).length ≤ 128
    split
    · exact hd
    · exact Nat.zero_le _
  · show ∀ d ∈ (if kind = .soft then s.discoveries else []), d.times ≤ 255
    split
    · exact htimes
    · exact fun _ hm => nomatch hm

/-- The tables of a start obey the laws of membership when its image does. -/
theorem placed_rebuilt (hs : s.placed) (hi : i.canonical) (hp : i.placed) :
    (rebuildLaneMap i (loadImage kind i s)).placed := by
  have hm := rebuildLaneMap_laneMask i (loadImage kind i s)
  have service (k : Nat) : (rebuildLaneMap i (loadImage kind i s)).service k =
      Service.started (Table.get ServiceSaved.default i.services k).cfg (loadedRank i k)
        (Table.get ServiceSaved.default i.services k).pinned := by
    rw [State.service, show (rebuildLaneMap i (loadImage kind i s)).services = loadedServices i from
      (congrArg State.services hm :)]
    exact loadedServices_placed hi hp k
  have cfg (c : Nat) : ((rebuildLaneMap i (loadImage kind i s)).candidate c).cfg =
      Table.get (fun _ => CandidateConfig.free) i.candidates c := by
    rw [State.candidate, show (rebuildLaneMap i (loadImage kind i s)).candidates = loadedCandidates i s.now from
      (congrArg State.candidates hm :)]
    exact loadedCandidates_cfg hi.2.2.2.2 _ c
  have listed (c : Nat) (h : (Table.get (fun _ => CandidateConfig.free) i.candidates c).state ≠ .free) :
      (c, Table.get (fun _ => CandidateConfig.free) i.candidates c) ∈ i.candidates :=
    Table.mem_of_get_ne (d := fun _ => CandidateConfig.free) fun h' => h (by rw [h']; rfl)
  refine ⟨fun c hne => ?owned, fun c he => ?free, fun k => ?ranks, (selectionLaw_iff _).2 fun k c hn => ?sel, ?lanes, ?store,
    fun j hsave => ?save⟩
  case owned =>
    rw [cfg] at hne ⊢
    simp only [service]
    exact hp.1 _ (listed c hne) hne
  case free =>
    rw [cfg] at he ⊢
    by_contra hl
    have hm : (c, Table.get (fun _ => CandidateConfig.free) i.candidates c) ∈ i.candidates :=
      Table.mem_of_get_ne (d := fun _ => CandidateConfig.free) fun h' => hl (by rw [h']; rfl)
    exact hl (hp.2.1 _ hm he)
  case ranks =>
    rw [service]
    refine ⟨?_, hp.2.2.1 k, fun c => ?_⟩
    · have sorted : (loadedRank i k).Pairwise (· < ·) := hi.2.2.2.2.1.sublist ((List.filter_sublist).map Prod.fst)
      exact sorted.imp Nat.ne_of_lt
    · rw [cfg]; exact mem_loadedRank hi.2.2.2.2 k c
  case sel =>
    rw [service] at hn ⊢
    rcases hn with hn | hn | ⟨_, ha, -⟩
    · exact hn
    · cases hn
    · cases ha
  case lanes =>
    have entries : ∀ e ∈ i.candidates, (laneEntries e.1 e.2).length = e.2.lanes.length := fun e he => by
      by_cases hst : e.2.state = .free
      · have := hp.2.1 e he hst
        unfold laneEntries
        split <;> simp [this]
      · exact length_laneEntries _ (hp.1 e he hst).1
    obtain ⟨-, hlen, hcount⟩ := foldl_addCandidateLanes (s := { loadImage kind i s with laneMap := [] }) i.candidates entries
      (Table.wf_nil _)
    refine ⟨hlen.trans_le ?_, fun c => (hcount c).trans ?_⟩
    · show 0 + _ ≤ _
      rw [Nat.zero_add]; exact hp.2.2.2
    · rw [sum_lanes_at hi.2.2.2.2.1, cfg]; exact Nat.zero_add _
  case store =>
    rw [show (rebuildLaneMap i (loadImage kind i s)).store = s.store from (congrArg State.store hm :)]
    exact hs.2.2.2.2.2.1
  case save =>
    rw [show (rebuildLaneMap i (loadImage kind i s)).save = none from (congrArg State.save hm :)] at hsave
    cases hsave

end

theorem takeStart_keeps (s : State) (kind : RestartKind) : Keeps s (takeStart kind s) := by
  have hm := rebuildLaneMap_laneMask (startImage s) (loadImage kind (startImage s) s)
  have fault : (rebuildLaneMap (startImage s) (loadImage kind (startImage s) s)).faultRecord =
      if kind = .soft then s.faultRecord else ⟨false, false, none⟩ := (congrArg State.faultRecord hm :)
  have summary : (rebuildLaneMap (startImage s) (loadImage kind (startImage s) s)).faultSummary =
      if kind = .soft then s.faultSummary else 0 := (congrArg State.faultSummary hm :)
  have tap : (rebuildLaneMap (startImage s) (loadImage kind (startImage s) s)).tap = Tap.started := (congrArg State.tap hm :)
  have visit : (rebuildLaneMap (startImage s) (loadImage kind (startImage s) s)).visitQueue = [] :=
    (congrArg State.visitQueue hm :)
  have save : (rebuildLaneMap (startImage s) (loadImage kind (startImage s) s)).save = none := (congrArg State.save hm :)
  have store : (rebuildLaneMap (startImage s) (loadImage kind (startImage s) s)).store = s.store := (congrArg State.store hm :)
  have loaded : Keeps s (rebuildLaneMap (startImage s) (loadImage kind (startImage s) s)) :=
    { queue := (congrArg State.pending hm :)
      capacity := fun h => withinCapacity_of_laneMask hm (withinCapacity_loadImage kind h)
      canonical := fun h => canonical_of_laneMask hm (rebuildLaneMap_lanesWf ..)
        (canonical_loadImage kind h (startImage_canonical h))
      placed := fun hc h => placed_rebuilt kind h (startImage_canonical hc) (startImage_placed h)
      fault := fun h => by
        simp only [State.faultLaw, fault, summary] at h ⊢
        cases kind
        · rfl
        · exact h
      visit := fun _ => by rw [State.visitLaw, visit]; exact List.nodup_nil
      tap := fun _ => by rw [State.tapLaw, tap]; decide
      save := fun _ h => by rw [save] at h; cases h
      store := fun h => by rw [State.storeLaw, store]; exact h }
  exact loaded.trans (.of_ite (fun _ => .refl _) fun _ => recordFault_keeps ..)

/-! ### The completion of a start, and the loss of power -/

theorem keeps_contexts {s : State} {l : Table DirContext} (h : Table.wf DirContext.default l) :
    Keeps s { s with contexts := l } :=
  .of_recordFields rfl id
    (fun ⟨hp, hl, hs, hc, hw, he, hm, _, hrest⟩ => ⟨hp, hl, hs, hc, hw, he, hm, h, hrest⟩) fun _ => id

theorem openContexts_wf (p : Nat → Bool) :
    Table.wf DirContext.default (((List.range 12).filter p).map fun p => (p, DirContext.empty none)) := by
  constructor
  · rw [List.map_map]
    exact (List.map_id ((List.range 12).filter p)).symm ▸ (List.pairwise_lt_range.sublist List.filter_sublist)
  · intro e he hd
    obtain ⟨q, hq, rfl⟩ := List.mem_map.1 he
    have hlt : q < 12 := List.mem_range.1 (List.mem_of_mem_filter hq)
    simp [DirContext.default, DirContext.empty, hlt] at hd

theorem completeStart_keeps (s : State) : Keeps s (completeStart s) := by
  have runs : Keeps s { s with phase := .running } := .of_lawMask rfl
  have measuring (u : State) : Keeps u (beginMeasuring u) := by
    have opened : Keeps u { u with
        candidates := Table.remap Candidate.default
          (fun _ x => if x.cfg.state = .free then x else { x with measured := .opened u.now }) u.candidates } :=
      keeps_remapCandidates (f := fun x => if x.cfg.state = .free then x else { x with measured := .opened u.now })
        (fun x => by
          split
          · exact .refl x
          · exact x.keptBy_opened x.grade _) fun _ => rfl
    exact opened.trans (.of_lawMask rfl)
  have ports (u : State) : Keeps u (openPorts u) :=
    keeps_remapPorts (f := fun _ v => { v with state := if v.cfg.enable then .seeking else .disabled }) fun _ _ h => h
  have contexts (u : State) : Keeps u (openContexts u) := keeps_contexts (openContexts_wf _)
  exact (((runs.trans (measuring _)).trans ((ports _).trans (contexts _))).trans (tryBoth_keeps _)).trans
    (.foldl (fun u k => takeUpPinned_keeps u k) ..)

/-- A state without services, candidates and lanes obeys the laws of membership when its image does. -/
theorem placed_of_empty {s : State} (hs : s.services = []) (hc : s.candidates = []) (hl : s.laneMap = [])
    (hi : s.store.image.placed) (hv : s.save = none) : s.placed := by
  have service (k : Nat) : s.service k = Service.default k := by rw [State.service, hs]; rfl
  have candidate (c : Nat) : s.candidate c = Candidate.default c := by rw [State.candidate, hc]; rfl
  refine ⟨fun c h => ?_, fun c _ => ?_, fun k => ?_, (selectionLaw_iff s).2 fun k c hn => ?_, ⟨?_, fun c => ?_⟩, hi,
    fun i h => ?_⟩
  · rw [candidate] at h; exact absurd rfl h
  · rw [candidate]; rfl
  · rw [service]
    refine ⟨List.nodup_nil, Nat.zero_le _, fun c => ?_⟩
    rw [candidate]
    exact ⟨fun h => (nomatch h), fun h => absurd rfl h.1⟩
  · rw [service] at hn ⊢
    rcases hn with hn | hn | ⟨_, hn, -⟩
    · exact hn
    · cases hn
    · cases hn
  · rw [hl]; exact Nat.zero_le _
  · rw [hl, candidate]; rfl
  · rw [hv] at h; cases h

theorem reset_withinCapacity : State.reset.withinCapacity := by
  refine ⟨by decide, by decide, by decide, by decide, by decide, by decide, by decide, by decide, by decide, by decide,
    by decide, by decide, fun _ h => (nomatch h), fun _ h => (nomatch h), fun _ h => (nomatch h), fun _ h => nomatch h⟩

theorem withoutPower_keeps (s : State) : Keeps s (withoutPower s) where
  queue := rfl
  capacity _ := reset_withinCapacity.imp id fun ⟨hq, hd, hf, hi, ht, hm, _, hrest⟩ => ⟨hq, hd, hf, hi, ht, hm, Nat.zero_le _, hrest⟩
  canonical h := ⟨Table.wf_nil _, Table.wf_nil _, Table.wf_nil _, Table.wf_nil _, Table.wf_nil _, Table.wf_nil _,
    Table.wf_nil _, Table.wf_nil _, Table.wf_nil _, h.2.2.2.2.2.2.2.2.2.1, fun _ h => nomatch h⟩
  placed _ h := placed_of_empty rfl rfl rfl h.2.2.2.2.2.1 rfl
  fault _ := rfl
  visit _ := List.nodup_nil
  tap _ := by show State.reset.tapLaw; exact ⟨fun h => (nomatch h), by decide, by decide⟩
  save _ h := nomatch h
  store := id

theorem runningSlot_keeps (s : State) : Keeps s (runningSlot s) :=
  .of_ite (fun _ => (sendChoice_keeps s).trans (takeStart_keeps ..)) fun _ => sendChoice_keeps s

theorem outputSlot_keeps (s : State) : Keeps s (outputSlot s) := by
  unfold outputSlot
  split
  · exact runningSlot_keeps s
  · exact .of_lawMask rfl
  · exact .refl s

end Sys2Proof.Machine
end

section
/-! PROOFS. The invariants: every command, and so every step, keeps the queue and the laws of Safety.lean (O2, O5, O6, O7);
the state after reset obeys them (O4). -/

namespace Sys2Proof.Machine

/-- An answer that keeps the laws: a state that does, or a stop by a fault; no refusal. -/
def AnswerKeeps (s : State) : Answer → Prop
  | .next t => Keeps s t
  | .fault _ => True
  | .refused _ => False

variable {s : State} {a : Answer}

theorem AnswerKeeps.of_ite {c : Prop} [Decidable c] {f : Fault} (h : AnswerKeeps s a) :
    AnswerKeeps s (if c then a else .fault f) := by
  split
  · exact h
  · trivial

theorem whenRunning_keeps {f : State → State} (h : Keeps s (f s)) : AnswerKeeps s (whenRunning s f) :=
  show Keeps s _ from .of_ite (fun _ => h) fun _ => .refl s

theorem onPort_keeps {p : Nat} (h : AnswerKeeps s a) : AnswerKeeps s (onPort p a) := .of_ite h
theorem onSweepPort_keeps {p : Nat} (h : AnswerKeeps s a) : AnswerKeeps s (onSweepPort p a) := .of_ite h
theorem onService_keeps {k : Nat} (h : AnswerKeeps s a) : AnswerKeeps s (onService k a) := .of_ite h
theorem onCandidate_keeps {c : Nat} (h : AnswerKeeps s a) : AnswerKeeps s (onCandidate c a) := .of_ite h
theorem onEntry_keeps {e : Nat} (h : AnswerKeeps s a) : AnswerKeeps s (onEntry e a) := .of_ite h
theorem onSlot_keeps {k : Nat} (h : AnswerKeeps s a) : AnswerKeeps s (onSlot k a) := .of_ite h
theorem onPacket_keeps {p : Packet} (h : AnswerKeeps s a) : AnswerKeeps s (onPacket p a) := .of_ite h

/-- An arrival is taken, and what it brings about keeps the laws. -/
theorem taken_keeps {i : Instr} {f : State → State} (h : ∀ t, Keeps t (f t)) : Keeps s (f (s.take i)) :=
  (keeps_take i).trans (h _)

/-- An event that carries its time. -/
theorem timed_keeps {t : Nat} {f : State → State} (h : ∀ u, Keeps u (f u)) : Keeps s (f (s.atTime t)) :=
  (keeps_atTime t).trans (h _)

theorem managed_keeps {r : CommandRecord} {v : State → Verdict} (h : ∀ t, (v t).Keeps t) :
    AnswerKeeps s (whenRunning s (manage r v)) := whenRunning_keeps (manage_keeps s r h)

theorem commanded_keeps {r : CommandRecord} {c : Cmd} {n m : Nat} {v : State → Verdict} (h : ∀ t, (v t).Keeps t) :
    AnswerKeeps s (whenRunning s (manage r (command n m c v))) := managed_keeps fun t => command_keeps t c h

/-- Every command keeps the laws. -/
theorem exec_answerKeeps (i : Instr) (s : State) : AnswerKeeps s (exec i s) := by
  cases i with
  | powerOn => exact takeStart_keeps ..
  | resetLine => exact show Keeps s _ from .of_ite (fun _ => .refl s) fun _ => takeStart_keeps ..
  | restartTakesEffect _ =>
    exact whenRunning_keeps (by exact .of_ite (fun _ => timed_keeps runningSlot_keeps) fun _ => .refl s)
  | syncSearchOctet p o _ => exact onPort_keeps (whenRunning_keeps (by exact timed_keeps fun u => searchOctet_keeps u p o))
  | confirmBoundaryOctet p o _ => exact onPort_keeps (whenRunning_keeps (by exact timed_keeps fun u => confirmOctet_keeps u p o))
  | lockedBoundaryOctet p o _ => exact onPort_keeps (whenRunning_keeps (by exact timed_keeps fun u => lockedOctet_keeps u p o))
  | starvationTimerExpiry p => exact onPort_keeps (whenRunning_keeps (by exact starve_keeps s p))
  | holdoverTimerExpiry p => exact onPort_keeps (whenRunning_keeps (by exact holdoverExpires_keeps s p))
  | packetAccepted p packet _ =>
    exact onPort_keeps (onPacket_keeps (whenRunning_keeps (by exact timed_keeps fun u => acceptPacket_keeps u p packet)))
  | retuneRequest p => exact onSweepPort_keeps (whenRunning_keeps (by exact taken_keeps fun u => retunePort_keeps u p))
  | classifyPacket p source time packet =>
    exact onPort_keeps (onPacket_keeps (whenRunning_keeps (by exact taken_keeps fun u => routePacket_keeps u p source time packet)))
  | classifierLeftLocked p =>
    refine onPort_keeps (whenRunning_keeps ?_)
    dsimp only
    split
    · exact taken_keeps fun u => forgetSequence_keeps u _
    · exact keeps_take _
  | directoryLeftLocked p => exact onPort_keeps (whenRunning_keeps (by exact taken_keeps fun u => directoryLeftLocked_keeps u p))
  | measurementArrival m => exact onCandidate_keeps (onSlot_keeps (whenRunning_keeps (by exact taken_keeps fun u => measure_keeps u m)))
  | forwardAdmission k slot b packet =>
    exact onService_keeps (onSlot_keeps (onPacket_keeps (whenRunning_keeps
      (by exact taken_keeps fun u => admitForward_keeps u k slot b packet))))
  | tapOffer p packet => exact onPort_keeps (onPacket_keeps (whenRunning_keeps (by exact taken_keeps fun u => offerTap_keeps u p packet)))
  | outputSlot _ => exact show Keeps s _ from timed_keeps outputSlot_keeps
  | replyPlacement => exact whenRunning_keeps (by exact placeReply_keeps s)
  | reportPlacement => exact whenRunning_keeps (by exact placeReport_keeps s)
  | noticePost n stamp =>
    exact whenRunning_keeps (f := fun u => takeNotice ⟨n, stamp⟩ (u.take (.noticePost n stamp))) (by exact taken_keeps fun u => takeNotice_keeps u ⟨n, stamp⟩)
  | faultRecord f =>
    exact whenRunning_keeps (f := fun u => recordFault f (u.take (.faultRecord f))) (by exact taken_keeps fun u => recordFault_keeps u f)
  | gradingTimerExpiry => exact whenRunning_keeps (by exact gradingExpires_keeps s)
  | serviceGraded k _ => exact onService_keeps (whenRunning_keeps (by exact taken_keeps fun u => rankService_keeps u k))
  | surveyGraded k _ => exact onService_keeps (onEntry_keeps (whenRunning_keeps
      (by exact (keeps_take _).trans (.of_ite (fun _ => advisoryCheck_keeps _ k) fun _ => .refl _))))
  | targetGraded k => exact onService_keeps (whenRunning_keeps (by exact taken_keeps fun u => targetGraded_keeps u k))
  | rankingOutageArrival p =>
    exact onPort_keeps (whenRunning_keeps (by exact taken_keeps fun u => .foldl outageOfService_keeps (selectedOnPort s p) u))
  | switchOutageArrival p => exact onPort_keeps (whenRunning_keeps
      (by exact taken_keeps fun u => .foldl (fun t k => cancelSwitch_keeps t k) (armedOnPort s p) u))
  | sweepOutageArrival p => exact onSweepPort_keeps (whenRunning_keeps (by exact taken_keeps fun u => sweepOutage_keeps u p))
  | rankingRestorationArrival _ => exact onPort_keeps (whenRunning_keeps (by exact keeps_take _))
  | switchRestorationArrival _ => exact onPort_keeps (whenRunning_keeps (by exact keeps_take _))
  | darkArrival k => exact onService_keeps (whenRunning_keeps (by exact taken_keeps fun u => goDark_keeps u k))
  | directoryQuarantineRequest c => exact onCandidate_keeps (whenRunning_keeps
      (by exact taken_keeps fun u => quarantineCandidate_keeps u c .directory s.settings.quarantineDuration))
  | switchRequest k target cause => exact onService_keeps (onCandidate_keeps (whenRunning_keeps
      (by exact taken_keeps fun u => switchRequest_keeps u k target cause)))
  | pinnedWithoutSelection k => exact onService_keeps (whenRunning_keeps (by exact taken_keeps fun u => takeUpPinned_keeps u k))
  | waitTimerExpiry k => exact onService_keeps (whenRunning_keeps (by exact waitExpires_keeps s k))
  | leftArmedArrival k => exact onService_keeps (whenRunning_keeps (by exact taken_keeps fun u => examineHead_keeps u k))
  | applyChange => exact whenRunning_keeps (by exact takeHead_keeps s)
  | controlPacket p => exact onPacket_keeps (whenRunning_keeps (by exact taken_keeps fun u => takeControlPacket_keeps u p))
  | identify _ => exact commanded_keeps identify_keeps
  | readEntry c => exact managed_keeps fun u => readEntry_keeps u c
  | writeEntry c => exact managed_keeps fun u => writeCommand_keeps u false c
  | loadRun c => exact managed_keeps fun u => writeCommand_keeps u true c
  | settingsWrite run c => exact whenRunning_keeps (by exact tableWrite_keeps s .settings run c)
  | portWrite run c => exact whenRunning_keeps (by exact tableWrite_keeps s .port run c)
  | weightWrite run c => exact whenRunning_keeps (by exact tableWrite_keeps s .weight run c)
  | sweepWrite run c => exact whenRunning_keeps (by exact tableWrite_keeps s .sweep run c)
  | serviceWrite run c => exact whenRunning_keeps (by exact tableWrite_keeps s .service run c)
  | candidateWrite run c => exact whenRunning_keeps (by exact tableWrite_keeps s .candidate run c)
  | countersWrite run c => exact whenRunning_keeps (by exact tableWrite_keeps s .counters run c)
  | probeAccess c => exact commanded_keeps fun u => probeAccess_keeps u c.body
  | closeInterval _ => exact commanded_keeps closeInterval_keeps
  | pin c => exact commanded_keeps fun u => pinCommand_keeps u c.body
  | releasePin c => exact commanded_keeps fun u => releaseCommand_keeps u c.body
  | quarantine c => exact commanded_keeps fun u => quarantineCommand_keeps u c.body
  | liftQuarantine c => exact commanded_keeps fun u => liftCommand_keeps u c.body
  | sweepHold c => exact commanded_keeps fun u => holdCommand_keeps u c.body
  | sweepResume c => exact commanded_keeps fun u => resumeCommand_keeps u c.body
  | visitNow c => exact commanded_keeps fun u => visitNowCommand_keeps u c.body
  | takeDiscoveries _ => exact commanded_keeps takeDiscoveries_keeps
  | clearDiscoveries _ => exact commanded_keeps clearDiscoveries_keeps
  | readFaults _ => exact commanded_keeps readFaults_keeps
  | clearFaults _ => exact commanded_keeps fun u => clearFaults_keeps u _
  | startTap c => exact commanded_keeps fun u => startTap_keeps u c.body
  | extendTap c => exact commanded_keeps fun u => extendTap_keeps u c.body
  | stopTap _ => exact commanded_keeps stopTap_keeps
  | saveSettings _ => exact commanded_keeps saveSettings_keeps
  | saveWriteDone good t =>
    exact whenRunning_keeps (f := fun u => saveEnds good (u.atTime t)) (timed_keeps fun u => saveEnds_keeps (s := u) good)
  | softRestart _ => exact commanded_keeps softRestart_keeps
  | hardRestart _ => exact commanded_keeps hardRestart_keeps
  | tunerAttemptDone p b _ => exact onSweepPort_keeps (whenRunning_keeps (by exact timed_keeps fun u => attemptDone_keeps u p b))
  | attemptLimitExpiry p => exact onSweepPort_keeps (whenRunning_keeps (by exact attemptLimit_keeps s p))
  | retryGapExpiry p => exact onSweepPort_keeps (whenRunning_keeps (by exact gapExpires_keeps s p))
  | sweepMarginArrival p lock => exact onSweepPort_keeps (whenRunning_keeps (by exact taken_keeps fun u => marginArrives_keeps u p lock))
  | settleTimerExpiry p => exact onSweepPort_keeps (whenRunning_keeps (by exact settleExpires_keeps s p))
  | dwellTimerExpiry p => exact onSweepPort_keeps (whenRunning_keeps (by exact dwellExpires_keeps s p))
  | surveyGrading d =>
    exact onSweepPort_keeps (onEntry_keeps (whenRunning_keeps (by exact taken_keeps fun u => surveyGrading_keeps u d)))
  | surveyGradingComplete p => exact onSweepPort_keeps (whenRunning_keeps (by exact taken_keeps fun u => gradingComplete_keeps u p))
  | directoryPacket p source packet =>
    exact onPort_keeps (onPacket_keeps (whenRunning_keeps (by exact taken_keeps fun u => directoryPacket_keeps u p source packet)))
  | lossOfPower => exact withoutPower_keeps s
  | startCompletion => exact show Keeps s _ from .of_ite (fun _ => completeStart_keeps s) fun _ => .refl s
  | commissionLineChange _ _ => exact show Keeps s _ from .of_lawMask rfl
  | unknownCommand r =>
    exact whenRunning_keeps (f := fun u => if r.checkGood && knownCode r.code then u else manage r (fun _ => refuseRecord r) u)
      (.of_ite (fun _ => .refl s) fun _ => manage_keeps s r fun u => refuseRecord_keeps u r)

theorem exec_keeps {i : Instr} {s t : State} (h : exec i s = .next t) : Keeps s t := by
  have := exec_answerKeeps i s
  rwa [h] at this

/-- A step keeps every law; the queue it takes its command from is no law's field. -/
theorem step_keeps {s t : State} (h : step s = .next t) : ∃ u, u = { s with pending := u.pending } ∧ Keeps u t := by
  unfold step at h
  split at h
  · unfold ownStep at h
    split at h
    · exact ⟨s, rfl, exec_keeps h⟩
    · cases h; exact ⟨s, rfl, .of_lawMask rfl⟩
  · exact ⟨_, rfl, exec_keeps h⟩

/-- Settles O2: the queue is a field of `Keeps`. -/
theorem execKeepsQueue : Obligations.ExecKeepsQueue := fun _ _ _ h => (exec_keeps h).queue

/-- Settles O5: the capacities, and the laws of membership under the canonical form, are fields of `Keeps`. -/
theorem capacityKept : Obligations.CapacityKept := by
  refine ⟨fun s t hs h => ?capacity, fun s t hc hs h => ?placed⟩
  case capacity =>
    obtain ⟨u, hu, hk⟩ := step_keeps h
    exact hk.capacity (by rw [hu]; exact hs)
  case placed =>
    obtain ⟨u, hu, hk⟩ := step_keeps h
    exact hk.placed (by rw [hu]; exact hc) (by rw [hu]; exact hs)

/-- Settles O6: the canonical form is a field of `Keeps`. -/
theorem canonicalKept : Obligations.CanonicalKept := by
  intro s t hs h
  obtain ⟨u, hu, hk⟩ := step_keeps h
  exact hk.canonical (by rw [hu]; exact hs)

/-- Settles O7: the five laws are fields of `Keeps`. -/
theorem recordLawsKept : Obligations.RecordLawsKept := by
  intro s t h
  obtain ⟨u, hu, hk⟩ := step_keeps h
  refine ⟨fun hs => hk.fault ?_, fun hs => hk.visit ?_, fun hs => hk.tap ?_, fun hs => hk.save ?_, fun hs => hk.store ?_⟩ <;>
    (rw [hu]; exact hs)

/-- Settles O4: the tables are empty, the queues hold one notice, and the Fault Record is locked with STORE INVALID. -/
theorem resetObeysLaws : Obligations.ResetObeysLaws := by
  refine ⟨reset_withinCapacity, ?canonical, ?placed, ?fault, List.nodup_nil, ?tap, fun h => (nomatch h), fun h => nomatch h⟩
  case canonical =>
    exact ⟨Table.wf_nil _, Table.wf_nil _, Table.wf_nil _, Table.wf_nil _, Table.wf_nil _, Table.wf_nil _, Table.wf_nil _,
      Table.wf_nil _, Table.wf_nil _,
      ⟨Table.wf_nil _, Table.wf_nil _, Table.wf_nil _, Table.wf_nil _, Table.wf_nil _⟩, fun _ h => nomatch h⟩
  case placed => exact placed_of_empty rfl rfl rfl Image.defaults_placed rfl
  case fault => exact ⟨_, rfl, by decide⟩
  case tap => exact ⟨fun h => (nomatch h), by decide, by decide⟩

/-- Settles O1: a step matches on the queue. -/
theorem stepRunsFrontCommand : Obligations.StepRunsFrontCommand := fun _ _ _ => rfl

end Sys2Proof.Machine
end

section
/-! PROOFS. What a row asks before it runs: the unit it names, the packet it carries, the part running (O3, O8). -/

namespace Sys2Proof.Machine

variable {s : State}

theorem onPort_of_ge {p : Nat} (h : 15 ≤ p) (a : Answer) : onPort p a = .fault .noSuchPort := if_neg (by omega)
theorem onSweepPort_of_ne {p : Nat} (h : ¬(p = 12 ∨ p = 13)) (a : Answer) : onSweepPort p a = .fault .noSuchSweepPort :=
  if_neg h
theorem onService_of_ge {k : Nat} (h : 512 ≤ k) (a : Answer) : onService k a = .fault .noSuchService := if_neg (by omega)
theorem onCandidate_of_ge {c : Nat} (h : 2048 ≤ c) (a : Answer) : onCandidate c a = .fault .noSuchCandidate :=
  if_neg (by omega)
theorem onEntry_of_ge {e : Nat} (h : 64 ≤ e) (a : Answer) : onEntry e a = .fault .noSuchSweepEntry := if_neg (by omega)
theorem onSlot_of_ge {k : Nat} (h : 8 ≤ k) (a : Answer) : onSlot k a = .fault .noSuchSlot := if_neg (by omega)
theorem onPacket_of_ne {p : Packet} (h : p.length ≠ 188) (a : Answer) : onPacket p a = .fault .notAPacket := if_neg h

/-- A row whose conditions on its operands are met: it leads to one state when the part runs, and changes nothing when
the part does not. -/
def Opens (s : State) (a : Answer) : Prop := ∃ t, a = .next (if s.phase = .running then t else s)

theorem Opens.whenRunning (f : State → State) : Opens s (whenRunning s f) := ⟨f s, rfl⟩

variable {a : Answer}

theorem Opens.onPort {p : Nat} (hp : isPort p = true) (h : Opens s a) : Opens s (onPort p a) := by
  rwa [onPort_of_lt (of_decide_eq_true hp)]
theorem Opens.onSweepPort {p : Nat} (hp : isSweep p = true) (h : Opens s a) : Opens s (onSweepPort p a) := by
  rwa [onSweepPort_of (of_decide_eq_true hp)]
theorem Opens.onService {k : Nat} (hk : isService k = true) (h : Opens s a) : Opens s (onService k a) := by
  rwa [onService_of_lt (of_decide_eq_true hk)]
theorem Opens.onCandidate {c : Nat} (hc : isCandidate c = true) (h : Opens s a) : Opens s (onCandidate c a) := by
  rwa [onCandidate_of_lt (of_decide_eq_true hc)]
theorem Opens.onEntry {e : Nat} (he : isEntry e = true) (h : Opens s a) : Opens s (onEntry e a) := by
  rwa [onEntry_of_lt (of_decide_eq_true he)]
theorem Opens.onSlot {k : Nat} (hk : isSlot k = true) (h : Opens s a) : Opens s (onSlot k a) := by
  rwa [onSlot_of_lt (of_decide_eq_true hk)]
theorem Opens.onPacket {p : Packet} (hp : isPacket p = true) (h : Opens s a) : Opens s (onPacket p a) := by
  rwa [onPacket_of_length (of_decide_eq_true hp)]

/-- A well-formed row of the running part meets the conditions on its operands. -/
theorem exec_opens (i : Instr) (s : State) (hw : i.wf = true) (ha : actsWhenStopped i = false) : Opens s (exec i s) := by
  cases i with
  | powerOn | resetLine | startCompletion | lossOfPower | commissionLineChange | outputSlot => exact nomatch ha
  | syncSearchOctet | confirmBoundaryOctet | lockedBoundaryOctet | starvationTimerExpiry | holdoverTimerExpiry
  | classifierLeftLocked | directoryLeftLocked | rankingOutageArrival | switchOutageArrival | rankingRestorationArrival
  | switchRestorationArrival => exact .onPort hw (.whenRunning _)
  | packetAccepted | tapOffer =>
    obtain ⟨hp, hl⟩ := Bool.and_eq_true_iff.1 hw
    exact .onPort hp (.onPacket hl (.whenRunning _))
  | classifyPacket | directoryPacket =>
    obtain ⟨hp, hl⟩ := Bool.and_eq_true_iff.1 hw
    exact .onPort (Bool.and_eq_true_iff.1 hp).1 (.onPacket hl (.whenRunning _))
  | retuneRequest | attemptLimitExpiry | retryGapExpiry | settleTimerExpiry | dwellTimerExpiry | surveyGradingComplete
  | sweepOutageArrival | tunerAttemptDone => exact .onSweepPort hw (.whenRunning _)
  | sweepMarginArrival => exact .onSweepPort (Bool.and_eq_true_iff.1 hw).1 (.whenRunning _)
  | measurementArrival =>
    obtain ⟨hc, _⟩ := Bool.and_eq_true_iff.1 hw
    exact .onCandidate (Bool.and_eq_true_iff.1 hc).1 (.onSlot (Bool.and_eq_true_iff.1 hc).2 (.whenRunning _))
  | forwardAdmission =>
    obtain ⟨hk, hl⟩ := Bool.and_eq_true_iff.1 hw
    exact .onService (Bool.and_eq_true_iff.1 hk).1 (.onSlot (Bool.and_eq_true_iff.1 hk).2 (.onPacket hl (.whenRunning _)))
  | serviceGraded | targetGraded | darkArrival | pinnedWithoutSelection | waitTimerExpiry | leftArmedArrival =>
    exact .onService hw (.whenRunning _)
  | surveyGraded =>
    obtain ⟨hk, he⟩ := Bool.and_eq_true_iff.1 hw
    exact .onService hk (.onEntry he (.whenRunning _))
  | switchRequest =>
    obtain ⟨hk, hc⟩ := Bool.and_eq_true_iff.1 hw
    exact .onService hk (.onCandidate hc (.whenRunning _))
  | directoryQuarantineRequest => exact .onCandidate hw (.whenRunning _)
  | surveyGrading =>
    obtain ⟨hp, he⟩ := Bool.and_eq_true_iff.1 hw
    exact .onSweepPort hp (.onEntry he (.whenRunning _))
  | controlPacket => exact .onPacket hw (.whenRunning _)
  | restartTakesEffect | noticePost | faultRecord | gradingTimerExpiry | replyPlacement | reportPlacement | applyChange
  | identify | readEntry | writeEntry | loadRun | probeAccess | closeInterval | pin | releasePin | quarantine
  | liftQuarantine | sweepHold | sweepResume | visitNow | takeDiscoveries | clearDiscoveries | readFaults | clearFaults
  | startTap | extendTap | stopTap | saveSettings | softRestart | hardRestart | settingsWrite | portWrite | weightWrite
  | sweepWrite | serviceWrite | candidateWrite | countersWrite | saveWriteDone | unknownCommand => exact ⟨_, rfl⟩

theorem exec_next_of_wf (i : Instr) (s : State) (hw : i.wf = true) : ∃ t, exec i s = .next t := by
  cases ha : actsWhenStopped i
  case false =>
    obtain ⟨t, ht⟩ := exec_opens i s hw ha
    exact ⟨_, ht⟩
  case true =>
    cases i with
    | powerOn | resetLine | startCompletion | lossOfPower | commissionLineChange | outputSlot => exact ⟨_, rfl⟩
    | _ => exact nomatch ha

theorem exec_not_refused (i : Instr) (s : State) (r : Refusal) : exec i s ≠ .refused r := by
  intro h
  have := exec_answerKeeps i s
  rwa [h] at this

/-- Settles O3: a well-formed command meets what its row asks; a row that names a unit the part lacks stops at the first
condition that fails. -/
theorem wellFormedCommandsRun : Obligations.WellFormedCommandsRun := by
  refine ⟨exec_next_of_wf, exec_not_refused, ?ports, ?sweepPorts, ?services, ?candidates, ?entries, ?slots, ?packets⟩
  case ports =>
    intro s p x time o packet source hp
    simp only [List.forall_mem_cons, List.not_mem_nil, IsEmpty.forall_iff, implies_true, and_true]
    and_intros <;> exact onPort_of_ge hp _
  case sweepPorts =>
    intro s p lock time b d h12 h13
    simp only [List.forall_mem_cons, List.not_mem_nil, IsEmpty.forall_iff, implies_true, and_true]
    and_intros <;> exact onSweepPort_of_ne (not_or.2 ⟨h12, h13⟩) _
  case services =>
    intro s k x j n cause b packet hk
    simp only [List.forall_mem_cons, List.not_mem_nil, IsEmpty.forall_iff, implies_true, and_true]
    and_intros <;> exact onService_of_ge hk _
  case candidates =>
    intro s c k cause m hc hk
    simp only [List.forall_mem_cons, List.not_mem_nil, IsEmpty.forall_iff, implies_true, and_true]
    exact ⟨onCandidate_of_ge hc _, (onService_of_lt hk _).trans (onCandidate_of_ge hc _), onCandidate_of_ge hc _⟩
  case entries =>
    exact fun s k e d he => ⟨fun hk => (onService_of_lt hk _).trans (onEntry_of_ge he _),
      fun hp => (onSweepPort_of hp _).trans (onEntry_of_ge he _)⟩
  case slots =>
    exact fun s k j b packet m hj => ⟨fun hk => (onService_of_lt hk _).trans (onSlot_of_ge hj _),
      fun hc => (onCandidate_of_lt hc _).trans (onSlot_of_ge hj _)⟩
  case packets =>
    intro s p x time k j b packet source hp hk hj hl
    have atPort (a : Answer) : onPort p (onPacket packet a) = .fault .notAPacket :=
      (onPort_of_lt hp _).trans (onPacket_of_ne hl _)
    simp only [List.forall_mem_cons, List.not_mem_nil, IsEmpty.forall_iff, implies_true, and_true]
    exact ⟨atPort _, atPort _, atPort _, atPort _,
      (onService_of_lt hk _).trans ((onSlot_of_lt hj _).trans (onPacket_of_ne hl _)), onPacket_of_ne hl _⟩

/-- Settles O8: a row of the running part does nothing while the part does not run; the three clauses on power and the
line are the meanings of their rows. -/
theorem partNotRunning : Obligations.PartNotRunning := by
  refine ⟨fun i s hr hw ha => ?stopped, fun s => ⟨_, rfl, ?power⟩, fun s b time => rfl⟩
  case stopped =>
    obtain ⟨t, ht⟩ := exec_opens i s hw ha
    rw [ht, if_neg hr]
  case power => exact ⟨rfl, rfl, rfl, fun h hs => h hs, rfl, rfl, rfl, rfl, rfl, rfl⟩

end Sys2Proof.Machine
end

section
/-! PROOFS. The sync of a port: the search, the confirmation, LOCKED, the loss and the outage (O12 to O15). -/

namespace Sys2Proof.Machine

theorem onPort_running {s : State} {p : Nat} (hp : p < 15) (hr : s.phase = .running) (f : State → State) :
    onPort p (whenRunning s f) = .next (f s) :=
  (onPort_of_lt hp _).trans (whenRunning_next hr f)

theorem State.send_send (s : State) (l m : List Instr) : (s.send l).send m = s.send (l ++ m) := by
  simp [State.send, List.append_assoc]

theorem State.setPort_send (s : State) (l : List Instr) (p : Nat) (v : Port) :
    (s.send l).setPort p v = (s.setPort p v).send l := rfl

/-! ### What each operation of the port does, case by case -/

section
variable {s : State} {p : Nat} {o : Byte}

theorem searchOctet_seeking (h : (s.port p).state = .seeking) : searchOctet p 0x47 s =
    s.setPort p { s.port p with state := .confirming, confirm := 1, starvation := some (s.now + 10) } := by
  simp [searchOctet, Port.searching, h]

theorem searchOctet_hunting (h : (s.port p).state = .holdover) (hc : (s.port p).confirm = 0) : searchOctet p 0x47 s =
    s.setPort p { s.port p with confirm := 1, starvation := some (s.now + 10) } := by
  simp [searchOctet, Port.searching, h, hc]

theorem searchOctet_of_ne (h : o ≠ 0x47#8) : searchOctet p o s = s := by simp [searchOctet, h]

theorem searchOctet_of_not_searching (h : (s.port p).searching = false) : searchOctet p o s = s := by
  simp [searchOctet, h]

theorem searching_of_state {v : Port} (h : v.state = .disabled ∨ v.state = .confirming ∨ v.state = .locked) :
    v.searching = false := by
  rcases h with h | h | h <;> simp [Port.searching, h]

theorem dropConfirmation_confirming (h : (s.port p).state = .confirming) : dropConfirmation p s =
    s.setPort p { s.port p with state := .seeking, confirm := 0, starvation := none } := by
  simp [dropConfirmation, h]

theorem dropConfirmation_of_ne (h : (s.port p).state ≠ .confirming) : dropConfirmation p s =
    s.setPort p { s.port p with confirm := 0, starvation := none } := by
  simp [dropConfirmation, h]

theorem confirmOctet_bad (h : (s.port p).confirming = true) (ho : o ≠ 0x47#8) : confirmOctet p o s = dropConfirmation p s := by
  simp [confirmOctet, h, ho]

theorem confirmOctet_second (h : (s.port p).confirming = true) (hc : (s.port p).confirm = 1) : confirmOctet p 0x47 s =
    s.setPort p { s.port p with confirm := 2, starvation := some (s.now + 10) } := by
  simp [confirmOctet, h, hc]

theorem confirmOctet_third (h : (s.port p).confirming = true) (hc : (s.port p).confirm = 2) :
    confirmOctet p 0x47 s = enterLocked p (countBlip p s) := by
  simp [confirmOctet, h, hc]

theorem confirming_of_state {v : Port} (h : v.state = .confirming) : v.confirming = true := by simp [Port.confirming, h]

theorem confirming_of_holdover {v : Port} (h : v.state = .holdover) (hc : v.confirm ≠ 0) : v.confirming = true := by
  simp [Port.confirming, h, hc]

theorem countBlip_holdover (h : (s.port p).state = .holdover) : countBlip p s =
    s.setPort p { s.port p with counters := { (s.port p).counters with blips := bump (s.port p).counters.blips } } :=
  if_pos h

theorem countBlip_of_ne (h : (s.port p).state ≠ .holdover) : countBlip p s = s := if_neg h

/-- The record of a port that has entered LOCKED (R5). -/
def Port.locked (v : Port) (now : Nat) : Port :=
  { v with state := .locked, confirm := 0, badSync := 0, starvation := some (now + 10), holdoverTimer := none,
           outage := false, lossStart := none }

theorem enterLocked_quiet (h : ((s.port p).outage && !isSweepPort p) = false) :
    enterLocked p s = s.setPort p ((s.port p).locked s.now) := by
  simp [enterLocked, h, Port.locked]

theorem enterLocked_restored (h : (s.port p).outage = true) (hp : isSweepPort p = false) : enterLocked p s =
    ((s.setPort p ((s.port p).locked s.now)).send [.rankingRestorationArrival p, .switchRestorationArrival p]).post
      (.portRestored p (outageLength (s.port p) s.now)) := by
  simp [enterLocked, h, hp, Port.locked]

theorem isSweepPort_of {p : Nat} (h : p = 12 ∨ p = 13) : isSweepPort p = true := by simpa [isSweepPort] using h

theorem isSweepPort_of_ne {p : Nat} (h : p ≠ 12) (h' : p ≠ 13) : isSweepPort p = false := by simp [isSweepPort, h, h']

theorem lockedOctet_good (h : (s.port p).state = .locked) : lockedOctet p 0x47 s =
    s.setPort p { s.port p with badSync := 0, starvation := some (s.now + 10) } := by
  simp [lockedOctet, h]

theorem lockedOctet_bad (h : (s.port p).state = .locked) (ho : o ≠ 0x47#8) (hb : (s.port p).badSync < 2) : lockedOctet p o s =
    s.setPort p { s.port p with badSync := (s.port p).badSync + 1, starvation := some (s.now + 10) } := by
  have : (s.port p).badSync + 1 < 3 := by omega
  simp [lockedOctet, h, ho, this]

theorem lockedOctet_third (h : (s.port p).state = .locked) (ho : o ≠ 0x47#8) (hb : 2 ≤ (s.port p).badSync) :
    lockedOctet p o s = loseSync p s := by
  have : ¬(s.port p).badSync + 1 < 3 := by omega
  simp [lockedOctet, h, ho, this]

theorem lockedOctet_of_ne (h : (s.port p).state ≠ .locked) : lockedOctet p o s = s := if_pos h

theorem starve_none (h : (s.port p).starvation = none) : starve p s = s := by simp [starve, h]

theorem starve_locked {d : Nat} (h : (s.port p).starvation = some d) (hs : (s.port p).state = .locked) :
    starve p s = loseSync p (s.atTime d) := by
  simp [starve, h, hs]

theorem starve_of_ne {d : Nat} (h : (s.port p).starvation = some d) (hs : (s.port p).state ≠ .locked) :
    starve p s = dropConfirmation p (s.atTime d) := by
  simp [starve, h, hs]

/-- The record of a port in LOCKED that has lost sync, before its holdover or its outage begins (R6). -/
def Port.lost (v : Port) (now : Nat) : Port :=
  { v with confirm := 0, badSync := 0, starvation := none, lossStart := some now,
           counters := { v.counters with syncLosses := bump v.counters.syncLosses } }

theorem loseSync_holdover (h : 1 ≤ (s.port p).cfg.holdover) : loseSync p s =
    (s.setPort p { (s.port p).lost s.now with
      state := .holdover, holdoverTimer := some (s.now + (s.port p).cfg.holdover) }).send
        [.classifierLeftLocked p, .directoryLeftLocked p] := by
  simp [loseSync, Nat.one_le_iff_ne_zero.1 h, Port.lost, sendLeftLocked]

/-- The record of a port whose loss is an outage (R9). -/
def Port.outaged (v : Port) : Port :=
  { v with state := .seeking, confirm := 0, starvation := none, holdoverTimer := none, outage := true,
           counters := { v.counters with outages := bump v.counters.outages } }

theorem declareOutage_feed (h : p ≠ 12) (h' : p ≠ 13) : declareOutage p s =
    ((s.setPort p (s.port p).outaged).send [.rankingOutageArrival p, .switchOutageArrival p]).post (.portOutage p) := by
  simp [declareOutage, isSweepPort_of_ne h h', Port.outaged]

theorem declareOutage_sweep (h : p = 12 ∨ p = 13) : declareOutage p s =
    (s.setPort p (s.port p).outaged).send [.sweepOutageArrival p] := by
  simp [declareOutage, isSweepPort_of h, Port.outaged]

theorem loseSync_outage (h : (s.port p).cfg.holdover = 0) :
    loseSync p s = declareOutage p (sendLeftLocked p (s.setPort p ((s.port p).lost s.now))) := by
  simp [loseSync, h, Port.lost]

theorem loseSync_feed (h : (s.port p).cfg.holdover = 0) (h12 : p ≠ 12) (h13 : p ≠ 13) : loseSync p s =
    ((s.setPort p ((s.port p).lost s.now).outaged).send ([.classifierLeftLocked p, .directoryLeftLocked p] ++
      [.rankingOutageArrival p, .switchOutageArrival p])).post (.portOutage p) := by
  rw [loseSync_outage h, declareOutage_feed h12 h13, sendLeftLocked, State.setPort_send, State.send_send]
  simp

theorem loseSync_sweep (h : (s.port p).cfg.holdover = 0) (hp : p = 12 ∨ p = 13) : loseSync p s =
    (s.setPort p ((s.port p).lost s.now).outaged).send ([.classifierLeftLocked p, .directoryLeftLocked p] ++
      [.sweepOutageArrival p]) := by
  rw [loseSync_outage h, declareOutage_sweep hp, sendLeftLocked, State.setPort_send, State.send_send]
  simp

theorem holdoverExpires_none (h : (s.port p).holdoverTimer = none) : holdoverExpires p s = s := by simp [holdoverExpires, h]

theorem holdoverExpires_some {d : Nat} (h : (s.port p).holdoverTimer = some d) :
    holdoverExpires p s = declareOutage p (s.atTime d) := by
  simp [holdoverExpires, h]

end

/-! ### The rows -/

section
variable {s : State} {p : Nat} (hr : s.phase = .running) (hp : p < 15)
include hr hp

theorem exec_syncSearchOctet (o : Byte) (time : Nat) :
    exec (.syncSearchOctet p o time) s = .next (searchOctet p o (s.atTime time)) :=
  onPort_running hp hr fun u => searchOctet p o (u.atTime time)

theorem exec_confirmBoundaryOctet (o : Byte) (time : Nat) :
    exec (.confirmBoundaryOctet p o time) s = .next (confirmOctet p o (s.atTime time)) :=
  onPort_running hp hr fun u => confirmOctet p o (u.atTime time)

theorem exec_lockedBoundaryOctet (o : Byte) (time : Nat) :
    exec (.lockedBoundaryOctet p o time) s = .next (lockedOctet p o (s.atTime time)) :=
  onPort_running hp hr fun u => lockedOctet p o (u.atTime time)

theorem exec_starvationTimerExpiry : exec (.starvationTimerExpiry p) s = .next (starve p s) := onPort_running hp hr (starve p)

theorem exec_holdoverTimerExpiry : exec (.holdoverTimerExpiry p) s = .next (holdoverExpires p s) :=
  onPort_running hp hr (holdoverExpires p)

end

/-! ### The obligations -/

/-- Settles O12: the clauses are the cases of the search and of the confirmation. -/
theorem searchAndConfirm : Obligations.SearchAndConfirm := by
  intro s p time o hr hp v at10
  simp only [exec_syncSearchOctet hr hp, exec_confirmBoundaryOctet hr hp]
  refine ⟨?seeking, ?hunting, ?otherOctet, ?notSearching, ?second, ?secondHunting, ?dropped, ?droppedHunting⟩
  case seeking => exact fun h => congrArg _ (searchOctet_seeking (s := s.atTime time) h)
  case hunting => exact fun h hc => congrArg _ (searchOctet_hunting (s := s.atTime time) h hc)
  case otherOctet => exact fun h => congrArg _ (searchOctet_of_ne h)
  case notSearching =>
    intro h
    exact congrArg _ (searchOctet_of_not_searching (s := s.atTime time) (searching_of_state h))
  case second => exact fun h hc => congrArg _ (confirmOctet_second (s := s.atTime time) (confirming_of_state h) hc)
  case secondHunting =>
    exact fun h hc => congrArg _ (confirmOctet_second (s := s.atTime time) (confirming_of_holdover h (hc.trans_ne one_ne_zero)) hc)
  case dropped =>
    exact fun h ho => congrArg _ ((confirmOctet_bad (s := s.atTime time) (confirming_of_state h) ho).trans
      (dropConfirmation_confirming h))
  case droppedHunting =>
    exact fun h hc ho => congrArg _ ((confirmOctet_bad (s := s.atTime time) (confirming_of_holdover h hc) ho).trans
      (dropConfirmation_of_ne fun h' => nomatch h.symm.trans h'))

/-- Settles O13: the third good octet enters LOCKED; outside HOLDOVER no blip is counted. -/
theorem thirdSyncOctetLocks : Obligations.ThirdSyncOctetLocks := by
  intro s p time hr hp v now w
  simp only [exec_confirmBoundaryOctet hr hp]
  have confirmed (h : v.state = .confirming) (hc : v.confirm = 2) :
      confirmOctet p 0x47 (s.atTime time) = enterLocked p (s.atTime time) := by
    rw [confirmOctet_third (s := s.atTime time) (confirming_of_state h) hc, countBlip_of_ne]
    exact fun h' => nomatch h.symm.trans h'
  refine ⟨?quiet, ?sweep, ?restored, ?blip⟩
  case quiet =>
    intro h hc hv
    exact congrArg _ ((confirmed h hc).trans (enterLocked_quiet (s := s.atTime time) (Bool.and_eq_false_iff.2 (.inl hv))))
  case sweep =>
    intro h hc _ hp'
    exact congrArg _ ((confirmed h hc).trans (enterLocked_quiet (s := s.atTime time) (by simp [isSweepPort_of hp'])))
  case restored =>
    intro d h hc hv h12 h13 hd
    have length : outageLength (s.port p) now = min (now - d) 0xFFFFFFFF := by
      rw [outageLength, show (s.port p).lossStart = some d from hd]
      rfl
    exact congrArg _ ((confirmed h hc).trans
      ((enterLocked_restored (s := s.atTime time) hv (isSweepPort_of_ne h12 h13)).trans (by rw [← length]; rfl)))
  case blip =>
    intro h hc hv
    rw [confirmOctet_third (s := s.atTime time) (confirming_of_holdover h (hc.trans_ne two_ne_zero)) hc,
      countBlip_holdover (s := s.atTime time) h, enterLocked_quiet]
    · rw [State.port_setPort_same, State.setPort_setPort]
      rfl
    · rw [State.port_setPort_same]
      exact Bool.and_eq_false_iff.2 (.inl hv)

/-- Settles O14. -/
theorem lockedBoundariesAndLoss : Obligations.LockedBoundariesAndLoss := by
  intro s p time d o hr hp v lost
  simp only [exec_lockedBoundaryOctet hr hp, exec_starvationTimerExpiry hr hp]
  refine ⟨?good, ?bad, ?third, ?starved, ?confirming, ?holdover, ?notLocked, ?stopped⟩
  case good => exact fun h => congrArg _ (lockedOctet_good (s := s.atTime time) h)
  case bad => exact fun h ho hb => congrArg _ (lockedOctet_bad (s := s.atTime time) h ho hb)
  case third =>
    exact fun h ho hb hl => congrArg _ ((lockedOctet_third (s := s.atTime time) h ho hb).trans
      (loseSync_holdover (s := s.atTime time) hl))
  case starved =>
    exact fun h hd hl => congrArg _ ((starve_locked hd h).trans (loseSync_holdover (s := s.atTime d) hl))
  case confirming =>
    exact fun h hd => congrArg _ ((starve_of_ne hd fun h' => nomatch h.symm.trans h').trans
      (dropConfirmation_confirming (s := s.atTime d) h))
  case holdover =>
    exact fun h hd => congrArg _ ((starve_of_ne hd fun h' => nomatch h.symm.trans h').trans
      (dropConfirmation_of_ne (s := s.atTime d) fun h' => nomatch h.symm.trans h'))
  case notLocked => exact fun h => congrArg _ (lockedOctet_of_ne h)
  case stopped => exact fun h => congrArg _ (starve_none h)

/-- Settles O15: the holdover timer and the two losses with holdover limit 0 declare the outage. -/
theorem lossBecomesOutage : Obligations.LossBecomesOutage := by
  intro s p d time o hr hp v out lost left ends
  have ended {row : Instr} {u : State} (hu : u.port p = v) (h : v.cfg.holdover = 0) (he : exec row s = .next (loseSync p u)) :
      ends row u u.now := by
    refine ⟨fun h12 h13 => ?feed, fun h' => ?sweep⟩
    case feed => rw [he, loseSync_feed (by rw [hu]; exact h) h12 h13, hu]; rfl
    case sweep => rw [he, loseSync_sweep (by rw [hu]; exact h) h', hu]; rfl
  refine ⟨?feed, ?sweep, ?stopped, ?third, ?starved⟩
  case feed =>
    intro h h12 h13
    rw [exec_holdoverTimerExpiry hr hp, holdoverExpires_some h, declareOutage_feed h12 h13]
    rfl
  case sweep =>
    intro h h'
    rw [exec_holdoverTimerExpiry hr hp, holdoverExpires_some h, declareOutage_sweep h']
    rfl
  case stopped => exact fun h => (exec_holdoverTimerExpiry hr hp).trans (congrArg _ (holdoverExpires_none h))
  case third =>
    exact fun h ho hb hl => ended rfl hl ((exec_lockedBoundaryOctet hr hp o time).trans
      (congrArg _ (lockedOctet_third (s := s.atTime time) h ho hb)))
  case starved =>
    exact fun h hd hl => ended rfl hl ((exec_starvationTimerExpiry hr hp).trans (congrArg _ (starve_locked hd h)))

end Sys2Proof.Machine
end

section
/-! PROOFS. Accepted packets, the retune request and the left-LOCKED arrivals (O16, O17). -/

namespace Sys2Proof.Machine

@[simp] theorem State.send_nil (s : State) : s.send [] = s := by simp [State.send]

theorem onPort_onPacket_running {s : State} {p : Nat} {packet : Packet} (hp : p < 15) (hl : packet.length = 188)
    (hr : s.phase = .running) (f : State → State) : onPort p (onPacket packet (whenRunning s f)) = .next (f s) :=
  (onPort_of_lt hp _).trans ((onPacket_of_length hl _).trans (whenRunning_next hr f))

theorem onSweepPort_running {s : State} {p : Nat} (hp : p = 12 ∨ p = 13) (hr : s.phase = .running) (f : State → State) :
    onSweepPort p (whenRunning s f) = .next (f s) :=
  (onSweepPort_of hp _).trans (whenRunning_next hr f)

/-! ### Accepted packets -/

section
variable {s : State} {p : Nat} {packet : Packet}

/-- The offer of an accepted packet: to the tap, if it runs on the port (R7). -/
def tapOffers (s : State) (p : Nat) (packet : Packet) : List Instr :=
  if s.tap.running = true ∧ s.tap.port = p then [.tapOffer p packet] else []

theorem offerToTap_eq (s : State) (p : Nat) (packet : Packet) : offerToTap p packet s = s.send (tapOffers s p packet) := by
  unfold offerToTap tapOffers
  by_cases h : s.tap.running = true ∧ s.tap.port = p
  · simp [h]
  · rw [if_neg h, if_neg (by simpa using h), State.send_nil]

/-- The record of a port that has counted a packet as accepted. -/
def Port.accepting (v : Port) : Port := { v with counters := { v.counters with accepted := bump v.counters.accepted } }

theorem acceptPacket_ignored (h : (s.port p).state ≠ .locked ∨ (s.port p).badSync ≠ 0 ∨ laneOf packet = 8191) :
    acceptPacket p packet s = s :=
  if_neg fun ⟨hs, hb, hl⟩ => h.elim (· hs) (·.elim (· hb) (hl ·))

variable (h : (s.port p).state = .locked ∧ (s.port p).badSync = 0 ∧ laneOf packet ≠ 8191)
include h

theorem acceptPacket_classified (hm : (s.port p).cfg.marginLane ≠ some (laneOf packet)) : acceptPacket p packet s =
    (s.setPort p (s.port p).accepting).send
      (tapOffers s p packet ++ [.classifyPacket p (s.sourceOfPort p) s.now packet]) := by
  rw [acceptPacket, if_pos h, if_neg hm, offerToTap_eq, State.send_send]
  rfl

theorem acceptPacket_margin (hm : (s.port p).cfg.marginLane = some (laneOf packet)) : acceptPacket p packet s =
    readMargin p packet ((s.setPort p (s.port p).accepting).send (tapOffers s p packet)) := by
  rw [acceptPacket, if_pos h, if_pos hm, offerToTap_eq]
  rfl

end

section
variable {s : State} {p : Nat} {packet : Packet}

theorem readMargin_ignored (h : isDamaged packet = true ∨ saysNoPayload packet = true) : readMargin p packet s = s :=
  if_pos (by simpa using h)

variable (hd : isDamaged packet = false) (hn : saysNoPayload packet = false)
include hd hn

theorem readMargin_bad (h : (marginFields packet).tag ≠ 0xA5 ∨ 2 < (marginFields packet).lock) : readMargin p packet s =
    s.setPort p { s.port p with
      counters := { (s.port p).counters with badMargin := bump (s.port p).counters.badMargin } } := by
  unfold readMargin
  rw [if_neg (by simp [hd, hn]), if_pos h]

variable (ht : (marginFields packet).tag = 0xA5) (hk : (marginFields packet).lock ≤ 2)
include ht hk

theorem readMargin_repeat (h : (s.port p).lastMarginSeq = some (marginFields packet).seq) : readMargin p packet s = s := by
  unfold readMargin
  rw [if_neg (by simp [hd, hn]), if_neg (not_or.2 ⟨not_not.2 ht, not_lt.2 hk⟩), if_pos h]

theorem readMargin_read (h : (s.port p).lastMarginSeq ≠ some (marginFields packet).seq) : readMargin p packet s =
    (s.setPort p { s.port p with
      lastMarginSeq := some (marginFields packet).seq
      readings := updateReadings (s.port p).readings (marginFields packet) }).send
        (if isSweepPort p then [.sweepMarginArrival p (marginFields packet).lock] else []) := by
  unfold readMargin
  rw [if_neg (by simp [hd, hn]), if_neg (not_or.2 ⟨not_not.2 ht, not_lt.2 hk⟩), if_neg h]
  cases isSweepPort p
  · exact (State.send_nil _).symm
  · rfl

end

theorem exec_packetAccepted {s : State} {p : Nat} {packet : Packet} (hr : s.phase = .running) (hp : p < 15)
    (hl : packet.length = 188) (time : Nat) :
    exec (.packetAccepted p packet time) s = .next (acceptPacket p packet (s.atTime time)) :=
  onPort_onPacket_running hp hl hr fun u => acceptPacket p packet (u.atTime time)

/-- Settles O16: the cases of R7 and, on the margin lane, of R12 and R13. -/
theorem packetAcceptance : Obligations.PacketAcceptance := by
  intro s p time packet hr hp hl v f counted offered leaves whole margin read
  have accepted {w : State} (h : acceptPacket p packet (s.atTime time) = w) :
      exec (.packetAccepted p packet time) s = .next w := (exec_packetAccepted hr hp hl time).trans (congrArg _ h)
  have onMargin (hm : margin) : acceptPacket p packet (s.atTime time) = readMargin p packet
      (((s.atTime time).setPort p v.accepting).send (tapOffers s p packet)) := acceptPacket_margin hm.1 hm.2
  have counts {t : State} (ht : t = ((s.atTime time).setPort p v.accepting).send (tapOffers s p packet)) :
      t = (((s.atTime time).setPort p { v with counters := counted }).send (offered ++ [])) := by
    rw [ht, List.append_nil]
    rfl
  refine ⟨?ignored, ?classified, ?unread, ?bad, ?repeated, ?valid⟩
  case ignored => exact fun h => accepted (acceptPacket_ignored (s := s.atTime time) h)
  case classified => exact fun h hm => accepted (acceptPacket_classified (s := s.atTime time) h hm)
  case unread => exact fun hm h => accepted (counts ((onMargin hm).trans (readMargin_ignored h)))
  case bad =>
    intro hm hd hn h
    refine accepted ((onMargin hm).trans ((readMargin_bad hd hn h).trans ?_))
    rw [State.setPort_send, State.send_acc_port, State.port_setPort_same, State.setPort_setPort, List.append_nil]
    rfl
  case repeated =>
    intro hm hd hn ht hk h
    exact accepted (counts ((onMargin hm).trans (readMargin_repeat hd hn ht hk (by simpa [Port.accepting] using h))))
  case valid =>
    intro hm hd hn ht hk h
    have reads : acceptPacket p packet (s.atTime time) = ((s.atTime time).setPort p read).send
        (offered ++ if isSweepPort p then [.sweepMarginArrival p f.lock] else []) := by
      rw [onMargin hm, readMargin_read hd hn ht hk (by simpa [Port.accepting] using h), State.setPort_send, State.send_acc_port,
        State.port_setPort_same, State.setPort_setPort, State.send_send]
      rfl
    refine ⟨fun h12 h13 => accepted ?feed, fun h' => accepted ?sweep⟩
    case feed => rw [reads, isSweepPort_of_ne h12 h13]; rfl
    case sweep => rw [reads, isSweepPort_of h']; rfl

/-! ### The retune request and the left-LOCKED arrivals -/

theorem restartPort_eq (s : State) (p : Nat) : restartPort p s = (s.setPort p (s.port p).restarted).send
    (if (s.port p).tracksSync then [.classifierLeftLocked p, .directoryLeftLocked p] else []) := by
  unfold restartPort sendLeftLocked
  split
  · rfl
  · exact (State.send_nil _).symm

theorem retunePort_eq (s : State) (p : Nat) : retunePort p s =
    (s.setPort p { (s.port p).restarted with outage := false, lossStart := none }).send
      (if (s.port p).tracksSync then [.classifierLeftLocked p, .directoryLeftLocked p] else []) := by
  unfold retunePort
  simp only [restartPort_eq, State.send_acc_port, State.port_setPort_same, State.setPort_send, State.setPort_setPort]

/-- The Lane Map of a state with every entry of source `x` without a last sequence counter (R26). -/
theorem lanePlace_forgetSequence {s : State} (h : s.lanesWf) (x i : Nat) :
    (forgetSequence x s).lanePlace i = (s.lanePlace i).map fun e => if e.source = x then { e with lastSeq := none } else e :=
  Table.get_remap (fun _ => none) (fun _ => none)
    (fun _ v => v.map fun e : LaneEntry => if e.source = x then ({ e with lastSeq := none } : LaneEntry) else e) _ h.1 i rfl

section
variable {s : State} {p : Nat}

theorem directoryLeftLocked_idle (h : (s.dirContext p).source = none) : directoryLeftLocked p s = s := if_pos h

theorem directoryLeftLocked_collecting {x : Nat} (h : (s.dirContext p).source = some x) : directoryLeftLocked p s =
    (dropItems (s.dirContext p).section_).foldl (takeItem p)
      (s.setDirContext p { s.dirContext p with lastSeq := none, section_ := .none }) :=
  if_neg (by simp [h])

variable (hr : s.phase = .running)
include hr

theorem exec_retuneRequest (hp : p = 12 ∨ p = 13) :
    exec (.retuneRequest p) s = .next (retunePort p (s.take (.retuneRequest p))) :=
  onSweepPort_running hp hr fun u => retunePort p (u.take (.retuneRequest p))

theorem exec_directoryLeftLocked (hp : p < 15) :
    exec (.directoryLeftLocked p) s = .next (directoryLeftLocked p (s.take (.directoryLeftLocked p))) :=
  onPort_running hp hr fun u => directoryLeftLocked p (u.take (.directoryLeftLocked p))

theorem exec_classifierLeftLocked_some (hp : p < 15) {x : Nat} (h : s.sourceOfPort p = some x) :
    exec (.classifierLeftLocked p) s = .next (forgetSequence x (s.take (.classifierLeftLocked p))) := by
  have dispatch : exec (.classifierLeftLocked p) s = execClassifierLeftLocked p s := rfl
  rw [dispatch, execClassifierLeftLocked, onPort_running hp hr]
  simp [h]

theorem exec_classifierLeftLocked_none (hp : p < 15) (h : s.sourceOfPort p = none) :
    exec (.classifierLeftLocked p) s = .next (s.take (.classifierLeftLocked p)) := by
  have dispatch : exec (.classifierLeftLocked p) s = execClassifierLeftLocked p s := rfl
  rw [dispatch, execClassifierLeftLocked, onPort_running hp hr]
  simp [h]

end

/-- Settles O17. -/
theorem retuneAndLeftLocked : Obligations.RetuneAndLeftLocked := by
  refine ⟨?retune, ?forgets, ?noSource, ?receiving, ?between, ?idle⟩
  case retune =>
    intro s p hr hp v w
    rw [exec_retuneRequest hr hp, retunePort_eq]
    have tracks : (v.tracksSync = true) = (v.state = .locked ∨ v.state = .holdover) := by simp [Port.tracksSync]
    simp only [← tracks]
    rfl
  case forgets =>
    intro s p x hr hp hc hx
    exact ⟨_, exec_classifierLeftLocked_some hr hp hx, rfl, lanePlace_forgetSequence hc.2.1 x⟩
  case noSource => exact fun s p hr hp h => exec_classifierLeftLocked_none hr hp h
  case receiving =>
    intro s p x l hr hp hx hl
    rw [exec_directoryLeftLocked hr hp, directoryLeftLocked_collecting (s := s.take _) hx, State.take_acc_dirContext, hl]
    rfl
  case between =>
    intro s p x hr hp hx hn
    rw [exec_directoryLeftLocked hr hp, directoryLeftLocked_collecting (s := s.take _) hx, State.take_acc_dirContext, hn]
    rfl
  case idle =>
    exact fun s p hr hp h => (exec_directoryLeftLocked hr hp).trans (congrArg _ (directoryLeftLocked_idle (s := s.take _) h))

end Sys2Proof.Machine
end

section
/-! PROOFS. The Classifier: packets without a hit, hits, and the clean points of a pending target (O18 to O20). -/

namespace Sys2Proof.Machine

/-! ### Routing (R17 to R21) -/

section
variable {s : State} {p x time : Nat} {packet : Packet}

/-- The record of a port that has counted a packet as unclaimed. -/
def Port.unclaiming (v : Port) : Port := { v with counters := { v.counters with unclaimed := bump v.counters.unclaimed } }

theorem routePacket_control (h : laneOf packet = s.settings.controlLane) :
    routePacket p (some 14) time packet s = s.send [.controlPacket packet] :=
  if_pos ⟨rfl, h⟩

theorem routePacket_directory (hc : ¬(x = 14 ∧ laneOf packet = s.settings.controlLane)) (h : laneOf packet = 0) :
    routePacket p (some x) time packet s = routeDirectory p x packet s :=
  (if_neg hc).trans (if_pos h)

theorem routeDirectory_unclaimed (h : x = 14 ∨ (s.port p).cfg.dirCheck = false) :
    routeDirectory p x packet s = countUnclaimed p s := if_pos h

theorem routeDirectory_damaged (hx : x ≠ 14) (h : (s.port p).cfg.dirCheck = true) (hd : isDamaged packet = true) :
    routeDirectory p x packet s = s :=
  (if_neg (by simp [hx, h])).trans (if_pos hd)

theorem routeDirectory_sent (hx : x ≠ 14) (h : (s.port p).cfg.dirCheck = true) (hd : isDamaged packet = false) :
    routeDirectory p x packet s = s.send [.directoryPacket p x packet] :=
  (if_neg (by simp [hx, h])).trans (if_neg (by simp [hd]))

variable (hc : ¬(x = 14 ∧ laneOf packet = s.settings.controlLane)) (h0 : laneOf packet ≠ 0)
include hc h0

theorem routePacket_hit {i : Nat} {e : LaneEntry} (h : lookupLane s x (laneOf packet) = some (i, e)) :
    routePacket p (some x) time packet s = hit i e time packet s := by
  simp only [routePacket, if_neg hc, if_neg h0, h]

theorem routePacket_miss (h : lookupLane s x (laneOf packet) = none) :
    routePacket p (some x) time packet s = countUnclaimed p s := by
  simp only [routePacket, if_neg hc, if_neg h0, h]

end

theorem lookupLane_none {s : State} {x lane : Nat}
    (h : ∀ e ∈ s.laneMap, ∀ v, e.2 = some v → ¬(v.source = x ∧ v.lane = lane)) : lookupLane s x lane = none := by
  refine List.findSome?_eq_none_iff.2 fun e he => ?_
  cases hv : e.2 with
  | none => rfl
  | some v => exact if_neg (h e he v hv)

theorem exec_classifyPacket {s : State} {p : Nat} {packet : Packet} (hr : s.phase = .running) (hp : p < 15)
    (hl : packet.length = 188) (source : Option Nat) (time : Nat) :
    exec (.classifyPacket p source time packet) s =
      .next (routePacket p source time packet (s.take (.classifyPacket p source time packet))) :=
  onPort_onPacket_running hp hl hr fun u => routePacket p source time packet (u.take (.classifyPacket p source time packet))

/-- Settles O18: the tests of R17 in order. -/
theorem routingWithoutHit : Obligations.RoutingWithoutHit := by
  intro s p x time packet hr hp hl u unclaimed lane
  have routes {src : Option Nat} {t : State} (h : routePacket p src time packet (u src) = t) :
      exec (.classifyPacket p src time packet) s = .next t := (exec_classifyPacket hr hp hl src time).trans (congrArg _ h)
  have directory {y : Nat} {t : State} (hc : ¬(y = 14 ∧ lane = s.settings.controlLane)) (h0 : lane = 0)
      (h : routeDirectory p y packet (u (some y)) = t) : exec (.classifyPacket p (some y) time packet) s = .next t :=
    routes ((routePacket_directory (s := u (some y)) hc h0).trans h)
  refine ⟨routes rfl, ?control, ?hostDirectory, ?unchecked, ?damaged, ?sent, ?miss⟩
  case control => exact fun h => routes (routePacket_control (s := u (some 14)) h)
  case hostDirectory => exact fun h0 hc => directory (fun h => hc h.2) h0 (routeDirectory_unclaimed (.inl rfl))
  case unchecked =>
    exact fun hx h0 hd => directory (fun h => hx h.1) h0 (routeDirectory_unclaimed (s := u (some x)) (.inr hd))
  case damaged =>
    exact fun hx h0 hd hg => directory (fun h => hx h.1) h0 (routeDirectory_damaged (s := u (some x)) hx hd hg)
  case sent =>
    exact fun hx h0 hd hg => directory (fun h => hx h.1) h0 (routeDirectory_sent (s := u (some x)) hx hd hg)
  case miss => exact fun hc h0 h => routes (routePacket_miss (s := u (some x)) hc h0 (lookupLane_none h))

/-! ### The sequence check of a hit (R25) -/

section
variable {last : Option Nat} {packet : Packet}

theorem classify_damaged (h : isDamaged packet = true) : classify last packet = (.damaged, none, 0) := if_pos h

variable (hd : isDamaged packet = false)
include hd

theorem classify_noPayload (h : saysNoPayload packet = true) : classify last packet = (.noPayload, last, 0) := by
  simp [classify, hd, h]

variable (hn : saysNoPayload packet = false)
include hn

theorem classify_discontinuous (h : isDiscontinuous packet = true) :
    classify last packet = (.resumed, some (seqOf packet), 0) := by
  simp [classify, hd, hn, h]

variable (hc : isDiscontinuous packet = false)
include hc

theorem classify_first : classify none packet = (.resumed, some (seqOf packet), 0) := by simp [classify, hd, hn, hc]

variable {l : Nat}

theorem classify_duplicate (h : seqOf packet = l) : classify (some l) packet = (.duplicate, some l, 0) := by
  simp [classify, hd, hn, hc, h]

theorem classify_inOrder (h : seqOf packet ≠ l) (h' : seqOf packet = (l + 1) % 16) :
    classify (some l) packet = (.inOrder, some (seqOf packet), 0) := by
  simp only [classify, hd, hn, hc, if_neg h, if_pos h', Bool.false_eq_true, if_false]

theorem classify_gap (h : seqOf packet ≠ l) (h' : seqOf packet ≠ (l + 1) % 16) :
    classify (some l) packet = (.gap, some (seqOf packet), (seqOf packet + 31 - l) % 16) := by
  have : seqOf packet + 32 - (l + 1) = seqOf packet + 31 - l := by omega
  simp only [classify, hd, hn, hc, if_neg h, if_neg h', this, Bool.false_eq_true, if_false]

end

/-! ### Offering and forwarding a hit (R27 to R29) -/

section
variable {s : State} {e : LaneEntry} {k : Nat}

theorem offerHit_owned (hk : (s.candidate e.candidate).cfg.owner = some k) (cls : PacketClass) (start : Bool) :
    offerHit e cls start s = offerPacket k e.candidate e.slot cls start s := by
  simp only [offerHit, hk]

theorem offerPacket_passed {c slot : Nat} {cls : PacketClass} {start : Bool}
    (h : ∀ a, (s.service k).armed = some a → a.target ≠ c) : offerPacket k c slot cls start s = s := by
  unfold offerPacket
  split
  · rfl
  · next a ha => exact if_pos (h a ha)

/-- The forwarding of a hit on a candidate of service `k` (R29, R148). -/
def forwardOf (v : Service) (k : Nat) (e : LaneEntry) (cls : PacketClass) (packet : Packet) : List Instr :=
  if v.cfg.state = .active ∧ v.selected = some e.candidate
  then [.forwardAdmission k e.slot (decide (cls ≠ .duplicate ∧ cls ≠ .noPayload)) packet] else []

theorem forwardHit_eq (hk : (s.candidate e.candidate).cfg.owner = some k) (cls : PacketClass) (packet : Packet) :
    forwardHit e cls packet s = s.send (forwardOf (s.service k) k e cls packet) := by
  unfold forwardHit forwards forwardOf
  rw [hk, Option.filter_some]
  by_cases h : (s.service k).cfg.state = .active ∧ (s.service k).selected = some e.candidate
  · rw [if_pos h, if_pos (by simpa using h)]
  · rw [if_neg h, if_neg (by simpa using h), State.send_nil]

/-- The state of a hit when it is offered: its place has the new counter and the measurement has left (R25, R27). -/
def hitTaken (i : Nat) (e : LaneEntry) (time : Nat) (packet : Packet) (s : State) : State :=
  (s.setLanePlace i (some { e with lastSeq := (classify e.lastSeq packet).2.1 })).send
    [.measurementArrival ⟨e.candidate, e.slot, (classify e.lastSeq packet).1, (classify e.lastSeq packet).2.2,
      isStart packet, time⟩]

/-- A hit on a candidate of service `k`: what the offer leaves, and the forwarding decided after it. -/
theorem hit_of_offer {i time : Nat} {packet : Packet} {t : State} (hk : (s.candidate e.candidate).cfg.owner = some k)
    (ht : offerPacket k e.candidate e.slot (classify e.lastSeq packet).1 (isStart packet) (hitTaken i e time packet s) = t)
    (hc : t.candidate e.candidate = s.candidate e.candidate) :
    hit i e time packet s = t.send (forwardOf (t.service k) k e (classify e.lastSeq packet).1 packet) := by
  rw [← forwardHit_eq (by rw [hc, hk]), ← ht, ← offerHit_owned (s := hitTaken i e time packet s) hk]
  rfl

end

/-- Settles O19: no offer is made, and the rows of R25 give the class, the counter and the gap. -/
theorem hitMeasuredAndForwarded : Obligations.HitMeasuredAndForwarded := by
  intro s p x time i k e packet hr hp hl hc h0 hlook hk ha n classed plain
  have hits {last : Option Nat} {cls : PacketClass} {gap : Nat} (h : classify e.lastSeq packet = (cls, last, gap)) :
      classed last cls gap := by
    have taken := exec_classifyPacket hr hp hl (some x) time
    rw [routePacket_hit (s := s.take _) hc h0 hlook, hit_of_offer (s := s.take _) hk (offerPacket_passed ha) rfl, hitTaken,
      State.send_send, h] at taken
    exact taken
  refine ⟨?damaged, ?noPayload, ?discontinuous, ?first, ?duplicate, ?inOrder, ?gap⟩
  case damaged => exact fun hd => hits (classify_damaged hd)
  case noPayload => exact fun hd hn => hits (classify_noPayload hd hn)
  case discontinuous => exact fun hd hn h => hits (classify_discontinuous hd hn h)
  case first => exact fun ⟨hd, hn, hs⟩ h => hits (h ▸ classify_first hd hn hs)
  case duplicate => exact fun l ⟨hd, hn, hs⟩ h h' => hits (h ▸ classify_duplicate hd hn hs h')
  case inOrder => exact fun l ⟨hd, hn, hs⟩ h h' h'' => hits (h ▸ classify_inOrder hd hn hs h' h'')
  case gap => exact fun l ⟨hd, hn, hs⟩ h h' h'' _ => hits (h ▸ classify_gap hd hn hs h' h'')

/-! ### The cut (R100 to R102) -/

/-- The record of a service that has been cut to candidate `c` (R102). -/
def Service.cutTo (v : Service) (c : Nat) (kind : CutKind) : Service :=
  { v with
    selected := some c, armed := none, attempts := 0, challenger := none, streak := 0
    switches := min 0xFFFFFFFF (v.switches + 1)
    forcedCuts := if kind = .forced then min 0xFFFFFFFF (v.forcedCuts + 1) else v.forcedCuts }

theorem makeCut_eq (k : Nat) (a : Armed) (kind : CutKind) (s : State) : makeCut k a kind s =
    (s.setService k ((s.service k).cutTo a.target kind)).send
      [.noticePost (.switched k (s.service k).cfg.broadcast (s.service k).selected a.target kind a.cause) s.clock,
        .leftArmedArrival k] := by
  unfold makeCut tellLeftArmed State.post
  rw [State.send_send]
  rfl

theorem offerCut_immediate {policy : SwitchPolicy} {cause : SwitchCause} {slot : Nat} {cls : PacketClass} {start : Bool}
    (h : policy = .immediate ∧ cause ≠ .pin) : offerCut policy cause slot cls start = some .immediate := if_pos h

theorem offerCut_clean {policy : SwitchPolicy} {cause : SwitchCause} {cls : PacketClass}
    (h : ¬(policy = .immediate ∧ cause ≠ .pin)) (hc : cls = .inOrder ∨ cls = .resumed ∨ cls = .gap) :
    offerCut policy cause 0 cls true = some .clean :=
  (if_neg h).trans (if_pos ⟨rfl, rfl, hc⟩)

theorem offerCut_none {policy : SwitchPolicy} {cause : SwitchCause} {slot : Nat} {cls : PacketClass} {start : Bool}
    (h : ¬(policy = .immediate ∧ cause ≠ .pin))
    (hc : slot ≠ 0 ∨ start = false ∨ cls = .damaged ∨ cls = .duplicate ∨ cls = .noPayload) :
    offerCut policy cause slot cls start = none := by
  refine (if_neg h).trans (if_neg fun ⟨hslot, hstart, hcls⟩ => ?_)
  rcases hc with hc | hc | hc | hc | hc
  · exact hc hslot
  · exact nomatch hc.symm.trans hstart
  all_goals subst hc; rcases hcls with hcls | hcls | hcls <;> cases hcls

section
variable {s : State} {k slot : Nat} {a : Armed} {cls : PacketClass} {start : Bool} (ha : (s.service k).armed = some a)
include ha

theorem offerPacket_waits (h : offerCut (s.service k).cfg.policy a.cause slot cls start = none) :
    offerPacket k a.target slot cls start s = s := by
  simp only [offerPacket, ha, h, ne_eq, not_true_eq_false, if_false]

theorem offerPacket_cuts {kind : CutKind} (h : offerCut (s.service k).cfg.policy a.cause slot cls start = some kind) :
    offerPacket k a.target slot cls start s = makeCut k a kind s := by
  simp only [offerPacket, ha, h, ne_eq, not_true_eq_false, if_false]

end

theorem forwardOf_cutTo (v : Service) (k : Nat) (e : LaneEntry) (kind : CutKind) (cls : PacketClass) (packet : Packet) :
    forwardOf (v.cutTo e.candidate kind) k e cls packet = if v.cfg.state = .active
      then [.forwardAdmission k e.slot (decide (cls ≠ .duplicate ∧ cls ≠ .noPayload)) packet] else [] := by
  simp [forwardOf, Service.cutTo]

/-- A hit that makes a cut: the measurement, the notice, the left-ARMED arrival and the first packet of the new selection. -/
theorem hit_cuts {s : State} {i k time : Nat} {e : LaneEntry} {a : Armed} {packet : Packet} {kind : CutKind}
    (hk : (s.candidate e.candidate).cfg.owner = some k) (ha : (s.service k).armed = some a) (ht : a.target = e.candidate)
    (h : offerCut (s.service k).cfg.policy a.cause e.slot (classify e.lastSeq packet).1 (isStart packet) = some kind) :
    hit i e time packet s = ((hitTaken i e time packet s).setService k ((s.service k).cutTo e.candidate kind)).send
      ([.noticePost (.switched k (s.service k).cfg.broadcast (s.service k).selected e.candidate kind a.cause) s.clock,
        .leftArmedArrival k] ++
        forwardOf ((s.service k).cutTo e.candidate kind) k e (classify e.lastSeq packet).1 packet) := by
  have cut := offerPacket_cuts (s := hitTaken i e time packet s) ha h
  rw [makeCut_eq, ht] at cut
  rw [hit_of_offer hk cut rfl, State.send_acc_service, State.service_setService_same, State.send_send]
  rfl

/-- Settles O20: the offer decides whether the cut is made, and the packet is forwarded after it. -/
theorem cleanPointCuts : Obligations.CleanPointCuts := by
  intro s p x time i k e a packet hr hp hl hc h0 hlook hk ha htarget cls immediate
  have taken : exec (.classifyPacket p (some x) time packet) s =
      .next (hit i e time packet (s.take (.classifyPacket p (some x) time packet))) :=
    (exec_classifyPacket hr hp hl (some x) time).trans (congrArg _ (routePacket_hit (s := s.take _) hc h0 hlook))
  refine ⟨_, taken, ?_⟩
  cases hcut : offerCut (s.service k).cfg.policy a.cause e.slot cls (isStart packet) with
  | none =>
    have waits := offerPacket_waits (s := hitTaken i e time packet (s.take (.classifyPacket p (some x) time packet))) ha hcut
    rw [htarget] at waits
    rw [hit_of_offer (s := s.take _) hk waits rfl]
    refine ⟨fun _ _ => rfl, fun h => ?immediate, fun h hslot hstart hcls => ?clean, fun _ _ => rfl⟩
    case immediate => exact nomatch hcut.symm.trans (offerCut_immediate h)
    case clean => rw [hslot, hstart] at hcut; exact nomatch hcut.symm.trans (offerCut_clean h hcls)
  | some kind =>
    rw [hit_cuts (s := s.take _) hk ha htarget hcut]
    have sent (kind : CutKind) (m n l : Instr) : (s.inFlight.erase (.classifyPacket p (some x) time packet) ++ [m]) ++
        ([n, l] ++ forwardOf ((s.service k).cutTo e.candidate kind) k e cls packet) =
        s.inFlight.erase (.classifyPacket p (some x) time packet) ++ [m, n, l] ++ if (s.service k).cfg.state = .active
          then [.forwardAdmission k e.slot (decide (cls ≠ .duplicate ∧ cls ≠ .noPayload)) packet] else [] := by
      simp [forwardOf_cutTo]
    refine ⟨fun j hj => State.service_setService_other _ _ _ _ hj, fun h => ?immediate, fun h hslot hstart hcls => ?clean,
      fun h hno => nomatch hcut.symm.trans (offerCut_none h hno)⟩
    case immediate =>
      cases hcut.symm.trans (offerCut_immediate h)
      exact ⟨State.service_setService_same _ _ _, sent _ _ _ _⟩
    case clean =>
      rw [hslot, hstart] at hcut
      cases hcut.symm.trans (offerCut_clean h hcls)
      exact ⟨State.service_setService_same _ _ _, sent _ _ _ _⟩

end Sys2Proof.Machine
end

section
/-! PROOFS. The Quality Monitor: measurement arrivals, the interval grading and the survey grading (O21 to O23). -/

namespace Sys2Proof.Machine

/-! ### A command that passes its checks -/

/-- A command of a fixed length, taken by a free Management Unit, that passes the checks of R160 is left to its meaning. -/
theorem exec_checked {s : State} {c : Cmd} {n m : Nat} (h : s.takesCommand) (hb : c.body.length = n)
    (hl : s.admitsLevel c.level m) (code : Byte) (v : State → Verdict) :
    whenRunning s (manage (goodRecord code c) (command n m c v)) = .next (answer (goodRecord code c) s (v s)) := by
  rw [whenRunning_next h.1, manage_takes h, command_admits hb hl]

/-! ### Services and candidates that are listed -/

theorem mem_serviceIndices {s : State} {k : Nat} (h : s.service k ≠ Service.default k) : k ∈ s.serviceIndices :=
  List.mem_map_of_mem (Table.mem_of_get_ne h)

theorem mem_serviceIndices_of_state {s : State} {k : Nat} (h : (s.service k).cfg.state ≠ .unused) : k ∈ s.serviceIndices :=
  mem_serviceIndices fun hd => h (by rw [hd]; rfl)

theorem mem_serviceIndices_of_armed {s : State} {k : Nat} (h : (s.service k).armed.isSome = true) : k ∈ s.serviceIndices :=
  mem_serviceIndices fun hd => by rw [hd] at h; exact nomatch h

/-! ### Measurement arrivals (R55 to R57) -/

section
variable (m : Measurement) (a : Measured)

theorem Measurement.count_packets (cls : PacketClass) (gap : Nat) :
    (m.count cls gap).packets = if cls = .duplicate then m.packets else bump m.packets := by cases cls <;> rfl
theorem Measurement.count_damaged (cls : PacketClass) (gap : Nat) :
    (m.count cls gap).damaged = if cls = .damaged then bump m.damaged else m.damaged := by cases cls <;> rfl
theorem Measurement.count_gaps (cls : PacketClass) (gap : Nat) :
    (m.count cls gap).gaps = if cls = .gap then satAdd top32 m.gaps gap else m.gaps := by cases cls <;> rfl
theorem Measurement.count_duplicates (cls : PacketClass) (gap : Nat) :
    (m.count cls gap).duplicates = if cls = .duplicate then bump m.duplicates else m.duplicates := by cases cls <;> rfl
theorem Measurement.count_silence (cls : PacketClass) (gap : Nat) : (m.count cls gap).silence = m.silence := by
  cases cls <;> rfl
theorem Measurement.count_lastReference (cls : PacketClass) (gap : Nat) :
    (m.count cls gap).lastReference = m.lastReference := by cases cls <;> rfl

theorem Measurement.arrive_reference (h : a.slot = 0) : m.arrive a = (m.count a.cls a.gap).reference a.time := if_pos h
theorem Measurement.arrive_other (h : a.slot ≠ 0) : m.arrive a = m.count a.cls a.gap := if_neg h

/-- The counts of an arrival are those of its class, whatever its slot. -/
theorem Measurement.arrive_counts : (m.arrive a).packets = (m.count a.cls a.gap).packets ∧
    (m.arrive a).damaged = (m.count a.cls a.gap).damaged ∧ (m.arrive a).gaps = (m.count a.cls a.gap).gaps ∧
    (m.arrive a).duplicates = (m.count a.cls a.gap).duplicates := by
  unfold Measurement.arrive
  dsimp only
  split <;> exact ⟨rfl, rfl, rfl, rfl⟩

end

theorem exec_measurementArrival {s : State} {a : Measured} (hr : s.phase = .running) (hc : a.candidate < 2048)
    (hslot : a.slot < 8) : exec (.measurementArrival a) s = .next (measure a (s.take (.measurementArrival a))) := by
  have dispatch : exec (.measurementArrival a) s = execMeasurementArrival a s := rfl
  rw [dispatch, execMeasurementArrival, onCandidate_of_lt hc, onSlot_of_lt hslot, whenRunning_next hr]

/-- Settles O21: the counts by class, then the silence of slot 0. -/
theorem measurementArrival : Obligations.MeasurementArrival := by
  intro s a hr hc hslot x m u
  rw [exec_measurementArrival hr hc hslot]
  refine ⟨fun h => congrArg _ (if_pos h), fun h => ⟨m.arrive a, congrArg _ (if_neg h), ?_⟩⟩
  obtain ⟨hpackets, hdamaged, hgaps, hduplicates⟩ := m.arrive_counts a
  refine ⟨hpackets.trans (m.count_packets _ _), hdamaged.trans (m.count_damaged _ _), hgaps.trans (m.count_gaps _ _),
    hduplicates.trans (m.count_duplicates _ _), fun h0 => ?reference, fun h0 => ?other⟩
  case reference =>
    have hspan : max a.time m.lastReference - m.lastReference = a.time - m.lastReference := by omega
    rw [m.arrive_reference a h0, Measurement.reference, m.count_silence, m.count_lastReference, silenceSpan, hspan]
    exact ⟨rfl, rfl⟩
  case other =>
    rw [m.arrive_other a h0]
    exact ⟨m.count_silence _ _, m.count_lastReference _ _⟩

/-! ### The interval grading (R59, R61) -/

section
variable {s : State}

theorem intervalCandidate_default (s : State) (c : Nat) : intervalCandidate s (Candidate.default c) = Candidate.default c := rfl

theorem candidate_intervalGrading (h : s.canonical) (c : Nat) :
    (intervalGrading s).candidate c = intervalCandidate s (s.candidate c) :=
  Table.get_remap Candidate.default Candidate.default (fun _ x => intervalCandidate s x) _ h.2.2.2.1.1 c
    (intervalCandidate_default s c)

theorem intervalPort_default (p : Nat) : intervalPort p (Port.default p) = Port.default p := by
  unfold intervalPort
  split <;> rfl

theorem port_intervalGrading (h : s.canonical) (p : Nat) : (intervalGrading s).port p = intervalPort p (s.port p) :=
  Table.get_remap Port.default Port.default intervalPort _ h.1.1 p (intervalPort_default p)

theorem intervalCandidate_graded {x : Candidate} {p : Nat} (hx : x.cfg.state = .ready ∨ x.cfg.state = .barred)
    (hs : x.cfg.source = some p) (hp : p < 12 ∨ p = 14) : intervalCandidate s x = gradeAtInterval s x := by
  refine if_pos ?_
  rcases hx with hx | hx <;> simp [gradedAtInterval, hx, hs, hp]

theorem intervalCandidate_aged {x : Candidate}
    (h : x.cfg.state = .free ∨ x.cfg.state = .survey ∨ ∃ y, x.cfg.source = some y ∧ 64 ≤ y) :
    intervalCandidate s x = ageSurvey s.settings.stalenessLimit x := by
  refine if_neg ?_
  rcases h with h | h | ⟨y, hy, h64⟩
  · simp [gradedAtInterval, h]
  · simp [gradedAtInterval, h]
  · have hfeed : ¬y < 12 := by omega
    have hcontrol : y ≠ 14 := by omega
    simp [gradedAtInterval, hy, hfeed, hcontrol]

theorem ageSurvey_eq (limit : Nat) (x : Candidate) : ageSurvey limit x = { x with grade := x.grade.bind fun g =>
    match g.survey with
    | none => some g
    | some (age, e) => if limit < age + 1 then none else some { g with survey := some (age + 1, e) } } := by
  unfold ageSurvey
  rcases x with ⟨cfg, flaps, decay, demoted, quarantine, directory, misses, measured, grade, discard12, discard13⟩
  cases grade with
  | none => rfl
  | some g =>
    rcases hg : g.survey with _ | ⟨age, e⟩
    · simp [hg]
    · simp [hg]

theorem mem_gradedArrivals (i : Instr) : i ∈ gradedArrivals s ↔
    (∃ k, (s.service k).cfg.state ≠ .unused ∧ i = .serviceGraded k s.intervalNumber) ∨
      ∃ k, (s.service k).armed.isSome = true ∧ i = .targetGraded k := by
  unfold gradedArrivals
  rw [List.mem_append, List.mem_map, List.mem_map]
  refine or_congr ⟨?_, ?_⟩ ⟨?_, ?_⟩
  · rintro ⟨k, hk, rfl⟩
    exact ⟨k, by simpa using (List.mem_filter.1 hk).2, rfl⟩
  · rintro ⟨k, hk, rfl⟩
    exact ⟨k, List.mem_filter.2 ⟨mem_serviceIndices_of_state hk, by simpa using hk⟩, rfl⟩
  · rintro ⟨k, hk, rfl⟩
    exact ⟨k, (List.mem_filter.1 hk).2, rfl⟩
  · rintro ⟨k, hk, rfl⟩
    exact ⟨k, List.mem_filter.2 ⟨mem_serviceIndices_of_armed hk, hk⟩, rfl⟩

theorem exec_gradingTimerExpiry (hr : s.phase = .running) {d : Nat} (h : s.gradingTimer = some d) :
    exec .gradingTimerExpiry s = .next (intervalGrading (s.atTime d)) := by
  have dispatch : exec .gradingTimerExpiry s = execGradingTimerExpiry s := rfl
  rw [dispatch, execGradingTimerExpiry, whenRunning_next hr, gradingExpires, h]

end

/-- Settles O22: one interval grading serves the expiry and CLOSE INTERVAL. -/
theorem intervalGrading_spec : Obligations.IntervalGrading := by
  refine ⟨fun s d hr hc hd => ⟨_, exec_gradingTimerExpiry hr hd, ?expiry⟩, ?stopped, fun s c h hl hb => ?command⟩
  case expiry =>
    have hc' : (s.atTime d).canonical := hc
    refine ⟨rfl, rfl, rfl, rfl, fun c p hx hsource hp => ?graded, fun c hx => ?aged, fun p => ?port,
      ⟨_, rfl, fun i => mem_gradedArrivals i⟩, rfl⟩
    case graded =>
      rw [candidate_intervalGrading hc', State.atTime_acc_candidate, intervalCandidate_graded hx hsource hp, gradeAtInterval,
        hsource]
      rfl
    case aged =>
      rw [candidate_intervalGrading hc', State.atTime_acc_candidate, intervalCandidate_aged hx, ageSurvey_eq]
      rfl
    case port => exact port_intervalGrading hc' p
  case stopped =>
    intro s hr h
    have dispatch : exec .gradingTimerExpiry s = execGradingTimerExpiry s := rfl
    rw [dispatch, execGradingTimerExpiry, whenRunning_next hr, gradingExpires, h]
  case command =>
    have hlength : c.body.length = 0 := List.length_eq_zero_iff.2 hb
    have closes : exec (.closeInterval c) s = .next (answer (goodRecord 0x10 c) s (closeInterval s)) :=
      exec_checked h hlength hl 0x10 closeInterval
    refine ⟨fun hage => ⟨intervalGrading s, ?same, ?closed⟩, fun hage => ?young⟩
    case same =>
      have hnow : max s.now s.now = s.now := Nat.max_self _
      rw [exec_gradingTimerExpiry (s := { s with gradingTimer := some s.now }) h.1 rfl, State.atTime, hnow]
      rfl
    case closed => rw [closes, closeInterval, if_neg (Nat.not_lt.2 hage)]; rfl
    case young => rw [closes, closeInterval, if_pos hage]; rfl

/-! ### The survey grading (R72, R73) -/

theorem Candidate.clearDiscard_of_unmarked {x : Candidate} (h : x.discarded = false) (p : Nat) : x.clearDiscard p = x := by
  obtain ⟨h12, h13⟩ := Bool.or_eq_false_iff.1 h
  unfold Candidate.clearDiscard
  split
  · rw [← h12]
  · rw [← h13]

section
variable {s : State} {d : DwellEnd}

theorem gradedAtDwell_iff {x : Candidate} : gradedAtDwell d x = true ↔
    x.cfg.state = .survey ∧ x.cfg.source = some (64 + d.entry) ∧ x.discarded = false := by
  simp [gradedAtDwell, and_assoc]

theorem candidate_surveyGrading (h : s.canonical) (c : Nat) : (surveyGrading d s).candidate c =
    (if gradedAtDwell d (s.candidate c) then gradeAtDwell s d (s.candidate c) else s.candidate c).clearDiscard d.port :=
  Table.get_remap Candidate.default Candidate.default
    (fun _ x => (if gradedAtDwell d x then gradeAtDwell s d x else x).clearDiscard d.port) _ h.2.2.2.1.1 c
    (Candidate.clearDiscard_of_unmarked rfl d.port)

theorem mem_surveyedServices (h : s.canonical) (k : Nat) : k ∈ surveyedServices s d ↔
    (s.service k).cfg.state ≠ .unused ∧
      ∃ c, gradedAtDwell d (s.candidate c) = true ∧ (s.candidate c).cfg.owner = some k := by
  unfold surveyedServices
  rw [List.mem_filter, Bool.and_eq_true, bne_iff_ne, List.any_eq_true]
  constructor
  · rintro ⟨-, hk, ⟨c, x⟩, hm, hx⟩
    obtain ⟨hg, ho⟩ := Bool.and_eq_true_iff.1 hx
    have hc : s.candidate c = x := Table.get_of_mem h.2.2.2.1.1 hm
    exact ⟨hk, c, hc ▸ hg, hc ▸ beq_iff_eq.1 ho⟩
  · rintro ⟨hk, c, hg, ho⟩
    have listed : (c, s.candidate c) ∈ s.candidates :=
      Table.mem_of_get_ne (d := Candidate.default) fun hd => by
        change s.candidate c = Candidate.default c at hd
        rw [hd] at ho
        exact nomatch ho
    exact ⟨mem_serviceIndices_of_state hk, hk, _, listed, Bool.and_eq_true_iff.2 ⟨hg, beq_iff_eq.2 ho⟩⟩

end

/-- Settles O23: a graded candidate bears no mark, so the clearing of the marks leaves it as graded. -/
theorem surveyGrading_spec : Obligations.SurveyGrading := by
  intro s d hr hc hp he marked graded
  have hgraded (c : Nat) : gradedAtDwell d (s.candidate c) = true ↔ graded c := gradedAtDwell_iff
  have hc' : (s.take (.surveyGrading d)).canonical := hc
  have taken : exec (.surveyGrading d) s = .next (surveyGrading d (s.take (.surveyGrading d))) := by
    have dispatch : exec (.surveyGrading d) s = execSurveyGrading d s := rfl
    rw [dispatch, execSurveyGrading, onSweepPort_of hp, onEntry_of_lt he, whenRunning_next hr]
  refine ⟨_, taken, fun c hg => ?graded, fun c hg => ?others, ⟨_, (List.append_assoc _ _ _).symm, fun i => ?arrivals⟩, rfl⟩
  case graded =>
    rw [candidate_surveyGrading hc', State.take_acc_candidate, if_pos ((hgraded c).2 hg),
      Candidate.clearDiscard_of_unmarked (x := gradeAtDwell _ d (s.candidate c)) hg.2.2]
    rfl
  case others =>
    rw [candidate_surveyGrading hc', State.take_acc_candidate, if_neg (mt (hgraded c).1 hg)]
    rfl
  case arrivals =>
    rw [List.mem_map]
    constructor
    · rintro ⟨k, hk, rfl⟩
      obtain ⟨hs, c, hg, ho⟩ := (mem_surveyedServices hc' k).1 hk
      exact ⟨k, hs, ⟨c, (hgraded c).1 hg, ho⟩, rfl⟩
    · rintro ⟨k, hs, ⟨c, hg, ho⟩, rfl⟩
      exact ⟨k, (mem_surveyedServices hc' k).2 ⟨hs, c, (hgraded c).2 hg, ho⟩, rfl⟩

end Sys2Proof.Machine
end

section
/-! PROOFS. Steps 1 to 3 of a ranking: the countdown of quarantines, the decay of flaps, and the rebuilt order (O25). -/

namespace Sys2Proof.Machine

theorem onService_running {s : State} {k : Nat} (hk : k < 512) (hr : s.phase = .running) (f : State → State) :
    onService k (whenRunning s f) = .next (f s) :=
  (onService_of_lt hk _).trans (whenRunning_next hr f)

/-- A ranking writes the services, the candidates and what is in flight. -/
theorem eq_of_rankMask {s t : State} (h : rankMask t = rankMask s) (hn : t.now = s.now) :
    t = { s with services := t.services, candidates := t.candidates, inFlight := t.inFlight } := by
  have masked := congrArg (fun u : State => ({ u with
    services := t.services, candidates := t.candidates, inFlight := t.inFlight, now := t.now } : State)) h
  have same : t = { s with services := t.services, candidates := t.candidates, inFlight := t.inFlight, now := t.now } := masked
  exact same.trans (by rw [hn])

theorem clock_of_rankMask {s t : State} (h : rankMask t = rankMask s) (hn : t.now = s.now) : t.clock = s.clock := by
  rw [eq_of_rankMask h hn]
  rfl

/-! ### One update for each member of a rank order -/

/-- The members of a list without repetitions are updated one by one: each once, by what it was before. -/
theorem candidate_foldl {f : State → Nat → State} {g : Nat → Candidate → Candidate}
    (hf : ∀ s c d, (f s c).candidate d = if d = c then g s.settings.flapDecay (s.candidate c) else s.candidate d)
    (hs : ∀ s c, (f s c).settings = s.settings) {l : List Nat} (hl : l.Nodup) (s : State) (d : Nat) :
    (l.foldl f s).candidate d = if d ∈ l then g s.settings.flapDecay (s.candidate d) else s.candidate d := by
  induction l generalizing s with
  | nil => rfl
  | cons c l ih =>
    obtain ⟨hc, hl⟩ := List.nodup_cons.1 hl
    rw [List.foldl_cons, ih hl, hs, hf]
    by_cases hd : d = c
    · subst hd
      simp [hc]
    · simp [hd]

theorem settings_foldl {f : State → Nat → State} (hs : ∀ s c, (f s c).settings = s.settings) (l : List Nat) (s : State) :
    (l.foldl f s).settings = s.settings := foldl_mask State.settings f hs l s

/-! ### The countdown and the decay (R79, R80) -/

/-- Whether a quarantine ends at the next countdown. -/
def Candidate.endsQuarantine (x : Candidate) : Bool := x.quarantine.any fun q => decide (q.remaining ≤ 1)

/-- The record of a member after step 1 (R79). -/
def Candidate.countedDown (x : Candidate) : Candidate :=
  match x.quarantine with
  | none => x
  | some q =>
    if q.remaining ≤ 1 then { x with quarantine := none, flaps := 0, decay := 0 }
    else { x with quarantine := some ⟨q.reason, q.remaining - 1⟩ }

section
variable {x : Candidate}

theorem Candidate.countedDown_free (h : x.quarantine = none) : x.countedDown = x := by simp [countedDown, h]

theorem Candidate.countedDown_ended {q : QuarantineRecord} (h : x.quarantine = some q) (hq : q.remaining ≤ 1) :
    x.countedDown = { x with quarantine := none, flaps := 0, decay := 0 } := by simp [countedDown, h, hq]

theorem Candidate.countedDown_counted {q : QuarantineRecord} (h : x.quarantine = some q) (hq : 1 < q.remaining) :
    x.countedDown = { x with quarantine := some ⟨q.reason, q.remaining - 1⟩ } := by
  simp [countedDown, h, Nat.not_le.2 hq]

theorem Candidate.decayed_quarantine (limit : Nat) : (x.decayed limit).quarantine = x.quarantine := by
  unfold decayed
  split
  · rfl
  split
  · rfl
  split <;> rfl

theorem Candidate.decayed_zero (limit : Nat) (h : x.flaps = 0) :
    (x.decayed limit).flaps = 0 ∧ (x.decayed limit).decay = x.decay := by
  simp only [decayed, if_pos h]
  split <;> exact ⟨h, rfl⟩

theorem Candidate.decayed_demoted (limit : Nat) (h : x.demoted = true) : x.decayed limit = { x with demoted := false } := if_pos h

variable {limit : Nat} (h : x.demoted = false)
include h

theorem Candidate.decayed_calm (hf : x.flaps = 0) : x.decayed limit = x := by simp [decayed, h, hf]

theorem Candidate.decayed_waits (hf : 1 ≤ x.flaps) (hd : x.decay + 1 < limit) :
    x.decayed limit = { x with decay := x.decay + 1 } := by
  simp [decayed, h, Nat.ne_of_gt hf, Nat.not_le.2 hd]

theorem Candidate.decayed_drops (hf : 1 ≤ x.flaps) (hd : limit ≤ x.decay + 1) :
    x.decayed limit = { x with flaps := x.flaps - 1, decay := 0 } := by
  simp [decayed, h, Nat.ne_of_gt hf, hd]

end

section
variable (s : State) (c d : Nat)

theorem countDown_free (h : (s.candidate c).quarantine = none) : countDown s c = s := by simp [countDown, h]

theorem countDown_ended {q : QuarantineRecord} (h : (s.candidate c).quarantine = some q) (hq : q.remaining ≤ 1) :
    countDown s c = endQuarantine c s := by simp [countDown, h, hq]

theorem countDown_counted {q : QuarantineRecord} (h : (s.candidate c).quarantine = some q) (hq : 1 < q.remaining) :
    countDown s c = s.setCandidate c { s.candidate c with quarantine := some ⟨q.reason, q.remaining - 1⟩ } := by
  simp [countDown, h, Nat.not_le.2 hq]

theorem candidate_countDown :
    (countDown s c).candidate d = if d = c then (s.candidate c).countedDown else s.candidate d := by
  cases hq : (s.candidate c).quarantine with
  | none =>
    rw [countDown_free s c hq, Candidate.countedDown_free hq]
    split
    · next h => rw [h]
    · rfl
  | some q =>
    by_cases hr : q.remaining ≤ 1
    · rw [countDown_ended s c hq hr, Candidate.countedDown_ended hq hr, endQuarantine, State.post_acc_candidate,
        State.candidate_setCandidate]
    · rw [countDown_counted s c hq (Nat.not_le.1 hr), Candidate.countedDown_counted hq (Nat.not_le.1 hr),
        State.candidate_setCandidate]

theorem countDown_inFlight : (countDown s c).inFlight = s.inFlight ++
    if (s.candidate c).endsQuarantine then [.noticePost (.quarantineEnded c) s.clock] else [] := by
  cases hq : (s.candidate c).quarantine with
  | none => simp [countDown_free s c hq, Candidate.endsQuarantine, hq]
  | some q =>
    by_cases hr : q.remaining ≤ 1
    · rw [countDown_ended s c hq hr, if_pos (by simp [Candidate.endsQuarantine, hq, hr])]
      rfl
    · rw [countDown_counted s c hq (Nat.not_le.1 hr), if_neg (by simp [Candidate.endsQuarantine, hq, hr])]
      simp

theorem countDown_services : (countDown s c).services = s.services := by
  unfold countDown
  dsimp only
  split
  · rfl
  · split <;> rfl

theorem countDown_now : (countDown s c).now = s.now := by
  unfold countDown
  dsimp only
  split
  · rfl
  · split <;> rfl

theorem countDown_settings : (countDown s c).settings = s.settings :=
  (congrArg State.settings (countDown_rankMask s c) :)

theorem countDown_clock : (countDown s c).clock = s.clock := clock_of_rankMask (countDown_rankMask s c) (countDown_now s c)

theorem candidate_decayFlaps : (decayFlaps s c).candidate d =
    if d = c then (s.candidate c).decayed s.settings.flapDecay else s.candidate d := State.candidate_setCandidate ..

end

/-- The members' notices of ended quarantines are in flight after step 1. -/
theorem notice_mem_foldl_countDown {l : List Nat} (hl : l.Nodup) (s : State) {c : Nat} (hc : c ∈ l)
    (h : (s.candidate c).endsQuarantine = true) :
    .noticePost (.quarantineEnded c) s.clock ∈ (l.foldl countDown s).inFlight := by
  have kept (l : List Nat) (t : State) : t.inFlight ⊆ (l.foldl countDown t).inFlight := by
    induction l generalizing t with
    | nil => exact List.Subset.refl _
    | cons a l ih =>
      refine List.Subset.trans ?_ (ih (countDown t a))
      rw [countDown_inFlight]
      exact List.subset_append_left _ _
  induction l generalizing s with
  | nil => cases hc
  | cons a l ih =>
    obtain ⟨ha, hl⟩ := List.nodup_cons.1 hl
    rcases List.mem_cons.1 hc with rfl | hc
    · refine kept l _ ?_
      rw [countDown_inFlight, h]
      exact List.mem_append_right _ (List.mem_singleton_self _)
    · have hne : c ≠ a := fun hca => ha (hca ▸ hc)
      rw [List.foldl_cons, ← countDown_clock s a]
      exact ih hl _ hc (by rw [candidate_countDown, if_neg hne]; exact h)

/-! ### The rebuilt order (R81) -/

/-- A grade no higher than another's: the relation by which the eligible members are sorted. -/
def gradeAtMost (grade : Nat → Nat) (a b : Nat) : Prop := grade b ≤ grade a

section
variable (grade : Nat → Nat)

theorem foldr_insertByGrade [DecidableRel (gradeAtMost grade)] (l : List Nat) :
    l.foldr (insertByGrade grade) [] = l.insertionSort (gradeAtMost grade) := by
  have insert (c : Nat) (m : List Nat) : insertByGrade grade c m = m.orderedInsert (gradeAtMost grade) c := by
    induction m with
    | nil => rfl
    | cons d m ih =>
      rw [List.orderedInsert_cons, insertByGrade, ih]
      exact if_congr Iff.rfl rfl rfl
  induction l with
  | nil => rfl
  | cons c l ih => rw [List.foldr_cons, ih, insert, List.insertionSort_cons]

theorem pairwise_foldr_insertByGrade (l : List Nat) :
    (l.foldr (insertByGrade grade) []).Pairwise fun a b => grade b ≤ grade a := by
  classical
  have total : Std.Total (gradeAtMost grade) := ⟨fun a b => le_total (grade b) (grade a)⟩
  have trans : IsTrans Nat (gradeAtMost grade) := ⟨fun _ _ _ hab hbc => le_trans hbc hab⟩
  rw [foldr_insertByGrade]
  exact List.pairwise_insertionSort (gradeAtMost grade) l

theorem pair_sublist_foldr_insertByGrade {a b : Nat} {l : List Nat} (h : [a, b].Sublist l) (hg : grade b ≤ grade a) :
    [a, b].Sublist (l.foldr (insertByGrade grade) []) := by
  classical
  have total : Std.Total (gradeAtMost grade) := ⟨fun a b => le_total (grade b) (grade a)⟩
  have trans : IsTrans Nat (gradeAtMost grade) := ⟨fun _ _ _ hab hbc => le_trans hbc hab⟩
  rw [foldr_insertByGrade]
  exact List.pair_sublist_insertionSort (r := gradeAtMost grade) hg h

end

section
variable (s : State) (l : List Nat)

theorem eligible_of_mem_foldr {c : Nat} (h : c ∈ (l.filter s.eligible).foldr (insertByGrade s.gradeOf) []) :
    s.eligible c = true := by
  classical
  rw [foldr_insertByGrade, List.mem_insertionSort] at h
  exact (List.mem_filter.1 h).2

/-- The order after a ranking: eligible members by grade, then the others. -/
theorem pairwise_rankedOrder : (rankedOrder s l).Pairwise fun a b =>
    s.eligible b = true → s.eligible a = true ∧ s.gradeOf b ≤ s.gradeOf a := by
  have others {c : Nat} (h : c ∈ l.filter fun d => !s.eligible d) : s.eligible c ≠ true := by simpa using (List.mem_filter.1 h).2
  refine List.pairwise_append.2 ⟨?eligible, ?others, fun a _ b hb he => absurd he (others hb)⟩
  case eligible =>
    exact (pairwise_foldr_insertByGrade s.gradeOf _).imp_of_mem fun ha _ hg _ => ⟨eligible_of_mem_foldr s l ha, hg⟩
  case others => exact List.pairwise_of_forall_mem_list fun a _ b hb he => absurd he (others hb)

theorem filter_pair {p : Nat → Bool} {a b : Nat} (ha : p a = true) (hb : p b = true) : [a, b].filter p = [a, b] := by
  simp [ha, hb]

variable {l} {a b : Nat} (h : [a, b].Sublist l)
include h

theorem rankedOrder_eligible_stable (ha : s.eligible a = true) (hb : s.eligible b = true) (hg : s.gradeOf b ≤ s.gradeOf a) :
    [a, b].Sublist (rankedOrder s l) := by
  have := h.filter s.eligible
  rw [filter_pair ha hb] at this
  exact (pair_sublist_foldr_insertByGrade s.gradeOf this hg).trans (List.sublist_append_left _ _)

theorem rankedOrder_others_stable (ha : s.eligible a = false) (hb : s.eligible b = false) :
    [a, b].Sublist (rankedOrder s l) := by
  have := h.filter fun c => !s.eligible c
  rw [filter_pair (by simp [ha]) (by simp [hb])] at this
  exact this.trans (List.sublist_append_right _ _)

end

/-! ### Steps 1 to 3 together (R78) -/

/-- The state after steps 1 and 2. -/
def membersCounted (k : Nat) (s : State) : State :=
  (s.service k).rank.foldl decayFlaps ((s.service k).rank.foldl countDown s)

section
variable (k : Nat) (s : State)

theorem membersCounted_services : (membersCounted k s).services = s.services :=
  (foldl_mask State.services decayFlaps (fun _ _ => rfl) _ _).trans
    (foldl_mask State.services countDown countDown_services _ _)

theorem membersCounted_service (j : Nat) : (membersCounted k s).service j = s.service j :=
  congrArg (fun t => Table.get Service.default t j) (membersCounted_services k s)

theorem membersCounted_now : (membersCounted k s).now = s.now :=
  (foldl_mask State.now decayFlaps (fun _ _ => rfl) _ _).trans (foldl_mask State.now countDown countDown_now _ _)

theorem membersCounted_inFlight :
    (membersCounted k s).inFlight = ((s.service k).rank.foldl countDown s).inFlight :=
  foldl_mask State.inFlight decayFlaps (fun _ _ => rfl) _ _

theorem membersCounted_candidate (hn : (s.service k).rank.Nodup) (c : Nat) : (membersCounted k s).candidate c =
    if c ∈ (s.service k).rank then (s.candidate c).countedDown.decayed s.settings.flapDecay else s.candidate c := by
  have hdecay := candidate_foldl (f := decayFlaps) (g := fun limit x => x.decayed limit)
    (fun s c d => candidate_decayFlaps s c d) (fun _ _ => rfl) hn ((s.service k).rank.foldl countDown s) c
  have hcount := candidate_foldl (f := countDown) (g := fun _ x => x.countedDown)
    (fun s c d => candidate_countDown s c d) countDown_settings hn s c
  rw [membersCounted, hdecay, settings_foldl countDown_settings, hcount]
  by_cases h : c ∈ (s.service k).rank
  · rw [if_pos h, if_pos h, if_pos h]
  · rw [if_neg h, if_neg h, if_neg h]

/-- The service whose members are ranked, with its rebuilt order. -/
def rankedService : Service :=
  { s.service k with rank := rankedOrder (membersCounted k s) (s.service k).rank }

theorem rankMembers_eq : rankMembers k s = (membersCounted k s).setService k (rankedService k s) := by
  change rebuildRank k (membersCounted k s) = _
  unfold rebuildRank rankedService
  rw [membersCounted_service]

theorem rankMembers_service : (rankMembers k s).service k = rankedService k s := by
  rw [rankMembers_eq, State.service_setService_same]

theorem rankMembers_service_other {j : Nat} (h : j ≠ k) : (rankMembers k s).service j = s.service j := by
  rw [rankMembers_eq, State.service_setService_other _ _ _ _ h, membersCounted_service]

theorem rankMembers_candidate (c : Nat) : (rankMembers k s).candidate c = (membersCounted k s).candidate c := by
  rw [rankMembers_eq, State.setService_acc_candidate]

theorem rankMembers_inFlight : (rankMembers k s).inFlight = ((s.service k).rank.foldl countDown s).inFlight := by
  rw [rankMembers_eq, ← membersCounted_inFlight]
  rfl

theorem rankMembers_now : (rankMembers k s).now = s.now := by
  rw [rankMembers_eq, State.setService_now, membersCounted_now]

theorem rankMembers_eligible (c : Nat) : (rankMembers k s).eligible c = (membersCounted k s).eligible c := by
  rw [rankMembers_eq, State.eligible_setService]
  rw [membersCounted_service]
  rfl

theorem rankMembers_gradeOf (c : Nat) : (rankMembers k s).gradeOf c = (membersCounted k s).gradeOf c := by
  rw [rankMembers_eq]
  rfl

/-- The rebuilt order, judged in the state that steps 1 to 3 leave. -/
theorem rankMembers_order : let t := rankMembers k s
    let r := (t.service k).rank
    r.Perm (s.service k).rank ∧
    r.Pairwise (fun a b => t.eligible b = true → t.eligible a = true ∧ t.gradeOf b ≤ t.gradeOf a) ∧
    (∀ a b, [a, b].Sublist (s.service k).rank → t.eligible a = true → t.eligible b = true → t.gradeOf a = t.gradeOf b →
      [a, b].Sublist r) ∧
    (∀ a b, [a, b].Sublist (s.service k).rank → t.eligible a = false → t.eligible b = false → [a, b].Sublist r) := by
  intro t r
  have hr : r = rankedOrder (membersCounted k s) (s.service k).rank := by
    change ((rankMembers k s).service k).rank = _
    rw [rankMembers_service]
    rfl
  simp only [show t = rankMembers k s from rfl, rankMembers_eligible, rankMembers_gradeOf, hr]
  exact ⟨rankedOrder_perm _ _, pairwise_rankedOrder _ _, fun a b h ha hb hg => rankedOrder_eligible_stable _ h ha hb hg.ge,
    fun a b h => rankedOrder_others_stable _ h⟩

end

theorem exec_serviceGraded {s : State} {k : Nat} (hk : k < 512) (hr : s.phase = .running) (n : BitVec 32) :
    exec (.serviceGraded k n) s = .next (rankService k (s.take (.serviceGraded k n))) :=
  onService_running hk hr fun u => rankService k (u.take (.serviceGraded k n))

theorem rankService_unused {s : State} {k : Nat} (h : (s.service k).cfg.state = .unused) : rankService k s = s := by
  simp [rankService, h]

theorem rankService_defined {s : State} {k : Nat} (h : (s.service k).cfg.state = .defined) :
    rankService k s = rankMembers k s := by
  simp [rankService, h]

/-- Settles O25: a DEFINED service goes through steps 1 to 3 and no other. -/
theorem rankingOrders : Obligations.RankingOrders := by
  intro s k n hr hk v
  refine ⟨fun hs => ?unused, fun hs hn => ?defined⟩
  case unused => exact (exec_serviceGraded hk hr n).trans (congrArg _ (rankService_unused (s := s.take _) hs))
  case defined =>
    set u := s.take (.serviceGraded k n) with hu
    have member {c : Nat} (hc : c ∈ v.rank) :
        (rankMembers k u).candidate c = (s.candidate c).countedDown.decayed s.settings.flapDecay :=
      (rankMembers_candidate k u c).trans ((membersCounted_candidate k u hn c).trans (if_pos hc))
    refine ⟨rankMembers k u, (exec_serviceGraded hk hr n).trans (congrArg _ (rankService_defined (s := u) hs)),
      rankMembers_order k u, fun c hc => ?outside, fun c q hc hq h1 => ?ended, fun c q hc hq h1 => ?counted,
      fun c hc hq => ?free, ?service, fun j hj => rankMembers_service_other k u hj, ?state⟩
    case outside => exact (rankMembers_candidate k u c).trans ((membersCounted_candidate k u hn c).trans (if_neg hc))
    case ended =>
      rw [member hc, Candidate.countedDown_ended hq h1]
      obtain ⟨hflaps, hdecay⟩ := Candidate.decayed_zero (x := { s.candidate c with quarantine := none, flaps := 0, decay := 0 })
        u.settings.flapDecay rfl
      refine ⟨Candidate.decayed_quarantine _, hflaps, hdecay, ?_⟩
      rw [rankMembers_inFlight]
      refine notice_mem_foldl_countDown hn u hc ?_
      rw [hu, State.take_acc_candidate, Candidate.endsQuarantine, hq]
      exact decide_eq_true h1
    case counted => rw [member hc, Candidate.decayed_quarantine, Candidate.countedDown_counted hq h1]
    case free =>
      rw [member hc, Candidate.countedDown_free hq]
      refine ⟨(Candidate.decayed_quarantine _).trans hq, fun hd => ?demoted, fun hd hf => Candidate.decayed_calm hd hf,
        fun hd hf => Candidate.decayed_waits hd hf, fun hd hf => Candidate.decayed_drops hd hf⟩
      rw [Candidate.decayed_demoted _ hd]
      exact ⟨rfl, rfl, rfl⟩
    case service => rw [rankMembers_service]; rfl
    case state => exact eq_of_rankMask (s := s) (rankMembers_rankMask u k) (rankMembers_now k u)

end Sys2Proof.Machine
end

section
/-! PROOFS. The advisory check, and the arrivals that only the dark flag answers (O27, O28). -/

namespace Sys2Proof.Machine

/-! ### The best survey-graded member (R131) -/

/-- A member that an advisory can name: SURVEY, not quarantined, graded, neither SILENT nor UNLOCKED. -/
def State.Shown (s : State) (c : Nat) : Prop :=
  (s.candidate c).cfg.state = .survey ∧ (s.candidate c).quarantine = none ∧
    ∃ g, (s.candidate c).grade = some g ∧ g.silent = false ∧ g.unlocked = false

theorem surveyGraded_iff {s : State} {c : Nat} : surveyGraded s c = true ↔ s.Shown c := by
  unfold surveyGraded State.Shown
  cases hg : (s.candidate c).grade with
  | none => simp [hg]
  | some g => simp [hg, and_assoc]

/-- The member with the highest survey grade, the first of those with an equal one. -/
def State.Best (s : State) (members : List Nat) (c : Nat) : Prop :=
  ∃ l r, members = l ++ c :: r ∧ s.Shown c ∧ (∀ b ∈ l, s.Shown b → s.gradeOf b < s.gradeOf c) ∧
    ∀ b ∈ r, s.Shown b → s.gradeOf b ≤ s.gradeOf c

/-- The better of the best so far and the next member. -/
def betterSurvey (s : State) (best : Option Nat) (c : Nat) : Option Nat :=
  match best with
  | none => some c
  | some b => if s.gradeOf b < s.gradeOf c then some c else some b

section
variable {s : State} {c : Nat}

theorem bestSurvey_eq (s : State) (members : List Nat) :
    bestSurvey s members = (members.filter (surveyGraded s)).foldl (betterSurvey s) none := rfl

theorem bestSurvey_none {members : List Nat} (h : ∀ c ∈ members, ¬s.Shown c) : bestSurvey s members = none := by
  have : members.filter (surveyGraded s) = [] :=
    List.filter_eq_nil_iff.2 fun c hc hg => h c hc (surveyGraded_iff.1 hg)
  rw [bestSurvey_eq, this, List.foldl_nil]

/-- Members of a lower grade leave a best of a lower grade, or none. -/
theorem foldl_betterSurvey_lower {l : List Nat} (hl : ∀ b ∈ l, s.gradeOf b < s.gradeOf c) :
    ∀ best, (∀ b, best = some b → s.gradeOf b < s.gradeOf c) →
      ∀ b, l.foldl (betterSurvey s) best = some b → s.gradeOf b < s.gradeOf c := by
  induction l with
  | nil => exact fun _ h => h
  | cons a l ih =>
    intro best h
    refine ih (fun b hb => hl b (List.mem_cons_of_mem _ hb)) _ fun b hb => ?_
    unfold betterSurvey at hb
    split at hb
    · cases hb; exact hl _ List.mem_cons_self
    · next d hd =>
      split at hb
      · cases hb; exact hl _ List.mem_cons_self
      · cases hb; exact h _ rfl

/-- Members of no higher grade leave the best as it is. -/
theorem foldl_betterSurvey_kept {l : List Nat} (hl : ∀ b ∈ l, s.gradeOf b ≤ s.gradeOf c) :
    l.foldl (betterSurvey s) (some c) = some c := by
  induction l with
  | nil => rfl
  | cons a l ih =>
    have hstep : betterSurvey s (some c) a = some c := if_neg (Nat.not_lt.2 (hl a List.mem_cons_self))
    rw [List.foldl_cons, hstep, ih fun b hb => hl b (List.mem_cons_of_mem _ hb)]

theorem betterSurvey_of_lower {best : Option Nat} (h : ∀ b, best = some b → s.gradeOf b < s.gradeOf c) :
    betterSurvey s best c = some c := by
  cases best with
  | none => rfl
  | some b => exact if_pos (h b rfl)

theorem bestSurvey_of_best {members : List Nat} (h : s.Best members c) : bestSurvey s members = some c := by
  obtain ⟨l, r, rfl, hc, hl, hr⟩ := h
  have shown {m : List Nat} {b : Nat} (hb : b ∈ m.filter (surveyGraded s)) : b ∈ m ∧ s.Shown b :=
    ⟨(List.mem_filter.1 hb).1, surveyGraded_iff.1 (List.mem_filter.1 hb).2⟩
  have lower := foldl_betterSurvey_lower (s := s) (c := c) (l := l.filter (surveyGraded s))
    (fun b hb => hl b (shown hb).1 (shown hb).2) none fun b hb => nomatch hb
  rw [bestSurvey_eq, List.filter_append, List.filter_cons_of_pos (surveyGraded_iff.2 hc), List.foldl_append, List.foldl_cons,
    betterSurvey_of_lower lower, foldl_betterSurvey_kept fun b hb => hr b (shown hb).1 (shown hb).2]

end

/-! ### The advisory check -/

/-- The condition under which the best survey-graded member is advised (R131). -/
def State.Leads (s : State) (k c : Nat) : Prop :=
  match s.firstEligible (s.service k).rank [] with
  | some f => s.gradeOf f + s.settings.advisoryMargin ≤ s.gradeOf c
  | none => (s.service k).cfg.minGrade ≤ s.gradeOf c

section
variable {s : State} {k c : Nat}

theorem advisoryHolds_iff : advisoryHolds s k c = true ↔ s.Leads k c := by
  unfold advisoryHolds State.Leads bestFeed
  cases s.firstEligible (s.service k).rank [] <;> simp

theorem advisoryCheck_none (h : ∀ c ∈ (s.service k).rank, ¬s.Shown c) :
    advisoryCheck k s = s.setService k { s.service k with advisory := none } := by
  simp [advisoryCheck, bestSurvey_none h]

variable (hb : s.Best (s.service k).rank c)
include hb

theorem advisoryCheck_lags (h : ¬s.Leads k c) :
    advisoryCheck k s = s.setService k { s.service k with advisory := none } := by
  have hno : advisoryHolds s k c = false := Bool.eq_false_iff.2 (mt advisoryHolds_iff.1 h)
  simp [advisoryCheck, bestSurvey_of_best hb, Option.filter_some, hno]

theorem advisoryCheck_stands (h : s.Leads k c) (ha : (s.service k).advisory = some c) : advisoryCheck k s = s := by
  simp [advisoryCheck, bestSurvey_of_best hb, Option.filter_some, advisoryHolds_iff.2 h, ha]

theorem advisoryCheck_raised (h : s.Leads k c) (ha : (s.service k).advisory ≠ some c) : advisoryCheck k s =
    (s.setService k { s.service k with advisory := some c }).post (.advisory k (s.service k).cfg.broadcast c
      ((s.candidate c).cfg.source.getD 64 - 64) (s.gradeOf c) ((s.firstEligible (s.service k).rank []).map s.gradeOf)) := by
  simp [advisoryCheck, bestSurvey_of_best hb, Option.filter_some, advisoryHolds_iff.2 h, ha, bestFeed]

end

theorem exec_surveyGraded {s : State} {k e : Nat} (hr : s.phase = .running) (hk : k < 512) (he : e < 64) :
    exec (.surveyGraded k e) s = .next (if (s.service k).cfg.state = .active
      then advisoryCheck k (s.take (.surveyGraded k e)) else s.take (.surveyGraded k e)) := by
  have dispatch : exec (.surveyGraded k e) s = execSurveyGraded k e s := rfl
  rw [dispatch, execSurveyGraded, onService_of_lt hk, onEntry_of_lt he, whenRunning_next hr]
  rfl

/-- Settles O27: the check is made for ACTIVE services only, and its outcome is by the best member. -/
theorem advisoryCheck_spec : Obligations.AdvisoryCheck := by
  intro s k e x hr hk he v u shown best leads
  rw [exec_surveyGraded hr hk he]
  have checked {t : State} (hs : v.cfg.state = .active) (h : advisoryCheck k u = t) :
      (if (s.service k).cfg.state = .active then advisoryCheck k u else u) = t := (if_pos hs).trans h
  have isBest {c : Nat} (h : best c) : u.Best (u.service k).rank c := by
    obtain ⟨l, r, hrank, hc, _, hl, hr⟩ := h
    exact ⟨l, r, hrank, hc, hl, hr⟩
  have isLead {c : Nat} : leads c ↔ u.Leads k c := Iff.rfl
  refine ⟨fun hs => congrArg _ (if_neg hs), fun hs h => congrArg _ (checked hs (advisoryCheck_none (s := u) h)),
    fun c hs hb h => congrArg _ (checked hs (advisoryCheck_lags (isBest hb) (mt isLead.2 h))),
    fun c hs hb h ha => congrArg _ (checked hs (advisoryCheck_stands (isBest hb) (isLead.1 h) ha)),
    fun c hs hb h ha => congrArg _ (checked hs ((advisoryCheck_raised (isBest hb) (isLead.1 h) ha).trans ?_))⟩
  obtain ⟨_, _, _, _, hsource, _⟩ := hb
  rw [State.take_acc_candidate, hsource, Option.getD_some, Nat.add_sub_cancel_left]
  rfl

/-! ### Restoration and dark arrivals -/

theorem goDark_lit {s : State} {k : Nat} (h : (s.service k).cfg.state = .active) (hd : (s.service k).dark = false) :
    goDark k s = (s.setService k { s.service k with dark := true }).post (.dark k (s.service k).cfg.broadcast) :=
  if_pos ⟨h, hd⟩

theorem goDark_of_dark {s : State} {k : Nat} (h : (s.service k).cfg.state ≠ .active ∨ (s.service k).dark = true) :
    goDark k s = s :=
  if_neg fun ⟨hs, hd⟩ => h.elim (· hs) fun hd' => nomatch hd.symm.trans hd'

/-- Settles O28. -/
theorem rankingArrivals : Obligations.RankingArrivals := by
  refine ⟨fun s p hr hp => ⟨?ranking, ?switch⟩, fun s k hr hk => ?dark⟩
  case ranking => exact onPort_running hp hr fun u => u.take (.rankingRestorationArrival p)
  case switch => exact onPort_running hp hr fun u => u.take (.switchRestorationArrival p)
  case dark =>
    have taken : exec (.darkArrival k) s = .next (goDark k (s.take (.darkArrival k))) :=
      onService_running hk hr fun u => goDark k (u.take (.darkArrival k))
    exact ⟨fun hs hd => taken.trans (congrArg _ (goDark_lit (s := s.take _) hs hd)),
      fun h => taken.trans (congrArg _ (goDark_of_dark (s := s.take _) h))⟩

end Sys2Proof.Machine
end

section
/-! PROOFS. The Switch Controller: requests, cancellations, pins and the expiry of the wait (O31 to O35). -/

namespace Sys2Proof.Machine

/-! ### Arming (R98, R99, R106) -/

/-- A service in ARMED toward a target. -/
def Service.armedTo (v : Service) (target : Nat) (cause : SwitchCause) (timer attempts : Nat) : Service :=
  { v with armed := some ⟨target, cause, timer⟩, attempts := attempts }

section
variable {s : State} {k x : Nat} {cause : SwitchCause} {a : Armed}

theorem waitLength_eq (s : State) (k : Nat) (cause : SwitchCause) : waitLength s k cause =
    if cause = .challenge ∨ cause = .pin ∨ (s.service k).cfg.policy = .immediate then (s.service k).cfg.cleanWait
    else s.settings.urgentWait := by
  unfold waitLength
  cases cause <;> simp

theorem waitLength_urgent (s : State) (k : Nat) : waitLength s k .urgent =
    if (s.service k).cfg.policy = .immediate then (s.service k).cfg.cleanWait else s.settings.urgentWait := rfl

theorem armSwitch_eq (s : State) (k x : Nat) (cause : SwitchCause) : armSwitch k x cause s =
    s.setService k ((s.service k).armedTo x cause (s.now + waitLength s k cause)
      (if cause = .challenge then (s.service k).attempts else 0)) := rfl

theorem retargetSwitch_eq (s : State) (k x : Nat) (cause : SwitchCause) : retargetSwitch k x cause s =
    s.setService k ((s.service k).armedTo x cause (s.now + waitLength s k cause) 0) := by
  unfold retargetSwitch
  simp only [armSwitch_eq, State.service_setService_same, State.setService_setService]
  rfl

theorem takeRequest_steady (h : (s.service k).armed = none) : takeRequest k x cause s = armSwitch k x cause s := by
  simp [takeRequest, h]

theorem takeRequest_pin (h : (s.service k).armed = some a) : takeRequest k x .pin s = armSwitch k x .pin s := by
  simp [takeRequest, h]

theorem takeRequest_same (h : (s.service k).armed = some a) (hc : cause ≠ .pin) (ht : a.target = x) :
    takeRequest k x cause s = escalateSwitch k a s := by
  simp [takeRequest, h, hc, ht]

theorem takeRequest_other (h : (s.service k).armed = some a) (hc : cause ≠ .pin) (ht : a.target ≠ x) :
    takeRequest k x cause s = retargetSwitch k x cause s := by
  simp [takeRequest, h, hc, ht]

theorem discardsRequest_eq_false_iff : discardsRequest s k x cause = false ↔
    (s.service k).cfg.state = .active ∧ ((s.service k).pinned = none ∨ cause = .pin) ∧ x ∈ (s.service k).rank ∧
      s.isReady x = true ∧ (s.service k).selected ≠ some x ∧ s.inOutage x = false := by
  cases hp : (s.service k).pinned <;> simp [discardsRequest, hp, and_assoc]

theorem switchRequest_taken (h : discardsRequest s k x cause = false) : switchRequest k x cause s = takeRequest k x cause s := by
  simp [switchRequest, h]

theorem switchRequest_discarded (h : discardsRequest s k x cause = true)
    (hu : ¬(cause = .urgent ∧ (s.service k).cfg.state = .active ∧ (s.service k).pinned = none)) :
    switchRequest k x cause s = s := by
  simp only [switchRequest, h, Bool.not_true, Bool.false_eq_true, if_false, if_neg hu]

section
variable (h : discardsRequest s k x .urgent = true) (hs : (s.service k).cfg.state = .active)
  (hp : (s.service k).pinned = none)
include h hs hp

theorem switchRequest_searches {c : Nat} (hc : s.firstEligible (s.service k).rank (x :: (s.service k).selected.toList) = some c) :
    switchRequest k x .urgent s = takeRequest k c .urgent s := by
  simp [switchRequest, h, hs, hp, hc]

theorem switchRequest_nowhere (hc : s.firstEligible (s.service k).rank (x :: (s.service k).selected.toList) = none) :
    switchRequest k x .urgent s = s := by
  simp [switchRequest, h, hs, hp, hc]

end

end

theorem exec_switchRequest {s : State} {k x : Nat} (hr : s.phase = .running) (hk : k < 512) (hx : x < 2048)
    (cause : SwitchCause) :
    exec (.switchRequest k x cause) s = .next (switchRequest k x cause (s.take (.switchRequest k x cause))) := by
  have dispatch : exec (.switchRequest k x cause) s = execSwitchRequest k x cause s := rfl
  rw [dispatch, execSwitchRequest, onService_of_lt hk, onCandidate_of_lt hx, whenRunning_next hr]

/-- Settles O31: the conditions of R98, then the state of the switch. -/
theorem switchArming : Obligations.SwitchArming := by
  intro s k x cause hr hk hx v i u taken wait armed
  have discards : discardsRequest u k x cause = true ↔ ¬taken :=
    Bool.not_eq_false _ ▸ not_congr discardsRequest_eq_false_iff
  have runs {t : State} (h : switchRequest k x cause u = t) : exec i s = .next t :=
    (exec_switchRequest hr hk hx cause).trans (congrArg _ h)
  have takes {t : State} (ht : taken) (h : takeRequest k x cause u = t) : exec i s = .next t :=
    runs ((switchRequest_taken (s := u) (discardsRequest_eq_false_iff.2 ht)).trans h)
  have arms : armSwitch k x cause u = u.setService k armed := by rw [armSwitch_eq, waitLength_eq]; rfl
  refine ⟨fun ht hc => runs (switchRequest_discarded (s := u) (discards.2 ht) fun h => hc h.1),
    fun ht h => runs (switchRequest_discarded (s := u) (discards.2 ht) fun ⟨_, hs, hp⟩ => h.elim (· hs) (· hp)),
    fun ht hc hn => ?nowhere, fun c ht hc hs hp ha hn => ?searches, fun ht ha => takes ht ((takeRequest_steady (s := u) ha).trans arms),
    fun a ht ha hc => ?pin, fun a ht ha hc hne => ?other, fun a ht ha hc he => ?same⟩
  case nowhere =>
    by_cases h : v.cfg.state = .active ∧ v.pinned = none
    · subst hc
      exact runs (switchRequest_nowhere (s := u) (discards.2 ht) h.1 h.2 hn)
    · exact runs (switchRequest_discarded (s := u) (discards.2 ht) fun h' => h h'.2)
  case searches =>
    subst hc
    refine runs ((switchRequest_searches (s := u) (discards.2 ht) hs hp hn).trans ((takeRequest_steady (s := u) ha).trans ?_))
    rw [armSwitch_eq, waitLength_urgent]
    rfl
  case pin =>
    subst hc
    exact takes ht ((takeRequest_pin (s := u) ha).trans arms)
  case other =>
    refine ⟨_, takes ht ((takeRequest_other (s := u) ha hc hne).trans (retargetSwitch_eq ..)), ?_,
      fun j hj => State.service_setService_other _ _ _ _ hj, rfl⟩
    rw [State.service_setService_same, waitLength_eq]
    rfl
  case same => exact takes ht (takeRequest_same (s := u) ha hc he)

end Sys2Proof.Machine
end

section
/-! PROOFS. The Switch Controller, continued: cancellations, pins and the expiry of the wait (O32 to O35). -/

namespace Sys2Proof.Machine

/-! ### Cancellation (R107 to R109) -/

/-- A service put back to STEADY, its attempt count cleared (R109). -/
def Service.called (v : Service) : Service := { v with armed := none, attempts := 0 }

section
variable {s : State} {k : Nat} {a : Armed} (h : (s.service k).armed = some a)

include h

theorem cancelSwitch_reissued {c : Nat} (ha : a.cause = .urgent)
    (hc : s.firstEligible (s.service k).rank (a.target :: (s.service k).selected.toList) = some c) : cancelSwitch k s =
    s.setService k ((s.service k).armedTo c .urgent (s.now + waitLength s k .urgent) 0) := by
  have same := s.firstEligible_setService k (s.service k).called rfl
  unfold cancelSwitch
  simp only [h, ha]
  rw [show s.setService k { (s.service k).steady with attempts := 0 } = s.setService k (s.service k).called from rfl, same, hc]
  simp only [armSwitch_eq, State.service_setService_same, State.setService_setService, waitLength]
  rfl

theorem cancelSwitch_nowhere (ha : a.cause = .urgent)
    (hc : s.firstEligible (s.service k).rank (a.target :: (s.service k).selected.toList) = none) : cancelSwitch k s =
    (s.setService k (s.service k).called).send [.leftArmedArrival k] := by
  have same := s.firstEligible_setService k (s.service k).called rfl
  unfold cancelSwitch
  simp only [h, ha]
  rw [show s.setService k { (s.service k).steady with attempts := 0 } = s.setService k (s.service k).called from rfl, same, hc]
  rfl

theorem cancelSwitch_plain (ha : a.cause = .first ∨ a.cause = .challenge) : cancelSwitch k s =
    (s.setService k (s.service k).called).send [.leftArmedArrival k] := by
  rcases ha with ha | ha <;> simp only [cancelSwitch, h, ha] <;> rfl

theorem cancelSwitch_pin (ha : a.cause = .pin) : cancelSwitch k s =
    (s.setService k { (s.service k).called with pinned := none }).send [.leftArmedArrival k] := by
  simp only [cancelSwitch, h, ha, State.service_setService_same, State.setService_setService]
  rfl

theorem targetGraded_unfit (hf : (if a.cause = .pin then s.pinFit k a.target else s.eligible a.target) = false) :
    targetGraded k s = cancelSwitch k s := by
  simp [targetGraded, h, hf]

theorem targetGraded_fit (hf : (if a.cause = .pin then s.pinFit k a.target else s.eligible a.target) = true) :
    targetGraded k s = s := by
  simp [targetGraded, h, hf]

end

theorem targetGraded_steady {s : State} {k : Nat} (h : (s.service k).armed = none) : targetGraded k s = s := by
  simp [targetGraded, h]

/-! ### The services in ARMED toward a port -/

/-- A filter that exactly one member passes, of a list without repetitions. -/
theorem filter_eq_singleton {l : List Nat} {p : Nat → Bool} {k : Nat} (hl : l.Nodup) (hk : k ∈ l) (hp : p k = true)
    (h : ∀ j ∈ l, p j = true → j = k) : l.filter p = [k] := by
  have members : ∀ j ∈ l.filter p, j = k := fun j hj => h j (List.mem_filter.1 hj).1 (List.mem_filter.1 hj).2
  have hone := List.nodup_replicate.1 (List.eq_replicate_of_mem members ▸ hl.filter p)
  have hpos := List.length_pos_of_mem (List.mem_filter.2 ⟨hk, hp⟩)
  rw [List.eq_replicate_of_mem members, le_antisymm hone hpos]
  rfl

theorem serviceIndices_nodup {s : State} (h : s.canonical) : s.serviceIndices.Nodup :=
  h.2.2.1.1.imp fun hlt => Nat.ne_of_lt hlt

/-- The pending target of a service has source `p`. -/
def State.ArmedOn (s : State) (p k : Nat) : Prop :=
  ∃ b, (s.service k).armed = some b ∧ (s.candidate b.target).cfg.source = some p

section
variable {s : State} {p : Nat}

theorem armedOn_iff {k : Nat} : (match (s.service k).armed with
    | some a => (s.candidate a.target).cfg.source == some p
    | none => false) = true ↔ s.ArmedOn p k := by
  unfold State.ArmedOn
  cases (s.service k).armed <;> simp

theorem mem_armedOnPort {k : Nat} : k ∈ armedOnPort s p ↔ s.ArmedOn p k := by
  refine List.mem_filter.trans ⟨fun h => armedOn_iff.1 h.2, fun h => ⟨?_, armedOn_iff.2 h⟩⟩
  obtain ⟨b, hb, _⟩ := h
  exact mem_serviceIndices_of_armed (by rw [hb]; rfl)

theorem armedOnPort_none (h : ∀ k, ¬s.ArmedOn p k) : armedOnPort s p = [] :=
  List.eq_nil_iff_forall_not_mem.2 fun k hk => h k (mem_armedOnPort.1 hk)

theorem armedOnPort_one {k : Nat} (hc : s.canonical) (hk : s.ArmedOn p k) (h : ∀ j, s.ArmedOn p j → j = k) :
    armedOnPort s p = [k] :=
  filter_eq_singleton (serviceIndices_nodup hc) (List.mem_filter.1 (mem_armedOnPort.2 hk)).1 (armedOn_iff.2 hk)
    fun j _ hj => h j (armedOn_iff.1 hj)

theorem exec_switchOutageArrival (hr : s.phase = .running) (hp : p < 15) : exec (.switchOutageArrival p) s =
    .next ((armedOnPort s p).foldl (fun t k => cancelSwitch k t) (s.take (.switchOutageArrival p))) :=
  onPort_running hp hr fun u => (armedOnPort u p).foldl (fun t k => cancelSwitch k t) (u.take (.switchOutageArrival p))

theorem exec_targetGraded {k : Nat} (hr : s.phase = .running) (hk : k < 512) :
    exec (.targetGraded k) s = .next (targetGraded k (s.take (.targetGraded k))) :=
  onService_running hk hr fun u => targetGraded k (u.take (.targetGraded k))

end

/-- Settles O32: every arrival that finds the target unfit makes the one cancellation of R109. -/
theorem switchCancellation : Obligations.SwitchCancellation := by
  intro s k a hr hk ha v fit wait cancelled
  have cancels {i : Instr} (h : exec i s = .next (cancelSwitch k (s.take i))) : cancelled i := by
    have ha' : ((s.take i).service k).armed = some a := ha
    refine ⟨fun c hu hc => ⟨_, h.trans (congrArg _ (cancelSwitch_reissued ha' hu hc)), ?_,
        fun j hj => State.service_setService_other _ _ _ _ hj, rfl⟩,
      fun hu hc => h.trans (congrArg _ (cancelSwitch_nowhere ha' hu hc)),
      fun hc => h.trans (congrArg _ (cancelSwitch_plain ha' hc)),
      fun hp => ⟨_, h.trans (congrArg _ (cancelSwitch_pin ha' hp)), State.service_setService_same _ _ _,
        fun j hj => State.service_setService_other _ _ _ _ hj, rfl⟩⟩
    exact State.service_setService_same _ _ _
  have graded := exec_targetGraded hr hk
  refine ⟨fun hf => ?fit, fun hf => ?unfit, fun p hp hc hs hone => ?outage, fun p hp hnone => ?quiet, fun j hj hn => ?steady⟩
  case fit => exact graded.trans (congrArg _ (targetGraded_fit (s := s.take _) ha hf))
  case unfit => exact cancels (graded.trans (congrArg _ (targetGraded_unfit (s := s.take _) ha hf)))
  case outage =>
    refine cancels ?_
    rw [exec_switchOutageArrival hr hp, armedOnPort_one hc ⟨a, ha, hs⟩ fun j ⟨b, hb, hsource⟩ => hone j b hb hsource]
    rfl
  case quiet =>
    rw [exec_switchOutageArrival hr hp, armedOnPort_none fun j ⟨b, hb, hsource⟩ => hnone j b hb hsource]
    rfl
  case steady => exact (exec_targetGraded hr hj).trans (congrArg _ (targetGraded_steady (s := s.take _) hn))

/-! ### A pinned service is taken up (R113) -/

section
variable {s : State} {k c : Nat}

theorem pinFit_iff : s.pinFit k c = true ↔ c ∈ (s.service k).rank ∧ s.isReady c = true ∧ s.inOutage c = false := by
  simp [State.pinFit, and_assoc]

theorem armSwitch_pin (s : State) (k c : Nat) : armSwitch k c .pin s =
    s.setService k ((s.service k).armedTo c .pin (s.now + (s.service k).cfg.cleanWait) 0) := rfl

theorem takeUpPinned_idle (h : (s.service k).cfg.state ≠ .active ∨ (s.service k).armed ≠ none ∨
    (s.service k).selected ≠ none ∨ (s.service k).pinned = none) : takeUpPinned k s = s := by
  unfold takeUpPinned
  by_cases hs : (s.service k).cfg.state = .active ∧ (s.service k).armed = none ∧ (s.service k).selected = none
  · obtain ⟨hs1, hs2, hs3⟩ := hs
    have hp : (s.service k).pinned = none := by simpa [hs1, hs2, hs3] using h
    simp [hp]
  · exact if_neg hs

section
variable (hs : (s.service k).cfg.state = .active) (ha : (s.service k).armed = none) (hn : (s.service k).selected = none)
  (hp : (s.service k).pinned = some c)
include hs ha hn hp

theorem takeUpPinned_fit (h : s.pinFit k c = true) : takeUpPinned k s = armSwitch k c .pin s := by
  simp [takeUpPinned, hs, ha, hn, hp, h]

theorem takeUpPinned_unfit (h : s.pinFit k c = false) :
    takeUpPinned k s = s.setService k { s.service k with pinned := none } := by
  simp [takeUpPinned, hs, ha, hn, hp, h]

end

end

/-- Settles O33. -/
theorem pinnedTakenUp : Obligations.PinnedTakenUp := by
  intro s k c hr hk v i fit
  have taken : exec i s = .next (takeUpPinned k (s.take i)) := onService_running hk hr fun u => takeUpPinned k (u.take i)
  refine ⟨fun hs ha hn hp hf => ?fit, fun hs ha hn hp hf => ?unfit, fun h => ?idle⟩
  case fit => exact taken.trans (congrArg _ (takeUpPinned_fit (s := s.take i) hs ha hn hp (pinFit_iff.2 hf)))
  case unfit =>
    exact taken.trans (congrArg _ (takeUpPinned_unfit (s := s.take i) hs ha hn hp (Bool.eq_false_iff.2 (mt pinFit_iff.1 hf))))
  case idle => exact taken.trans (congrArg _ (takeUpPinned_idle (s := s.take i) h))

/-! ### The expiry of the wait (R103 to R105) -/

section
variable {s : State} {k : Nat} {a : Armed}

theorem waitExpires_steady (h : (s.service k).armed = none) : waitExpires k s = s := by simp [waitExpires, h]

variable (h : (s.service k).armed = some a)
include h

theorem waitExpires_forced (hc : a.cause ≠ .challenge ∨ (s.service k).cfg.policy ≠ .clean) :
    waitExpires k s = makeCut k a .forced (s.atTime a.timer) := by
  have : ¬(a.cause = .challenge ∧ (s.service k).cfg.policy = .clean) := fun ⟨h1, h2⟩ => hc.elim (· h1) (· h2)
  simp only [waitExpires, h, if_neg this]

variable (hc : a.cause = .challenge) (hp : (s.service k).cfg.policy = .clean)
include hc hp

theorem waitExpires_retried (hn : (s.service k).attempts + 1 < (s.service k).cfg.retryLimit) :
    waitExpires k s = retrySwitch k (s.atTime a.timer) := by
  simp [waitExpires, h, hc, hp, hn]

theorem waitExpires_abandoned (hn : (s.service k).cfg.retryLimit ≤ (s.service k).attempts + 1) :
    waitExpires k s = abandonSwitch k a (s.atTime a.timer) := by
  simp [waitExpires, h, hc, hp, Nat.not_lt.2 hn]

end

/-- Settles O34. -/
theorem waitExpiry : Obligations.WaitExpiry := by
  intro s k hr hk v
  have taken : exec (.waitTimerExpiry k) s = .next (waitExpires k s) := onService_running hk hr (waitExpires k)
  refine ⟨fun h => ?steady, fun a h hc => ?forced, fun a h hc hp hn => ?retried, fun a h hc hp hn => ?abandoned⟩
  case steady => exact taken.trans (congrArg _ (waitExpires_steady h))
  case forced => exact taken.trans (congrArg _ ((waitExpires_forced h hc).trans rfl))
  case retried => exact taken.trans (congrArg _ (waitExpires_retried h hc hp hn))
  case abandoned => exact taken.trans (congrArg _ (waitExpires_abandoned h hc hp hn))

/-! ### PIN and RELEASE PIN (R111, R112) -/

section
variable {s : State} {k c : Nat} {a : Armed}

theorem dropSwitch_eq (s : State) (k : Nat) :
    dropSwitch k s = (s.setService k (s.service k).called).send [.leftArmedArrival k] := rfl

theorem setPin_defined (h : (s.service k).cfg.state ≠ .active) :
    setPin k c s = s.setService k { s.service k with pinned := some c } := if_pos h

section
variable (h : (s.service k).cfg.state = .active)
include h

theorem setPin_selected (hs : (s.service k).selected = some c) (ha : (s.service k).armed = none) :
    setPin k c s = s.setService k { s.service k with pinned := some c } := by
  simp [setPin, h, hs, ha]

theorem setPin_dropped (hs : (s.service k).selected = some c) (ha : (s.service k).armed = some a) :
    setPin k c s = (s.setService k { (s.service k).called with pinned := some c }).send [.leftArmedArrival k] := by
  have pinned : setPin k c s = dropSwitch k (s.setService k { s.service k with pinned := some c }) := by
    unfold setPin
    rw [if_neg (not_not.2 h), if_pos hs, if_neg (ha.trans_ne (Option.some_ne_none a))]
  rw [pinned, dropSwitch_eq, State.service_setService_same, State.setService_setService]
  rfl

theorem setPin_armed (hs : (s.service k).selected ≠ some c) : setPin k c s = s.setService k
    { (s.service k).armedTo c .pin (s.now + (s.service k).cfg.cleanWait) 0 with pinned := some c } := by
  have pinned : setPin k c s = armSwitch k c .pin (s.setService k { s.service k with pinned := some c }) := by
    unfold setPin
    rw [if_neg (not_not.2 h), if_neg hs]
  rw [pinned, armSwitch_pin, State.service_setService_same, State.setService_setService]
  rfl

end

theorem releasePin_kept (h : ∀ a, (s.service k).armed = some a → a.cause ≠ .pin) :
    releasePin k s = s.setService k { s.service k with pinned := none } := by
  unfold releasePin
  cases ha : (s.service k).armed with
  | none => simp [ha]
  | some a => simp [ha, h a ha]

theorem releasePin_dropped (h : (s.service k).armed = some a) (hc : a.cause = .pin) :
    releasePin k s = (s.setService k { (s.service k).called with pinned := none }).send [.leftArmedArrival k] := by
  have released : releasePin k s = dropSwitch k (s.setService k { s.service k with pinned := none }) := by
    simp [releasePin, h, hc]
  rw [released, dropSwitch_eq, State.service_setService_same, State.setService_setService]
  rfl

end

section
variable {s : State} {b : List Byte} {k c : Nat}

theorem pinCommand_refused (hc : beAt b 2 2 = c) (hk : beAt b 0 2 = k) (hk' : k < 512) (hc' : c < 2048)
    (h : s.pinFit k c = false) : pinCommand b s = .refused .state := by
  subst hk hc
  simp only [pinCommand, h, if_neg (show ¬(512 ≤ beAt b 0 2 ∨ 2048 ≤ beAt b 2 2) by omega), Bool.not_false, if_true]

theorem pinCommand_done (hc : beAt b 2 2 = c) (hk : beAt b 0 2 = k) (hk' : k < 512) (hc' : c < 2048)
    (h : s.pinFit k c = true) : pinCommand b s = .done (opt16 ((setPin k c s).service k).selected ++
      opt16 ((setPin k c s).service k).pinned ++ flag8 ((setPin k c s).service k).armed.isSome) (setPin k c s) := by
  subst hk hc
  simp only [pinCommand, h, if_neg (show ¬(512 ≤ beAt b 0 2 ∨ 2048 ≤ beAt b 2 2) by omega), Bool.not_true,
    Bool.false_eq_true, if_false]

theorem releaseCommand_refused (hk : beAt b 0 2 = k) (hk' : k < 512) (h : (s.service k).pinned = none) :
    releaseCommand b s = .refused .state := by
  subst hk
  simp [releaseCommand, h, Nat.not_le.2 hk']

theorem releaseCommand_done (hk : beAt b 0 2 = k) (hk' : k < 512) (h : (s.service k).pinned.isSome = true) :
    releaseCommand b s = .done [] (releasePin k s) := by
  subst hk
  simp [releaseCommand, Nat.not_le.2 hk', Option.isSome_iff_ne_none.1 h]

end

/-- Settles O35. -/
theorem pinAndRelease : Obligations.PinAndRelease := by
  intro s q k c h hl hk hc v fit named reply
  have hk' : beAt named 0 2 = k := beAt_be16 (by omega) _
  have hc' : beAt named 2 2 = c := (beAt_append (be16 k) (be16 c) 0 2).trans (by simpa using beAt_be16 (by omega) [])
  have hk'' : beAt (be16 k) 0 2 = k := by simpa using beAt_be16 (n := k) (by omega) []
  have pins (hb : q.body = named) : exec (.pin q) s = .next (answer (goodRecord 0x11 q) s (pinCommand named s)) :=
    hb ▸ exec_checked h (by rw [hb]; rfl) hl 0x11 (pinCommand q.body)
  have releases (hb : q.body = be16 k) :
      exec (.releasePin q) s = .next (answer (goodRecord 0x12 q) s (releaseCommand (be16 k) s)) :=
    hb ▸ exec_checked h (by rw [hb]; rfl) hl 0x12 (releaseCommand q.body)
  have pinned {t : State} (hb : q.body = named) (hf : fit) (ht : setPin k c s = t) : exec (.pin q) s =
      .next (t.replies q 0x11 .done (opt16 (t.service k).selected ++ opt16 (t.service k).pinned ++
        flag8 (t.service k).armed.isSome)) := by
    rw [pins hb, pinCommand_done hc' hk' hk hc (pinFit_iff.2 hf), ht]
    rfl
  have released {t : State} (hb : q.body = be16 k) (hp : v.pinned.isSome = true) (ht : releasePin k s = t) :
      exec (.releasePin q) s = .next (t.replies q 0x12 .done []) := by
    rw [releases hb, releaseCommand_done hk'' hk hp, ht]
    rfl
  refine ⟨fun hb hf => ?unfit, fun hb hf hs => ?defined, fun hb hf hs hsel ha => ?selected,
    fun a hb hf hs hsel ha => ?dropped, fun hb hf hs hsel => ?armed, fun hb hp => ?unpinned, fun hb hp ha => ?kept,
    fun a hb hp ha hcause => ?released⟩
  case unfit =>
    rw [pins hb, pinCommand_refused hc' hk' hk hc (Bool.eq_false_iff.2 (mt pinFit_iff.1 hf))]
    rfl
  case defined =>
    rw [pinned hb hf (setPin_defined hs), State.service_setService_same]
    rfl
  case selected =>
    have unarmed : reply 0 = reply v.armed.isSome.toNat := by rw [ha]; rfl
    rw [pinned hb hf (setPin_selected hs hsel ha), State.service_setService_same, unarmed]
    rfl
  case dropped =>
    refine ⟨_, pinned hb hf (setPin_dropped hs hsel ha), State.service_setService_same _ _ _, rfl, ?_,
      fun j hj => State.service_setService_other _ _ _ _ hj, rfl⟩
    simp only [State.replies, State.send_acc_service, State.service_setService_same]
    rfl
  case armed =>
    refine ⟨_, pinned hb hf (setPin_armed hs hsel), State.service_setService_same _ _ _, ?_,
      fun j hj => State.service_setService_other _ _ _ _ hj, rfl⟩
    simp only [State.replies, State.service_setService_same]
    rfl
  case unpinned => rw [releases hb, releaseCommand_refused hk'' hk hp]; rfl
  case kept => exact released hb hp (releasePin_kept ha)
  case released =>
    exact ⟨_, released hb hp (releasePin_dropped ha hcause), State.service_setService_same _ _ _, rfl, rfl,
      fun j hj => State.service_setService_other _ _ _ _ hj, rfl⟩

end Sys2Proof.Machine
end

section
/-! PROOFS. Outages of a selection, and quarantine (O29, O30). -/

namespace Sys2Proof.Machine

/-! ### Eligibility, where one candidate and one service are rewritten -/

/-- The state `t` is the state `s` with candidate `c` and service `k` rewritten and arrivals sent. -/
structure Rewritten (s t : State) (c k : Nat) (y : Candidate) (w : Service) (l : List Instr) : Prop where
  candidate : t.candidate c = y
  candidates : ∀ d, d ≠ c → t.candidate d = s.candidate d
  service : t.service k = w
  services : ∀ j, j ≠ k → t.service j = s.service j
  inFlight : t.inFlight = s.inFlight ++ l
  mask : rankMask t = rankMask s
  now : t.now = s.now

namespace Rewritten
variable {s t : State} {c k : Nat} {y : Candidate} {w : Service} {l : List Instr}

theorem start (s : State) (c k : Nat) (y : Candidate) (w : Service) :
    Rewritten s ((s.setCandidate c y).setService k w) c k y w [] where
  candidate := State.candidate_setCandidate_same ..
  candidates _ hd := State.candidate_setCandidate_other _ _ _ _ hd
  service := State.service_setService_same ..
  services _ hj := State.service_setService_other _ _ _ _ hj
  inFlight := (List.append_nil _).symm
  mask := rfl
  now := rfl

theorem setService (h : Rewritten s t c k y w l) (w' : Service) : Rewritten s (t.setService k w') c k y w' l where
  candidate := h.candidate
  candidates := h.candidates
  service := State.service_setService_same ..
  services j hj := (State.service_setService_other _ _ _ _ hj).trans (h.services j hj)
  inFlight := h.inFlight
  mask := h.mask
  now := h.now

theorem send (h : Rewritten s t c k y w l) (m : List Instr) : Rewritten s (t.send m) c k y w (l ++ m) where
  candidate := h.candidate
  candidates := h.candidates
  service := h.service
  services := h.services
  inFlight := by rw [← List.append_assoc, ← h.inFlight]; rfl
  mask := h.mask
  now := h.now

theorem post (h : Rewritten s t c k y w l) (n : Notice) : Rewritten s (t.post n) c k y w (l ++ [.noticePost n s.clock]) := by
  rw [← clock_of_rankMask h.mask h.now]
  exact h.send _

theorem port (h : Rewritten s t c k y w l) (p : Nat) : t.port p = s.port p :=
  (congrArg (fun u => State.port u p) h.mask :)

theorem settings (h : Rewritten s t c k y w l) : t.settings = s.settings := (congrArg State.settings h.mask :)

/-- The judgement of another candidate stands: the minimum grade of the service is the same. -/
theorem eligible (h : Rewritten s t c k y w l) (hw : w.cfg.minGrade = (s.service k).cfg.minGrade) {d : Nat} (hd : d ≠ c) :
    t.eligible d = s.eligible d := by
  have hmin (j : Nat) : (t.service j).cfg.minGrade = (s.service j).cfg.minGrade := by
    by_cases hj : j = k
    · rw [hj, h.service, hw]
    · rw [h.services j hj]
  unfold State.eligible State.isReady State.gradePasses State.inOutage State.minimumGrade
  simp only [h.candidates d hd, h.port, hmin]

/-- The search of a rank order that leaves the candidate out. -/
theorem firstEligible (h : Rewritten s t c k y w l) (hw : w.cfg.minGrade = (s.service k).cfg.minGrade) (order : List Nat)
    {except : List Nat} (hc : c ∈ except) : t.firstEligible order except = s.firstEligible order except := by
  unfold State.firstEligible
  congr 1
  funext d
  by_cases hd : d = c
  · subst hd
    simp [hc]
  · rw [h.eligible hw hd]

end Rewritten

/-! ### Entry into quarantine (R90, R91) -/

/-- The record of a candidate that enters quarantine (R90). -/
def Candidate.quarantined (x : Candidate) (reason : QuarantineReason) (duration : Nat) : Candidate :=
  { x with quarantine := some ⟨reason, duration⟩, flaps := 0, decay := 0, demoted := false }

/-- The record of a service one of whose members enters quarantine: no challenge and no advisory for it stands (R90). -/
def Service.withoutRival (v : Service) (c : Nat) : Service := (v.dropChallenger c).dropAdvisory c

/-- A pin to the candidate is released (R91). -/
def Service.unpinned (v : Service) (c : Nat) : Service := { v with pinned := if v.pinned = some c then none else v.pinned }

theorem Service.withoutRival_eq (v : Service) (c : Nat) : v.withoutRival c = { v with
    challenger := if v.challenger = some c then none else v.challenger
    streak := if v.challenger = some c then 0 else v.streak
    attempts := if v.challenger = some c then 0 else v.attempts
    advisory := if v.advisory = some c then none else v.advisory } := by
  unfold withoutRival dropAdvisory dropChallenger
  by_cases hc : v.challenger = some c
  · by_cases ha : v.advisory = some c <;> simp [hc, ha, Service.clearChallenge]
  · by_cases ha : v.advisory = some c <;> simp [hc, ha]

section
variable {s t : State} {c k : Nat} {y : Candidate} {w : Service} {l : List Instr}

theorem enterQuarantine_owned (hk : (s.candidate c).cfg.owner = some k) (reason : QuarantineReason) (duration : Nat)
    (request : Bool) : enterQuarantine c reason duration request s = quarantineSwitching k c request
      (((s.setCandidate c ((s.candidate c).quarantined reason duration)).setService k ((s.service k).withoutRival c)).post
        (.quarantined c reason)) := by
  unfold enterQuarantine
  simp only [hk]
  rfl

/-- The service after the entry, in the state that the switching of R91 starts from. -/
theorem Rewritten.quarantined (s : State) (c k : Nat) (reason : QuarantineReason) (duration : Nat) :
    Rewritten s (((s.setCandidate c ((s.candidate c).quarantined reason duration)).setService k
      ((s.service k).withoutRival c)).post (.quarantined c reason)) c k ((s.candidate c).quarantined reason duration)
      ((s.service k).withoutRival c) [.noticePost (.quarantined c reason) s.clock] :=
  (start s c k _ _).post _

theorem withoutRival_minGrade (v : Service) : (v.withoutRival c).cfg.minGrade = v.cfg.minGrade := by
  rw [Service.withoutRival_eq]

/-- The release of the pin, the second part of R91. -/
theorem Rewritten.unpin (h : Rewritten s t c k y w l) :
    Rewritten s (if (t.service k).pinned = some c then t.setService k { t.service k with pinned := none } else t)
      c k y (w.unpinned c) l := by
  rw [h.service]
  unfold Service.unpinned
  by_cases hp : w.pinned = some c
  · rw [if_pos hp, if_pos hp]
    exact h.setService _
  · rw [if_neg hp, if_neg hp]
    exact h

/-- The last part of R91 is made for a selection of an ACTIVE service without a pin. -/
def Service.moves (v : Service) (c : Nat) : Prop := v.selected = some c ∧ v.cfg.state = .active ∧ v.pinned = none

variable (h : Rewritten s t c k y w l) (hw : w.cfg.minGrade = (s.service k).cfg.minGrade)

/-- The quarantine of a candidate after the cancellation of a switch toward it: its pin and its selection (R91). -/
def quarantineMoves (k c : Nat) (request : Bool) (t : State) : State :=
  let u := if (t.service k).pinned = some c then t.setService k { t.service k with pinned := none } else t
  if request ∧ (u.service k).selected = some c ∧ (u.service k).cfg.state = .active ∧ (u.service k).pinned = none then
    match u.firstEligible (u.service k).rank [c] with
    | some e => u.send [.switchRequest k e .urgent]
    | none => goDark k u
  else u

theorem quarantineSwitching_eq (request : Bool) : quarantineSwitching k c request t = quarantineMoves k c request
    (if ((t.service k).armed.map Armed.target) = some c then cancelSwitch k t else t) := rfl

section
include h

theorem quarantineMoves_rests {request : Bool} (hm : request = false ∨ ¬(w.unpinned c).moves c) :
    Rewritten s (quarantineMoves k c request t) c k y (w.unpinned c) l := by
  unfold quarantineMoves
  dsimp only
  rw [if_neg]
  · exact h.unpin
  · rw [h.unpin.service]
    exact fun hc => hm.elim (fun hr => nomatch hr.symm.trans hc.1) (· hc.2)

include hw

/-- The move of a selection: the state it is made from, and the search of the rank order. -/
theorem quarantineMoves_moves (hm : (w.unpinned c).moves c) : ∃ u, Rewritten s u c k y (w.unpinned c) l ∧
    quarantineMoves k c true t = match s.firstEligible w.rank [c] with
      | some e => u.send [.switchRequest k e .urgent]
      | none => goDark k u := by
  refine ⟨_, h.unpin, ?_⟩
  unfold quarantineMoves
  dsimp only
  rw [h.unpin.service, if_pos ⟨rfl, hm⟩, h.unpin.firstEligible hw _ (List.mem_singleton_self c)]
  rfl

theorem quarantineMoves_requests (hm : (w.unpinned c).moves c) {e : Nat} (he : s.firstEligible w.rank [c] = some e) :
    Rewritten s (quarantineMoves k c true t) c k y (w.unpinned c) (l ++ [.switchRequest k e .urgent]) := by
  obtain ⟨u, hu, heq⟩ := quarantineMoves_moves h hw hm
  rw [heq, he]
  exact hu.send _

theorem quarantineMoves_darkens (hm : (w.unpinned c).moves c) (he : s.firstEligible w.rank [c] = none)
    (hd : w.dark = false) : Rewritten s (quarantineMoves k c true t) c k y { w.unpinned c with dark := true }
      (l ++ [.noticePost (.dark k w.cfg.broadcast) s.clock]) := by
  obtain ⟨u, hu, heq⟩ := quarantineMoves_moves h hw hm
  have lit := goDark_lit (s := u) (k := k) (by rw [hu.service]; exact hm.2.1) (by rw [hu.service]; exact hd)
  rw [hu.service] at lit
  rw [heq, he]
  dsimp only
  rw [lit]
  exact (hu.setService _).post _

theorem quarantineMoves_dark (hm : (w.unpinned c).moves c) (he : s.firstEligible w.rank [c] = none)
    (hd : w.dark = true) : Rewritten s (quarantineMoves k c true t) c k y (w.unpinned c) l := by
  obtain ⟨u, hu, heq⟩ := quarantineMoves_moves h hw hm
  rw [heq, he]
  dsimp only
  rw [goDark_of_dark (.inr (by rw [hu.service]; exact hd))]
  exact hu

end

section
include h

/-- Without a pending switch toward the candidate nothing is cancelled. -/
theorem quarantineSwitching_uncancelled (ha : ∀ a, w.armed = some a → a.target ≠ c) (request : Bool) :
    quarantineSwitching k c request t = quarantineMoves k c request t := by
  rw [quarantineSwitching_eq, if_neg]
  intro hc
  obtain ⟨a, harmed, htarget⟩ := Option.map_eq_some_iff.1 hc
  exact ha a (h.service ▸ harmed) htarget

variable {a : Armed} (ha : w.armed = some a) (ht : a.target = c)
include ha ht

theorem quarantineSwitching_cancelled (request : Bool) :
    quarantineSwitching k c request t = quarantineMoves k c request (cancelSwitch k t) := by
  rw [quarantineSwitching_eq, if_pos]
  rw [h.service, ha, ← ht]
  rfl

omit ht in
theorem Rewritten.cancelled_plain (hc : a.cause = .first ∨ a.cause = .challenge) :
    Rewritten s (cancelSwitch k t) c k y w.called (l ++ [.leftArmedArrival k]) := by
  rw [cancelSwitch_plain (h.service ▸ ha) hc, h.service]
  exact (h.setService _).send _

omit ht in
theorem Rewritten.cancelled_pin (hc : a.cause = .pin) :
    Rewritten s (cancelSwitch k t) c k y { w.called with pinned := none } (l ++ [.leftArmedArrival k]) := by
  rw [cancelSwitch_pin (h.service ▸ ha) hc, h.service]
  exact (h.setService _).send _

include hw

theorem Rewritten.cancelled_reissued (hc : a.cause = .urgent) {e : Nat}
    (he : s.firstEligible w.rank (c :: w.selected.toList) = some e) : Rewritten s (cancelSwitch k t) c k y
      (w.armedTo e .urgent (s.now + if w.cfg.policy = .immediate then w.cfg.cleanWait else s.settings.urgentWait) 0) l := by
  have found : t.firstEligible (t.service k).rank (a.target :: (t.service k).selected.toList) = some e := by
    rw [h.service, ht, h.firstEligible hw _ List.mem_cons_self, he]
  rw [cancelSwitch_reissued (h.service ▸ ha) hc found, waitLength_urgent, h.service, h.now, h.settings]
  exact h.setService _

theorem Rewritten.cancelled_nowhere (hc : a.cause = .urgent)
    (he : s.firstEligible w.rank (c :: w.selected.toList) = none) :
    Rewritten s (cancelSwitch k t) c k y w.called (l ++ [.leftArmedArrival k]) := by
  have nowhere : t.firstEligible (t.service k).rank (a.target :: (t.service k).selected.toList) = none := by
    rw [h.service, ht, h.firstEligible hw _ List.mem_cons_self, he]
  rw [cancelSwitch_nowhere (h.service ▸ ha) hc nowhere, h.service]
  exact (h.setService _).send _

end

end

end Sys2Proof.Machine
end

section
/-! PROOFS. The obligations on outages and on quarantine (O29, O30). -/

namespace Sys2Proof.Machine

/-! ### The outage of a selection (R87, R88) -/

/-- An ACTIVE service without a pin whose selection has source `p`. -/
def State.SelectedOn (s : State) (p k : Nat) : Prop :=
  (s.service k).cfg.state = .active ∧ (s.service k).pinned = none ∧
    ∃ c, (s.service k).selected = some c ∧ (s.candidate c).cfg.source = some p

section
variable {s : State} {p : Nat}

theorem selectedOn_iff {k : Nat} : ((s.service k).cfg.state == .active && (s.service k).pinned.isNone &&
    (match (s.service k).selected with
     | some c => (s.candidate c).cfg.source == some p
     | none => false)) = true ↔ s.SelectedOn p k := by
  unfold State.SelectedOn
  cases (s.service k).selected <;> simp [and_assoc]

theorem mem_selectedOnPort {k : Nat} : k ∈ selectedOnPort s p ↔ s.SelectedOn p k := by
  refine List.mem_filter.trans ⟨fun h => selectedOn_iff.1 h.2, fun h => ⟨?_, selectedOn_iff.2 h⟩⟩
  exact mem_serviceIndices_of_state (by rw [h.1]; decide)

theorem selectedOnPort_none (h : ∀ k, ¬s.SelectedOn p k) : selectedOnPort s p = [] :=
  List.eq_nil_iff_forall_not_mem.2 fun k hk => h k (mem_selectedOnPort.1 hk)

theorem selectedOnPort_one {k : Nat} (hc : s.canonical) (hk : s.SelectedOn p k) (h : ∀ j, s.SelectedOn p j → j = k) :
    selectedOnPort s p = [k] :=
  filter_eq_singleton (serviceIndices_nodup hc) (List.mem_filter.1 (mem_selectedOnPort.2 hk)).1 (selectedOn_iff.2 hk)
    fun j _ hj => h j (selectedOn_iff.1 hj)

theorem exec_rankingOutageArrival (hr : s.phase = .running) (hp : p < 15) : exec (.rankingOutageArrival p) s =
    .next ((selectedOnPort s p).foldl outageOfService (s.take (.rankingOutageArrival p))) :=
  onPort_running hp hr fun u => (selectedOnPort u p).foldl outageOfService (u.take (.rankingOutageArrival p))

end

/-- The record of a candidate against which a flap has been counted (R87). -/
def Candidate.flapped (x : Candidate) : Candidate := { x with flaps := min 15 (x.flaps + 1), decay := 0, demoted := true }

section
variable {s : State} {c k e : Nat}

theorem countFlap_counted (hq : (s.candidate c).quarantine = none) (hf : (s.candidate c).flaps + 1 < s.settings.flapLimit) :
    countFlap c s = s.setCandidate c (s.candidate c).flapped := by
  simp [countFlap, hq, Nat.not_le.2 hf, Candidate.flapped]

theorem countFlap_quarantined (hq : (s.candidate c).quarantine = none)
    (hf : s.settings.flapLimit ≤ (s.candidate c).flaps + 1) : countFlap c s =
      enterQuarantine c .flap s.settings.quarantineDuration false (s.setCandidate c (s.candidate c).flapped) := by
  simp [countFlap, hq, hf, Candidate.flapped]

/-- A quarantine by the flap limit, of a member that no armed switch is toward and no pin names. -/
theorem enterQuarantine_flap (hk : (s.candidate c).cfg.owner = some k) (ha : ∀ a, (s.service k).armed = some a → a.target ≠ c)
    (duration : Nat) : Rewritten s (enterQuarantine c .flap duration false s) c k ((s.candidate c).quarantined .flap duration)
      (((s.service k).withoutRival c).unpinned c) [.noticePost (.quarantined c .flap) s.clock] := by
  rw [enterQuarantine_owned hk]
  have told := Rewritten.quarantined s c k .flap duration
  rw [quarantineSwitching_uncancelled told (by rw [Service.withoutRival_eq]; exact ha)]
  exact quarantineMoves_rests told (.inl rfl)

theorem outageOfService_moves (hs : (s.service k).selected = some c)
    (he : (countFlap c s).firstEligible ((countFlap c s).service k).rank [c] = some e) :
    outageOfService s k = (countFlap c s).send [.switchRequest k e .urgent] := by
  simp [outageOfService, hs, he]

theorem outageOfService_stays (hs : (s.service k).selected = some c)
    (he : (countFlap c s).firstEligible ((countFlap c s).service k).rank [c] = none)
    (hc : (countFlap c s).eligible c = false) : outageOfService s k = goDark k (countFlap c s) := by
  simp [outageOfService, hs, he, hc]

/-- A flap below the limit rewrites one candidate, and the search that leaves it out finds what it found. -/
theorem Rewritten.flapped (s : State) (c k : Nat) :
    Rewritten s (s.setCandidate c (s.candidate c).flapped) c k (s.candidate c).flapped (s.service k) [] where
  candidate := State.candidate_setCandidate_same ..
  candidates _ hd := State.candidate_setCandidate_other _ _ _ _ hd
  service := rfl
  services _ _ := rfl
  inFlight := (List.append_nil _).symm
  mask := rfl
  now := rfl

end

/-- Settles O29: one service is on the port, so the arrival is its outage handling. -/
theorem outageDemotion : Obligations.OutageDemotion := by
  intro s p hr hp hout on i u
  refine ⟨fun hnone => ?none, fun k c hcan hon hone hsel hq harmed => ?one⟩
  case none =>
    rw [exec_rankingOutageArrival hr hp, selectedOnPort_none hnone]
    rfl
  case one =>
    intro x x' u'
    have handled : exec i s = .next (outageOfService u k) := by
      rw [exec_rankingOutageArrival hr hp, selectedOnPort_one hcan hon hone]
      rfl
    have flapped : Rewritten u u' c k x' (s.service k) [] := Rewritten.flapped u c k
    have search : u'.firstEligible (s.service k).rank [c] = s.firstEligible (s.service k).rank [c] :=
      flapped.firstEligible rfl _ (List.mem_singleton_self c)
    refine ⟨fun e hf he => ?moves, fun hf he hd => ?stays, fun e hf he ho => ?quarantined⟩
    case moves =>
      have counted : countFlap c u = u' := countFlap_counted (s := u) hq hf
      rw [handled, outageOfService_moves (s := u) hsel (by rw [counted]; exact search.trans he), counted]
    case stays =>
      have counted : countFlap c u = u' := countFlap_counted (s := u) hq hf
      have inOutage : u'.eligible c = false := by
        obtain ⟨-, -, d, hd, hsource⟩ := hon
        cases hsel.symm.trans hd
        have : u'.inOutage c = true := by
          unfold State.inOutage
          rw [flapped.candidate, show x'.cfg.source = some p from hsource]
          exact hout
        simp [State.eligible, this]
      rw [handled, outageOfService_stays (s := u) hsel (by rw [counted]; exact search.trans he)
        (by rw [counted]; exact inOutage), counted, goDark_lit (s := u') hon.1 hd]
      rfl
    case quarantined =>
      have counted : countFlap c u = enterQuarantine c .flap s.settings.quarantineDuration false u' :=
        countFlap_quarantined (s := u) hq hf
      have entered := enterQuarantine_flap (s := u') (c := c) (k := k) (by rw [flapped.candidate]; exact ho)
        (fun a ha => nomatch harmed.symm.trans ha) s.settings.quarantineDuration
      rw [← counted] at entered
      have found : (countFlap c u).firstEligible ((countFlap c u).service k).rank [c] = some e := by
        rw [entered.service, entered.firstEligible (by rw [Service.withoutRival_eq]; rfl) _ (List.mem_singleton_self c),
          ← he, ← search, Service.withoutRival_eq]
        rfl
      have final := entered.send [.switchRequest k e .urgent]
      refine ⟨_, handled.trans (congrArg _ (outageOfService_moves (s := u) hsel found)), ?candidate, final.inFlight, ?selected,
        fun d hd => (final.candidates d hd).trans (flapped.candidates d hd), final.services⟩
      case candidate => rw [final.candidate, flapped.candidate]; rfl
      case selected => rw [final.service, Service.withoutRival_eq]; exact hsel

/-! ### Quarantine by request and by command (R90 to R94) -/

section
variable {s : State} {c n : Nat} {reason : QuarantineReason} {duration : Nat}

theorem quarantineCandidate_further {r : QuarantineRecord} (h : (s.candidate c).quarantine = some r) :
    quarantineCandidate c reason duration s = s.setCandidate c { s.candidate c with
      quarantine := some (if r.remaining < duration then ⟨reason, duration⟩ else r) } := by
  simp [quarantineCandidate, h, QuarantineRecord.further]

theorem quarantineCandidate_unfit (h : (s.candidate c).quarantine = none)
    (hs : (s.candidate c).cfg.state = .free ∨ (s.candidate c).cfg.state = .barred) :
    quarantineCandidate c reason duration s = s := by
  rcases hs with hs | hs <;> simp [quarantineCandidate, h, hs]

theorem quarantineCandidate_enters (h : (s.candidate c).quarantine = none)
    (hs : (s.candidate c).cfg.state = .ready ∨ (s.candidate c).cfg.state = .survey) :
    quarantineCandidate c reason duration s = enterQuarantine c reason duration true s := by
  simp [quarantineCandidate, h, hs]

end

theorem Service.moves_iff {v : Service} {c : Nat} : ¬v.moves c ↔
    v.selected ≠ some c ∨ v.cfg.state ≠ .active ∨ v.pinned ≠ none := by
  unfold Service.moves
  tauto

/-- The record of a service one of whose members has entered quarantine: nothing names the member but the selection. -/
def Service.released (v : Service) (c : Nat) : Service := (v.withoutRival c).unpinned c

theorem Service.released_eq (v : Service) (c : Nat) : v.released c = { v with
    challenger := if v.challenger = some c then none else v.challenger
    streak := if v.challenger = some c then 0 else v.streak
    attempts := if v.challenger = some c then 0 else v.attempts
    advisory := if v.advisory = some c then none else v.advisory
    pinned := if v.pinned = some c then none else v.pinned } := by
  rw [released, Service.withoutRival_eq]
  rfl

section
variable {s : State} {c k e : Nat} (h : (s.candidate c).cfg.owner = some k) (reason : QuarantineReason) (duration : Nat)
include h

section
variable (ha : ∀ a, (s.service k).armed = some a → a.target ≠ c)
include ha

theorem enterQuarantine_uncancelled : ∃ t, Rewritten s t c k ((s.candidate c).quarantined reason duration)
    ((s.service k).withoutRival c) [.noticePost (.quarantined c reason) s.clock] ∧
    enterQuarantine c reason duration true s = quarantineMoves k c true t := by
  have told := Rewritten.quarantined s c k reason duration
  refine ⟨_, told, ?_⟩
  rw [enterQuarantine_owned h, quarantineSwitching_uncancelled told (by rw [Service.withoutRival_eq]; exact ha)]

theorem enterQuarantine_rests (hm : ¬((s.service k).released c).moves c) :
    Rewritten s (enterQuarantine c reason duration true s) c k ((s.candidate c).quarantined reason duration)
      ((s.service k).released c) [.noticePost (.quarantined c reason) s.clock] := by
  obtain ⟨t, ht, heq⟩ := enterQuarantine_uncancelled h reason duration ha
  rw [heq]
  exact quarantineMoves_rests ht (.inr hm)

variable (hm : ((s.service k).released c).moves c)
include hm

theorem enterQuarantine_requests (he : s.firstEligible (s.service k).rank [c] = some e) :
    Rewritten s (enterQuarantine c reason duration true s) c k ((s.candidate c).quarantined reason duration)
      ((s.service k).released c) [.noticePost (.quarantined c reason) s.clock, .switchRequest k e .urgent] := by
  obtain ⟨t, ht, heq⟩ := enterQuarantine_uncancelled h reason duration ha
  rw [heq]
  exact quarantineMoves_requests ht (withoutRival_minGrade _) hm (by rw [Service.withoutRival_eq]; exact he)

variable (he : s.firstEligible (s.service k).rank [c] = none)
include he

theorem enterQuarantine_darkens (hd : (s.service k).dark = false) :
    Rewritten s (enterQuarantine c reason duration true s) c k ((s.candidate c).quarantined reason duration)
      { (s.service k).released c with dark := true }
      [.noticePost (.quarantined c reason) s.clock, .noticePost (.dark k (s.service k).cfg.broadcast) s.clock] := by
  obtain ⟨t, ht, heq⟩ := enterQuarantine_uncancelled h reason duration ha
  have := quarantineMoves_darkens ht (withoutRival_minGrade _) hm (by rw [Service.withoutRival_eq]; exact he)
    (by rw [Service.withoutRival_eq]; exact hd)
  rw [heq]
  rw [show ((s.service k).withoutRival c).cfg.broadcast = (s.service k).cfg.broadcast by rw [Service.withoutRival_eq]] at this
  exact this

theorem enterQuarantine_dark (hd : (s.service k).dark = true) :
    Rewritten s (enterQuarantine c reason duration true s) c k ((s.candidate c).quarantined reason duration)
      ((s.service k).released c) [.noticePost (.quarantined c reason) s.clock] := by
  obtain ⟨t, ht, heq⟩ := enterQuarantine_uncancelled h reason duration ha
  rw [heq]
  exact quarantineMoves_dark ht (withoutRival_minGrade _) hm (by rw [Service.withoutRival_eq]; exact he)
    (by rw [Service.withoutRival_eq]; exact hd)

end

section
variable {a : Armed} (ha : (s.service k).armed = some a) (ht : a.target = c) (hs : (s.service k).selected ≠ some c)
include ha ht hs

/-- A pending switch toward the member is cancelled; what the cancellation leaves only loses its pin. -/
theorem enterQuarantine_cancelled {w : Service} {l : List Instr} (hw : w.selected = (s.service k).selected)
    (hcancel : ∀ t, ((s.service k).withoutRival c).armed = some a →
      Rewritten s t c k ((s.candidate c).quarantined reason duration) ((s.service k).withoutRival c)
        [.noticePost (.quarantined c reason) s.clock] →
      Rewritten s (cancelSwitch k t) c k ((s.candidate c).quarantined reason duration) w l) :
    Rewritten s (enterQuarantine c reason duration true s) c k ((s.candidate c).quarantined reason duration)
      (w.unpinned c) l := by
  have told := Rewritten.quarantined s c k reason duration
  have armed : ((s.service k).withoutRival c).armed = some a := by rw [Service.withoutRival_eq]; exact ha
  rw [enterQuarantine_owned h, quarantineSwitching_cancelled told armed ht]
  exact quarantineMoves_rests (hcancel _ armed told) (.inr fun hm => hs (hw ▸ hm.1))

end

end

section
variable {s : State} {b : List Byte} {c n : Nat} (hc : beAt b 0 2 = c) (hc' : c < 2048)

section
variable (hn : beAt b 2 2 = n) (hn' : 1 ≤ n)
include hc hc' hn hn'

theorem quarantineCommand_refused (h : (s.candidate c).cfg.state = .free ∨ (s.candidate c).cfg.state = .barred) :
    quarantineCommand b s = .refused .state := by
  subst hc hn
  unfold quarantineCommand
  rw [if_neg (by omega), if_pos h]

theorem quarantineCommand_done {q : QuarantineRecord}
    (h : (s.candidate c).cfg.state = .ready ∨ (s.candidate c).cfg.state = .survey)
    (hq : ((quarantineCandidate c .manual n s).candidate c).quarantine = some q) :
    quarantineCommand b s =
      .done (be8 (quarantineCode q.reason) ++ be16 q.remaining) (quarantineCandidate c .manual n s) := by
  subst hc hn
  have unfit : ¬((s.candidate (beAt b 0 2)).cfg.state = .free ∨ (s.candidate (beAt b 0 2)).cfg.state = .barred) := by
    rcases h with h | h <;> simp [h]
  unfold quarantineCommand
  rw [if_neg (by omega), if_neg unfit]
  simp only [hq]

end

include hc hc'

theorem liftCommand_refused (h : (s.candidate c).quarantine = none) : liftCommand b s = .refused .state := by
  subst hc
  simp [liftCommand, h, Nat.not_le.2 hc']

theorem liftCommand_done (h : (s.candidate c).quarantine.isSome = true) : liftCommand b s = .done [] (endQuarantine c s) := by
  subst hc
  simp [liftCommand, Nat.not_le.2 hc', Option.isSome_iff_ne_none.1 h]

end

/-- Two numbers of two octets, read back. -/
theorem beAt_be16_append (m : Nat) {n : Nat} (hn : n < 65536) : beAt (be16 m ++ be16 n) 2 2 = n :=
  (beAt_append (be16 m) (be16 n) 0 2).trans (by simpa using beAt_be16 hn [])

theorem beAt_be16_alone {n : Nat} (hn : n < 65536) : beAt (be16 n) 0 2 = n := by simpa using beAt_be16 hn []

/-- Settles O30: the entry by R90 and R91, then the commands that make and end one. -/
theorem quarantineEntry : Obligations.QuarantineEntry := by
  intro s c k n q hr hc hn hn' x i entered v wait dropped enters leaves named
  have requested : exec i s = .next (quarantineCandidate c .directory s.settings.quarantineDuration (s.take i)) :=
    (onCandidate_of_lt hc _).trans (whenRunning_next hr fun u =>
      quarantineCandidate c .directory u.settings.quarantineDuration (u.take i))
  have isDropped : v.released c = dropped := Service.released_eq v c
  have leaving (he : enters) {w : Service} {l : List Instr} (ht : Rewritten (s.take i)
      (enterQuarantine c .directory s.settings.quarantineDuration true (s.take i)) c k
      (entered .directory s.settings.quarantineDuration) w (.noticePost (.quarantined c .directory) s.clock :: l)) :
      leaves w l :=
    ⟨_, requested.trans (congrArg _ (quarantineCandidate_enters (s := s.take i) he.2.1 he.1)), ht.candidate, ht.candidates,
      ht.service, ht.services, ht.inFlight⟩
  have moves (hsel : v.selected = some c) (hs : v.cfg.state = .active) (hp : dropped.pinned = none) :
      (v.released c).moves c := by rw [isDropped]; exact ⟨hsel, hs, hp⟩
  have hcand : beAt named 0 2 = c := beAt_be16 (by omega) _
  have hduration : beAt named 2 2 = n := beAt_be16_append c hn'
  have quarantines (h : s.takesCommand) (hl : s.admitsLevel q.level 1) (hb : q.body = named) :
      exec (.quarantine q) s = .next (answer (goodRecord 0x13 q) s (quarantineCommand named s)) :=
    hb ▸ exec_checked h (by rw [hb]; rfl) hl 0x13 (quarantineCommand q.body)
  have lifts (h : s.takesCommand) (hl : s.admitsLevel q.level 1) (hb : q.body = be16 c) :
      exec (.liftQuarantine q) s = .next (answer (goodRecord 0x14 q) s (liftCommand (be16 c) s)) :=
    hb ▸ exec_checked h (by rw [hb]; rfl) hl 0x14 (liftCommand q.body)
  refine ⟨fun hs hq => ?unfit, fun r hq => ?further, fun he hm ha => ?rests, fun e he hsel hs hp ha hf => ?requests,
    fun he hsel hs hp ha hf => ⟨fun hd => ?darkens, fun hd => ?dark⟩, fun a he ha ht hsel => ?cancels,
    fun h hl hb hs hq ho hsel hpin ha => ?command, fun h hl hb hs => ?refused, fun h hl hb hq => ?lifted,
    fun h hl hb hq => ?notLifted⟩
  case unfit => exact requested.trans (congrArg _ (quarantineCandidate_unfit (s := s.take i) hq hs))
  case further => exact requested.trans (congrArg _ (quarantineCandidate_further (s := s.take i) hq))
  case rests =>
    have hm : ¬(v.released c).moves c := by rw [isDropped]; exact Service.moves_iff.2 hm
    exact isDropped ▸ leaving he (enterQuarantine_rests (s := s.take i) he.2.2 _ _ ha hm)
  case requests =>
    exact isDropped ▸ leaving he (enterQuarantine_requests (s := s.take i) he.2.2 _ _ ha (moves hsel hs hp) hf)
  case darkens =>
    exact isDropped ▸ leaving he (enterQuarantine_darkens (s := s.take i) he.2.2 _ _ ha (moves hsel hs hp) hf hd)
  case dark =>
    exact isDropped ▸ leaving he (enterQuarantine_dark (s := s.take i) he.2.2 _ _ ha (moves hsel hs hp) hf hd)
  case cancels =>
    have min := withoutRival_minGrade (c := c) v
    have selected : (v.withoutRival c).selected = v.selected := by rw [Service.withoutRival_eq]
    have steady : ((v.withoutRival c).called).unpinned c = { dropped with armed := none, attempts := 0 } := by
      rw [Service.withoutRival_eq]
      rfl
    have pinless : ({ (v.withoutRival c).called with pinned := none } : Service).unpinned c =
        { dropped with armed := none, attempts := 0, pinned := none } := by
      rw [Service.withoutRival_eq]
      rfl
    have reissue (e : Nat) : ((v.withoutRival c).armedTo e .urgent
        (s.now + if (v.withoutRival c).cfg.policy = .immediate then (v.withoutRival c).cfg.cleanWait
          else s.settings.urgentWait) 0).unpinned c =
        { dropped with armed := some ⟨e, .urgent, s.now + wait⟩, attempts := 0 } := by
      rw [Service.withoutRival_eq]
      rfl
    have search : s.firstEligible (v.withoutRival c).rank (c :: (v.withoutRival c).selected.toList) =
        s.firstEligible v.rank (c :: v.selected.toList) := by rw [Service.withoutRival_eq]
    have cancelled (w : Service) {l : List Instr} (hw : w.selected = v.selected) (hcancel : _) :=
      leaving he (l := l) (enterQuarantine_cancelled (s := s.take i) he.2.2 .directory _ ha ht hsel (w := w) hw hcancel)
    refine ⟨fun hcause => ?plain, fun hcause => ?pin, fun e hcause hf => ?reissued, fun hcause hf => ?nowhere⟩
    case plain => exact steady ▸ cancelled _ selected fun t harmed h => h.cancelled_plain harmed hcause
    case pin =>
      rw [← pinless]
      exact cancelled { (v.withoutRival c).called with pinned := none } selected fun t harmed h =>
        h.cancelled_pin harmed hcause
    case reissued =>
      rw [← reissue]
      exact cancelled _ selected fun t harmed h => h.cancelled_reissued min harmed ht hcause (search.trans hf)
    case nowhere =>
      rw [← steady]
      exact cancelled _ selected fun t harmed h => h.cancelled_nowhere min harmed ht hcause (search.trans hf)
  case command =>
    have unmoved : ¬(v.released c).moves c := by
      rw [isDropped]
      exact fun hm => hsel hm.1
    have manual := enterQuarantine_rests ho .manual n ha unmoved
    rw [← quarantineCandidate_enters hq hs] at manual
    have done := quarantineCommand_done hcand hc hduration hn hs (q := ⟨.manual, n⟩) (by rw [manual.candidate]; rfl)
    exact ⟨_, (quarantines h hl hb).trans (congrArg _ (congrArg _ done)), manual.candidate, manual.candidates, manual.inFlight,
      rfl⟩
  case refused => rw [quarantines h hl hb, quarantineCommand_refused hcand hc hduration hn hs]; rfl
  case lifted => rw [lifts h hl hb, liftCommand_done (beAt_be16_alone (by omega)) hc hq]; rfl
  case notLifted => rw [lifts h hl hb, liftCommand_refused (beAt_be16_alone (by omega)) hc hq]; rfl

end Sys2Proof.Machine
end

section
/-! PROOFS. The Output Composer and the Probe Tap: admission of forwarded packets, the tap, and the arbiter (O45 to O47,
O49). -/

namespace Sys2Proof.Machine

/-! ### A packet with another lane and counter (section 10.9) -/

/-- An octet whose high bits carry a number and whose low `i` bits are those of another octet. -/
theorem shiftLeft_or_low {x i : Nat} (h : x * 2 ^ i < 256) (b : Nat) :
    (x % 256) <<< i % 256 ||| b &&& 2 ^ i - 1 = 2 ^ i * x + b % 2 ^ i := by
  have hx : x % 256 = x := Nat.mod_eq_of_lt ((Nat.le_mul_of_pos_right x (Nat.two_pow_pos i)).trans_lt h)
  rw [hx, Nat.and_two_pow_sub_one_eq_mod, Nat.mod_eq_of_lt (by rwa [Nat.shiftLeft_eq]),
    ← Nat.shiftLeft_add_eq_or_of_lt (Nat.mod_lt _ (Nat.two_pow_pos i)), Nat.shiftLeft_eq, Nat.mul_comm]

/-- The octet that carries the low bits of the lane: the lane's five bits, and the three bits of octet 2 that stay. -/
theorem laneOctet_toNat {a : Nat} (h : a < 32) (b : Byte) :
    (BitVec.ofNat 8 a <<< 3 ||| b &&& 7).toNat = 8 * a + b.toNat % 8 := by
  simp only [BitVec.toNat_or, BitVec.toNat_shiftLeft, BitVec.toNat_and, BitVec.toNat_ofNat]
  exact shiftLeft_or_low (i := 3) (by omega) b.toNat

/-- The octet that carries the sequence counter: its four bits, and the four bits of octet 3 that stay. -/
theorem seqOctet_toNat (n : BitVec 4) (b : Byte) :
    (n.zeroExtend 8 <<< 4 ||| b &&& 0x0F).toNat = 16 * n.toNat + b.toNat % 16 := by
  have hn : n.toNat < 16 := n.isLt
  simp only [BitVec.toNat_or, BitVec.toNat_shiftLeft, BitVec.toNat_and, BitVec.truncate_eq_setWidth, BitVec.toNat_setWidth]
  exact shiftLeft_or_low (i := 4) (by omega) b.toNat

/-- What a packet with another lane and counter keeps and what it carries. -/
structure Stamped (lane : Nat) (n : BitVec 4) (p q : Packet) : Prop where
  length : q.length = p.length
  lane : laneOf q = lane
  seq : seqOf q = n.toNat
  damaged : isDamaged q = isDamaged p
  start : isStart q = isStart p
  priority : (q.getD 2 0).getLsbD 0 = (p.getD 2 0).getLsbD 0
  adaptation : adaptationOf q = adaptationOf p
  control : octetAt q 3 % 4 = octetAt p 3 % 4
  sync : q.take 1 = p.take 1
  rest : q.drop 4 = p.drop 4

theorem stamped {lane : Nat} {p : Packet} (hp : 4 ≤ p.length) (hl : lane < 8192) (n : BitVec 4) :
    Stamped lane n p (setSeq n (setLane lane p)) := by
  match p, hp with
  | b0 :: b1 :: b2 :: b3 :: l, _ =>
    have hlow := laneOctet_toNat (Nat.mod_lt lane (show 0 < 32 by decide)) b2
    have hseq := seqOctet_toNat n b3
    have hhigh : (BitVec.ofNat 8 (lane / 32)).toNat = lane / 32 := Nat.mod_eq_of_lt (by omega)
    have hb3 := b3.isLt
    have kept (i : Nat) (hi : i < 3) : (BitVec.ofNat 8 (lane % 32) <<< 3 ||| b2 &&& 7).getLsbD i = b2.getLsbD i := by
      have hseven : BitVec.getLsbD (7 : Byte) i = true := by
        match i, hi with
        | 0, _ | 1, _ | 2, _ => rfl
      rw [BitVec.getLsbD_or, BitVec.getLsbD_shiftLeft, BitVec.getLsbD_and, hseven]
      simp [hi]
    refine ⟨rfl, ?lane, ?seq, kept 2 (by decide), kept 1 (by decide), kept 0 (by decide), ?adaptation, ?control, rfl, rfl⟩
    case lane =>
      show (BitVec.ofNat 8 (lane / 32)).toNat * 32 + (BitVec.ofNat 8 (lane % 32) <<< 3 ||| b2 &&& 7).toNat / 8 = lane
      omega
    case seq =>
      show (n.zeroExtend 8 <<< 4 ||| b3 &&& 0x0F).toNat / 16 = n.toNat
      omega
    case adaptation =>
      show (n.zeroExtend 8 <<< 4 ||| b3 &&& 0x0F).toNat / 4 % 4 = b3.toNat / 4 % 4
      omega
    case control =>
      show (n.zeroExtend 8 <<< 4 ||| b3 &&& 0x0F).toNat % 4 = b3.toNat % 4
      omega

/-! ### The admission of a forwarded packet (R146, R148, R149) -/

section
variable {s : State} {k j : Nat} {advance : Bool} {packet : Packet}

theorem admitForward_dropped (h : 256 ≤ s.forwardQueue.length) : admitForward k j advance packet s =
    (s.setService k { s.service k with forwardDrops := satAdd top32 (s.service k).forwardDrops 1 }).raise
      (.outputOverrun k) := if_neg (Nat.not_lt.mpr h)

/-- The counter that an admitted packet takes (R148). -/
def Service.nextCounter (v : Service) (j : Nat) (advance : Bool) : BitVec 4 :=
  if advance then slotCounter v j + 1 else slotCounter v j

theorem admitForward_queued (h : s.forwardQueue.length < 256) : admitForward k j advance packet s =
    { s.setService k { s.service k with
        slotCounters := (s.service k).slotCounters.set j ((s.service k).nextCounter j advance) } with
      forwardQueue := s.forwardQueue ++
        [setSeq ((s.service k).nextCounter j advance) (setLane ((s.service k).cfg.base + j) packet)] } := if_pos h

theorem exec_forwardAdmission (hr : s.phase = .running) (hk : k < 512) (hj : j < 8) (hp : packet.length = 188) :
    exec (.forwardAdmission k j advance packet) s =
      .next (admitForward k j advance packet (s.take (.forwardAdmission k j advance packet))) := by
  have dispatch : exec (.forwardAdmission k j advance packet) s = execForwardAdmission k j advance packet s := rfl
  rw [dispatch, execForwardAdmission, onService_of_lt hk, onSlot_of_lt hj, onPacket_of_length hp, whenRunning_next hr]

end

/-- Settles O45: a full queue drops the packet; a queue with a place takes it with its new lane and counter. -/
theorem forwardAdmission : Obligations.ForwardAdmission := by
  intro s k j advance packet hr hk hj hp v i n
  refine ⟨fun hfull => ?dropped, fun hroom hlane => ?queued⟩
  case dropped =>
    rw [exec_forwardAdmission hr hk hj hp, admitForward_dropped (by simpa using hfull)]
    rfl
  case queued =>
    have h := stamped (lane := v.cfg.base + j) (p := packet) (by omega) hlane n
    refine ⟨_, setSeq n (setLane (v.cfg.base + j) packet),
      (exec_forwardAdmission hr hk hj hp).trans (congrArg _ (admitForward_queued (by simpa using hroom))), rfl,
      State.service_setService_same .., fun m hm => State.service_setService_other _ _ _ _ hm, h.length.trans hp, h.lane,
      h.seq, h.damaged, h.start, h.priority, h.adaptation, h.control, h.sync, h.rest, rfl⟩

/-! ### The Probe Tap (R153, R154, R156) -/

section
variable {s : State} {p : Nat} {packet : Packet}

theorem Tap.covers_iff {t : Tap} {lane : Nat} : t.covers lane = true ↔ t.lane = none ∨ t.lane = some lane := by
  unfold Tap.covers
  cases t.lane <;> simp

theorem offerTap_passed (h : ¬(s.tap.running = true ∧ s.tap.port = p ∧ s.tap.covers (laneOf packet) = true)) :
    offerTap p packet s = s := by
  refine if_pos ((Bool.not_eq_true' _).mpr (Bool.eq_false_iff.mpr fun hc => h ?_))
  simpa only [Bool.and_eq_true, beq_iff_eq, and_assoc] using hc

theorem offerTap_skipped (h : s.tap.running = true ∧ s.tap.port = p ∧ s.tap.covers (laneOf packet) = true)
    (hroom : ¬(0 < freeInserts s ∧ tapCopies s < 12)) :
    offerTap p packet s = { s with tap := { s.tap with skipped := satAdd 65535 s.tap.skipped 1 } } := by
  have hcovered : ¬(!(s.tap.running && s.tap.port == p && s.tap.covers (laneOf packet))) = true := by simp [h]
  rw [offerTap, if_neg hcovered, if_neg hroom]

end

/-- Settles O46: the offer passes, is skipped, is copied, or is copied as the last. -/
theorem tapOffer : Obligations.TapOffer := by
  intro s p packet hr hp hk i covered room n copied
  have hroom : room ↔ 0 < freeInserts s ∧ tapCopies s < 12 := and_congr_left' freeInserts_pos.symm
  have hcovered : covered ↔ s.tap.running = true ∧ s.tap.port = p ∧ s.tap.covers (laneOf packet) = true :=
    and_congr_right' (and_congr_right' Tap.covers_iff.symm)
  have copies (hc : covered) (hm : room) : s.Copies p packet := by
    obtain ⟨hrun, hport, hlane⟩ := hcovered.mp hc
    exact ⟨hrun, hport, hlane, hroom.mp hm⟩
  refine ⟨fun hc => ?passed, fun hc hm => ?skipped, fun hc hm hs => ?copied, fun hc hm hs => ?completed⟩
  case passed => exact (exec_tapOffer hr hp hk).trans (congrArg _ (offerTap_passed (mt hcovered.mpr hc)))
  case skipped =>
    exact (exec_tapOffer hr hp hk).trans (congrArg _ (offerTap_skipped (hcovered.mp hc) (mt hroom.mpr hm)))
  case copied => exact exec_tapOffer_copied hr hp hk (copies hc hm) hs
  case completed => exact exec_tapOffer_completed hr hp hk (copies hc hm) hs

section
variable {s : State} {b : List Byte}

theorem startTap_range (h : 13 < octetAt b 0 ∨ (8190 < beAt b 1 2 ∧ beAt b 1 2 ≠ 0xFFFF) ∨ beAt b 3 2 = 0) :
    startTap b s = .refused .range := if_pos h

section
variable (h : ¬(13 < octetAt b 0 ∨ (8190 < beAt b 1 2 ∧ beAt b 1 2 ≠ 0xFFFF) ∨ beAt b 3 2 = 0))
include h

theorem startTap_busy (hr : s.tap.running = true) : startTap b s = .refused .busy := by
  rw [startTap, if_neg h, if_pos hr]

theorem startTap_started (hr : s.tap.running = false) : startTap b s =
    .done (be8 (octetAt b 0) ++ be16 (beAt b 1 2) ++ be16 (beAt b 3 2) ++ be16 s.tap.made ++ be16 s.tap.skipped)
      { s with
        tap := ⟨true, octetAt b 0, if beAt b 1 2 = 0xFFFF then none else some (beAt b 1 2), beAt b 3 2, 0, 0⟩
        inFlight := s.inFlight.filter fun i => !isTapOffer i } := by
  rw [startTap, if_neg h, if_neg (Bool.eq_false_iff.mp hr)]

end

theorem stopTap_idle (hr : s.tap.running = false) : stopTap s = .refused .state := by simp [stopTap, hr]
theorem stopTap_stopped (hr : s.tap.running = true) :
    stopTap s = .done (be16 s.tap.made ++ be16 s.tap.skipped) (endTap .stopped s) := by simp [stopTap, hr]

theorem exec_startTap {c : Cmd} (h : s.takesCommand) (hb : c.body.length = 5) (hl : s.admitsLevel c.level 1) :
    exec (.startTap c) s = .next (answer (goodRecord 0x38 c) s (startTap c.body s)) :=
  exec_checked h hb hl 0x38 (startTap c.body)

theorem exec_stopTap {c : Cmd} (h : s.takesCommand) (hb : c.body = []) (hl : s.admitsLevel c.level 1) :
    exec (.stopTap c) s = .next (answer (goodRecord 0x3A c) s (stopTap s)) :=
  exec_checked h (List.length_eq_zero_iff.mpr hb) hl 0x3A stopTap

end

/-- Settles O49: the verdicts of START TAP and STOP TAP by case. -/
theorem tapStartedAndStopped : Obligations.TapStartedAndStopped := by
  intro s c p lane stop h hl hp hlane hstop named good
  have starts (hb : named) : exec (.startTap c) s = .next (answer (goodRecord 0x38 c) s (startTap c.body s)) :=
    exec_startTap h (by rw [hb]; rfl) hl
  have fields (hb : named) : octetAt c.body 0 = p ∧ beAt c.body 1 2 = lane ∧ beAt c.body 3 2 = stop := by
    rw [hb, List.append_assoc]
    have htail := beAt_be16 hstop []
    rw [List.append_nil] at htail
    exact ⟨octetAt_be8 hp _, (beAt_append (be8 p) _ 0 2).trans (beAt_be16 hlane _),
      (beAt_append (be8 p) _ 2 2).trans ((beAt_append (be16 lane) _ 0 2).trans htail)⟩
  have bad (hb : named) : (13 < octetAt c.body 0 ∨ (8190 < beAt c.body 1 2 ∧ beAt c.body 1 2 ≠ 0xFFFF) ∨
      beAt c.body 3 2 = 0) ↔ ¬good := by
    obtain ⟨hport, hlaneAt, hstopAt⟩ := fields hb
    rw [hport, hlaneAt, hstopAt]
    show _ ↔ ¬(p ≤ 13 ∧ (lane ≤ 8190 ∨ lane = 65535) ∧ 1 ≤ stop)
    omega
  refine ⟨fun hb hg => ?range, fun hb hg hr => ?busy, fun hb hg hr => ?started, fun hb hr => ?idle, fun hb hr => ?stopped⟩
  case range => rw [starts hb, startTap_range ((bad hb).mpr hg)]; rfl
  case busy => rw [starts hb, startTap_busy (not_imp_not.mpr (bad hb).mp (not_not.mpr hg)) hr]; rfl
  case started =>
    obtain ⟨hport, hlaneAt, hstopAt⟩ := fields hb
    have hoffers : s.inFlight.filter (fun i => !isTapOffer i) =
        s.inFlight.filter fun i => match i with | .tapOffer _ _ => false | _ => true :=
      List.filter_congr fun i _ => by cases i <;> rfl
    rw [starts hb, startTap_started (not_imp_not.mpr (bad hb).mp (not_not.mpr hg)) hr, hport, hlaneAt, hstopAt, hoffers, hb]
    rfl
  case idle => rw [exec_stopTap h hb hl, stopTap_idle hr]; rfl
  case stopped => rw [exec_stopTap h hb hl, stopTap_stopped hr]; rfl

/-! ### The arbiter (R152) -/

section
variable {s : State} {i : Insert} {rest : List Insert} {f : Packet} {more : List Packet}

theorem choose_insert (h : s.insertQueue = i :: rest) (hc : 32 ≤ i.age ∨ s.forwardQueue = []) :
    choose s = .insert i rest := by
  unfold choose
  cases hf : s.forwardQueue with
  | nil => simp only [h]
  | cons p more =>
    have hage : 32 ≤ i.age := hc.resolve_right (by simp [hf])
    simp only [h, hage, if_true]

theorem choose_forward (h : ∀ x ∈ s.insertQueue.head?, x.age < 32) (hf : s.forwardQueue = f :: more) :
    choose s = .forward f more := by
  unfold choose
  cases hi : s.insertQueue with
  | nil => simp only [hf]
  | cons i rest =>
    have hage : ¬32 ≤ i.age := Nat.not_le.mpr (h i (by rw [hi]; rfl))
    simp only [hf, hage, if_false]

theorem choose_null (h : s.insertQueue = []) (hf : s.forwardQueue = []) : choose s = .null := by
  unfold choose
  simp only [h, hf]

theorem choosesRestartReply_insert (h : choose s = .insert i rest) : choosesRestartReply s = (i.kind == .restartReply) := by
  unfold choosesRestartReply
  rw [h]

/-- The insert chosen, if any, is the oldest. -/
theorem choosesRestartReply_false (h : ∀ x ∈ s.insertQueue.head?, x.kind ≠ .restartReply) :
    choosesRestartReply s = false := by
  unfold choosesRestartReply choose
  cases hi : s.insertQueue with
  | nil => cases hf : s.forwardQueue <;> rfl
  | cons i rest =>
    have hkind : (i.kind == .restartReply) = false := beq_false_of_ne (h i (by rw [hi]; rfl))
    cases hf : s.forwardQueue with
    | nil => exact hkind
    | cons p more =>
      dsimp only
      split
      · rename_i chosen
        split at chosen
        · cases chosen
          exact hkind
        · exact nomatch chosen
      · rfl

theorem exec_outputSlot_running (hr : s.phase = .running) (time : Nat) :
    exec (.outputSlot time) s = .next (runningSlot (s.atTime time)) := by
  have dispatch : exec (.outputSlot time) s = .next (outputSlot (s.atTime time)) := rfl
  have hphase : (s.atTime time).phase = .running := hr
  rw [dispatch, outputSlot, hphase]

theorem runningSlot_sends (h : choosesRestartReply s = false) : runningSlot s = sendChoice s := by
  rw [runningSlot, h, if_neg Bool.false_ne_true]

end

/-- Settles O47: the slot by the arbiter's choice and by the phase. -/
theorem arbiter : Obligations.Arbiter := by
  intro s time i rest f more u aged null
  have slot (hr : s.phase = .running) {x : Choice} (hx : choose (s.atTime time) = x)
      (hk : choosesRestartReply (s.atTime time) = false) : exec (.outputSlot time) s = .next (sendChoice (s.atTime time)) := by
    rw [exec_outputSlot_running hr, runningSlot_sends hk]
  refine ⟨fun hr hi hk hc => ?insert, fun hr hi hf => ?forward, fun hr hi hf => ?null, fun hp => ?starting, fun hp => ?off,
    fun hr hk => ?norestart⟩
  case insert =>
    have hchoice : choose (s.atTime time) = .insert i rest := choose_insert hi hc
    rw [slot hr hchoice ((choosesRestartReply_insert hchoice).trans (beq_false_of_ne hk)), sendChoice, hchoice]
    rfl
  case forward =>
    have hchoice : choose (s.atTime time) = .forward f more := choose_forward hi hf
    rw [slot hr hchoice (by unfold choosesRestartReply; rw [hchoice]), sendChoice, hchoice]
    rfl
  case null =>
    have hchoice : choose (s.atTime time) = .null := choose_null hi hf
    rw [slot hr hchoice (by unfold choosesRestartReply; rw [hchoice]), sendChoice, hchoice]
    have hnone : ageInserts (s.atTime time).insertQueue = [] := congrArg ageInserts hi
    dsimp only
    rw [hnone]
    rfl
  case starting =>
    have dispatch : exec (.outputSlot time) s = .next (outputSlot (s.atTime time)) := rfl
    have hphase : (s.atTime time).phase = .starting := hp
    rw [dispatch, outputSlot, hphase]
    rfl
  case off =>
    have dispatch : exec (.outputSlot time) s = .next (outputSlot (s.atTime time)) := rfl
    have hphase : (s.atTime time).phase = .off := hp
    rw [dispatch, outputSlot, hphase]
  case norestart =>
    have dispatch : exec (.restartTakesEffect time) s = execRestartTakesEffect time s := rfl
    rw [dispatch, execRestartTakesEffect, whenRunning_next hr, choosesRestartReply_false hk, if_neg Bool.false_ne_true]

end Sys2Proof.Machine
end

section
/-! PROOFS. The placement of replies and reports, and the octets of the records they carry (O48). -/

namespace Sys2Proof.Machine

/-! ### The placements (R150, R151, R159, R173) -/

section
variable {s : State} {r : Reply}

theorem exec_replyPlacement (hr : s.phase = .running) : exec .replyPlacement s = .next (placeReply s) :=
  whenRunning_next hr placeReply

theorem exec_reportPlacement (hr : s.phase = .running) : exec .reportPlacement s = .next (placeReport s) :=
  whenRunning_next hr placeReport

theorem placeReply_placed (h : s.replyInHand = some r) (hroom : s.insertQueue.length < 16) : placeReply s =
    placeOnReportLane (if s.restart.isSome then .restartReply else .reply) (replyOctets r) { s with replyInHand := none } := by
  unfold placeReply
  simp only [h, freeInserts_pos.mpr hroom, if_true]

theorem placeReply_waits (h : s.replyInHand = none ∨ 16 ≤ s.insertQueue.length) : placeReply s = s := by
  unfold placeReply
  cases hr : s.replyInHand with
  | none => rfl
  | some r =>
    have hfull : 16 ≤ s.insertQueue.length := h.resolve_left (by simp [hr])
    exact if_neg (mt freeInserts_pos.mp (Nat.not_lt.mpr hfull))

/-- The places that a waiting reply keeps from the report packets (R150). -/
def State.keptPlaces (s : State) : Nat := if s.replyInHand.isSome then 1 else 0

theorem placeReport_placed (h : s.noticeQueue ≠ []) (hroom : s.keptPlaces < freeInserts s) : placeReport s =
    placeOnReportLane .report (reportOctets (s.noticeQueue.take 8)) { s with noticeQueue := s.noticeQueue.drop 8 } :=
  if_pos ⟨h, hroom⟩

theorem placeReport_waits (h : s.noticeQueue = [] ∨ freeInserts s ≤ s.keptPlaces) : placeReport s = s :=
  if_neg fun ⟨hn, hf⟩ => h.elim hn (Nat.not_le.mpr hf)

theorem keptPlaces_none (h : s.replyInHand = none) : s.keptPlaces = 0 := by simp [State.keptPlaces, h]
theorem keptPlaces_some (h : s.replyInHand.isSome = true) : s.keptPlaces = 1 := by simp [State.keptPlaces, h]

end

/-! ### The packet of a record (R151) -/

section
variable (record : List Byte)

/-- The packet of a record before its lane and counter are set. -/
def blankInsert (record : List Byte) : Packet :=
  [0x47, 0, 0x02, 0x04] ++ record ++ List.replicate (184 - record.length) 0xFF

theorem blankInsert_length {record : List Byte} (h : record.length ≤ 184) : (blankInsert record).length = 188 := by
  rw [blankInsert, List.length_append, List.length_append, List.length_replicate, List.length_cons, List.length_cons,
    List.length_cons, List.length_singleton]
  omega

theorem isStart_blankInsert : isStart (blankInsert record) = true := (by decide : BitVec.getLsbD (2 : Byte) 1 = true)
theorem isDamaged_blankInsert : isDamaged (blankInsert record) = false := (by decide : BitVec.getLsbD (2 : Byte) 2 = false)
theorem adaptationOf_blankInsert : adaptationOf (blankInsert record) = 1 := (by decide : BitVec.toNat (4 : Byte) / 4 % 4 = 1)

theorem insertPacket_stamped {lane : Nat} {record : List Byte} (hl : lane < 8192) (h : record.length ≤ 184) (n : BitVec 4) :
    Stamped lane n (blankInsert record) (insertPacket lane n record) :=
  stamped (by rw [blankInsert_length h]; decide) hl n

theorem payloadOf_plain {p : Packet} (h : adaptationOf p = 1) : payloadOf p = p.drop 4 := by
  simp [payloadOf, saysNoPayload, h]

end

/-! ### Records and their octets (section 10.9) -/

section
variable (l : List Byte)

theorem length_sealed16 : (sealed16 l).length = l.length + 2 := by simp [sealed16]

theorem take_sealed16 {n : Nat} (h : l.length = n) : (sealed16 l).take n = l := by
  rw [sealed16, ← h, List.take_left]

theorem beAt_sealed16 {n : Nat} (h : l.length = n) : beAt (sealed16 l) n 2 = (crc16 ((sealed16 l).take n)).toNat := by
  rw [take_sealed16 l h, sealed16, ← h]
  exact (beAt_append l _ 0 2).trans (beAt_be16_alone (crc16 l).isLt)

theorem octetAt_ofNat {n : Nat} (h : n < 256) : (BitVec.ofNat 8 n).toNat = n := Nat.mod_eq_of_lt h

end

/-- A reply record before its CRC-16. -/
def replyFields (r : Reply) : List Byte :=
  be8 0x01 ++ be16 r.tag.toNat ++ [r.code] ++ be8 (replyCode r.outcome) ++ be8 (reasonCode r.reason) ++
    be8 r.body.length ++ r.body

theorem length_replyFields (r : Reply) : (replyFields r).length = 7 + r.body.length := by
  simp [replyFields]; omega

theorem replyCode_lt (o : ReplyOutcome) : replyCode o < 256 := by cases o <;> decide
theorem reasonCode_lt (o : Reason) : reasonCode o < 256 := by cases o <;> decide

theorem noticeFields_length_le (n : Notice) : (noticeFields n).length ≤ 15 := by
  cases n <;> exact Nat.le_of_ble_eq_true rfl

theorem noticeOctets_eq (n : Notice) (st : IntervalStamp) : noticeOctets ⟨n, st⟩ =
    be8 (noticeCode n) ++ be32 st.number.toNat ++ be16 st.time ++ noticeFields n ++
      List.replicate (15 - (noticeFields n).length) 0xFF := by
  have hpad : 22 - (be8 (noticeCode n) ++ be32 st.number.toNat ++ be16 st.time ++ noticeFields n).length =
      15 - (noticeFields n).length := by
    simp only [List.length_append, length_be8, length_be16, length_be32]
    omega
  unfold noticeOctets
  dsimp only
  rw [hpad]

theorem length_noticeOctets (r : NoticeRecord) : (noticeOctets r).length = 22 := by
  have hfields := noticeFields_length_le r.notice
  rw [noticeOctets_eq r.notice r.stamp]
  simp only [List.length_append, length_be8, length_be16, length_be32, List.length_replicate]
  omega

theorem length_flatMap_noticeOctets (l : List NoticeRecord) : (l.flatMap noticeOctets).length = 22 * l.length := by
  induction l with
  | nil => rfl
  | cons r l ih =>
    rw [List.flatMap_cons, List.length_append, length_noticeOctets, ih, List.length_cons]
    omega

/-- A report record before its CRC-16. -/
def reportFields (l : List NoticeRecord) : List Byte := be8 0x02 ++ be8 l.length ++ l.flatMap noticeOctets

theorem length_reportFields (l : List NoticeRecord) : (reportFields l).length = 2 + 22 * l.length := by
  rw [reportFields, List.length_append, length_flatMap_noticeOctets]
  rfl

/-- Settles O48: the placements by case, then the octets of each record. -/
theorem placements : Obligations.Placements := by
  refine ⟨fun s hr => ?placed, fun lane n record hl h => ?packet, fun r hbody => ?reply, fun l hl => ?report,
    length_noticeOctets, fun st k b c n p e g old best kind cause why outcome tag reason how ok generation => ?notices⟩
  case placed =>
    intro n placed
    have hfree : freeInserts s = 16 - s.insertQueue.length := rfl
    refine ⟨fun r h hroom hk => ?alone, fun r k h hroom hk => ?restartReply, fun h => ?waits, fun h hn hroom => ?first,
      fun h hn hroom => ?reportBeside, fun h => ?none⟩
    case alone =>
      rw [exec_replyPlacement hr, placeReply_placed h hroom, hk]
      rfl
    case restartReply =>
      rw [exec_replyPlacement hr, placeReply_placed h hroom, hk]
      rfl
    case waits => rw [exec_replyPlacement hr, placeReply_waits h]
    case first =>
      rw [exec_reportPlacement hr, placeReport_placed h (by rw [keptPlaces_none hn]; omega)]
      rfl
    case reportBeside =>
      rw [exec_reportPlacement hr, placeReport_placed h (by rw [keptPlaces_some hn]; omega)]
      rfl
    case none =>
      rw [exec_reportPlacement hr, placeReport_waits (h.imp_right fun hc => ?_)]
      rcases hc with hfull | ⟨hn, hone⟩
      · omega
      · rw [keptPlaces_some hn]
        omega
  case packet =>
    have hp := insertPacket_stamped hl h n
    have hadaptation : adaptationOf (insertPacket lane n record) = 1 :=
      hp.adaptation.trans (adaptationOf_blankInsert record)
    refine ⟨hp.length.trans (blankInsert_length h), hp.lane, hp.seq, hp.start.trans (isStart_blankInsert record),
      hp.damaged.trans (isDamaged_blankInsert record), hadaptation, ?_⟩
    rw [payloadOf_plain hadaptation, hp.rest, blankInsert, List.append_assoc]
    rfl
  case reply =>
    intro b n
    have hlength := length_replyFields r
    refine ⟨?length, rfl, beAt_be16 r.tag.isLt _, rfl, ?outcome, ?reason, octetAt_ofNat (show n < 256 by omega), ?body,
      beAt_sealed16 _ hlength⟩
    case length => rw [show b = sealed16 (replyFields r) from rfl, length_sealed16, hlength]; omega
    case outcome => exact (octetAt_ofNat (replyCode_lt r.outcome)).trans (by cases r.outcome <;> rfl)
    case reason => exact (octetAt_ofNat (reasonCode_lt r.reason)).trans (by cases r.reason <;> rfl)
    case body => exact List.take_left
  case report =>
    intro b n
    have hlength := length_reportFields l
    refine ⟨?length, rfl, octetAt_ofNat (by omega), ?body, beAt_sealed16 _ hlength⟩
    case length => rw [show b = sealed16 (reportFields l) from rfl, length_sealed16, hlength]; omega
    case body =>
      have hn : (l.flatMap noticeOctets).length = n := length_flatMap_noticeOctets l
      rw [← hn]
      exact List.take_left
  case notices =>
    intro holds
    have octets (notice : Notice) : noticeOctets ⟨notice, st⟩ = _ := noticeOctets_eq notice st
    exact ⟨octets _, octets _, octets _, octets _, octets _, octets _, octets _, octets _, octets _, octets _, octets _,
      octets _, octets _, octets _, octets _⟩

end Sys2Proof.Machine
end

section
/-! PROOFS. The Report Unit: notices and faults, READ FAULTS and CLEAR FAULTS (O51, O52); TAKE and CLEAR DISCOVERIES (O44);
the control packet (O53). -/

namespace Sys2Proof.Machine

/-! ### Notices (R172) -/

section
variable {s : State} {r : NoticeRecord}

theorem takeNotice_disabled (h : noticeEnabled s r.notice = false) : takeNotice r s = s := by simp [takeNotice, h]

theorem takeNotice_queued (h : noticeEnabled s r.notice = true) (hq : s.noticeQueue.length < 64) :
    takeNotice r s = { s with noticeQueue := s.noticeQueue ++ [r] } := by simp [takeNotice, h, hq, queueNotice]

theorem takeNotice_lost (h : noticeEnabled s r.notice = true) (hq : 64 ≤ s.noticeQueue.length) :
    takeNotice r s = recordOverflow { s with noticeLoss := satAdd 65535 s.noticeLoss 1 } := by
  simp [takeNotice, h, Nat.not_lt.mpr hq, loseNotice]

theorem recordOverflow_old (h : s.faultSummary.getLsbD 5 = true) : recordOverflow s = enterFault .noticeOverflow s := by
  have hnew : (!inSummary s .noticeOverflow) = false := by rw [Bool.not_eq_false']; exact h
  simp only [recordOverflow, hnew, Bool.false_eq_true, if_false]

theorem recordOverflow_new (h : s.faultSummary.getLsbD 5 = false) :
    recordOverflow s = overflowNotice (enterFault .noticeOverflow s) := by
  have hnew : (!inSummary s .noticeOverflow) = true := by rw [Bool.not_eq_true']; exact h
  simp only [recordOverflow, hnew, if_true]

theorem overflowNotice_disabled (h : s.settings.noticeEnable.getLsbD 15 = false) : overflowNotice s = s := by
  have hn : noticeEnabled s (.fault (faultCode .noticeOverflow)) = false := h
  simp only [overflowNotice, hn, Bool.not_false, if_true]

theorem overflowNotice_queued (h : s.settings.noticeEnable.getLsbD 15 = true) (hq : s.noticeQueue.length < 64) :
    overflowNotice s = { s with noticeQueue := s.noticeQueue ++ [⟨.fault 5, s.clock⟩] } := by
  have hn : noticeEnabled s (.fault (faultCode .noticeOverflow)) = true := h
  simp only [overflowNotice, hn, Bool.not_true, Bool.false_eq_true, if_false, hq, if_true]
  rfl

theorem overflowNotice_lost (h : s.settings.noticeEnable.getLsbD 15 = true) (hq : 64 ≤ s.noticeQueue.length) :
    overflowNotice s = { s with noticeLoss := satAdd 65535 s.noticeLoss 1 } := by
  have hn : noticeEnabled s (.fault (faultCode .noticeOverflow)) = true := h
  simp only [overflowNotice, hn, Bool.not_true, Bool.false_eq_true, if_false, Nat.not_lt.mpr hq]
  rfl

theorem satAdd_twice (top n : Nat) : satAdd top (satAdd top n 1) 1 = min top (n + 2) := by
  unfold satAdd
  omega

section
variable (h : noticeEnabled s r.notice = true) (hq : 64 ≤ s.noticeQueue.length)
include h hq

/-- A drop whose fault is in the Summary already is counted alone. -/
theorem takeNotice_lost_old (h5 : s.faultSummary.getLsbD 5 = true) : takeNotice r s =
    enterFault .noticeOverflow { s with noticeLoss := min 65535 (s.noticeLoss + 1) } := by
  rw [takeNotice_lost h hq]
  exact recordOverflow_old h5

/-- A drop whose fault is new drops the FAULT notice too. -/
theorem takeNotice_lost_new (h5 : s.faultSummary.getLsbD 5 = false) (hn : s.settings.noticeEnable.getLsbD 15 = true) :
    takeNotice r s = enterFault .noticeOverflow { s with noticeLoss := min 65535 (s.noticeLoss + 2) } := by
  let t : State := { s with noticeLoss := satAdd 65535 s.noticeLoss 1 }
  rw [takeNotice_lost h hq, ← satAdd_twice]
  exact (recordOverflow_new (s := t) h5).trans (overflowNotice_lost (s := enterFault .noticeOverflow t) hn hq)

theorem takeNotice_lost_silent (h5 : s.faultSummary.getLsbD 5 = false)
    (hn : s.settings.noticeEnable.getLsbD 15 = false) :
    takeNotice r s = enterFault .noticeOverflow { s with noticeLoss := min 65535 (s.noticeLoss + 1) } := by
  let t : State := { s with noticeLoss := satAdd 65535 s.noticeLoss 1 }
  rw [takeNotice_lost h hq]
  exact (recordOverflow_new (s := t) h5).trans (overflowNotice_disabled (s := enterFault .noticeOverflow t) hn)

end

theorem exec_noticePost (hr : s.phase = .running) (n : Notice) (stamp : IntervalStamp) :
    exec (.noticePost n stamp) s = .next (takeNotice ⟨n, stamp⟩ (s.take (.noticePost n stamp))) :=
  whenRunning_next hr fun u => takeNotice ⟨n, stamp⟩ (u.take (.noticePost n stamp))

end

/-! ### Faults (R174) -/

section
variable {s : State} {f : FaultReport}

theorem recordFault_old (h : s.faultSummary.getLsbD (faultCode f) = true) : recordFault f s = enterFault f s := by
  have hnew : (!inSummary s f) = false := by rw [Bool.not_eq_false']; exact h
  simp only [recordFault, hnew, Bool.not_false, if_true]

theorem recordFault_overflow (h : s.faultSummary.getLsbD 5 = false) :
    recordFault .noticeOverflow s = overflowNotice (enterFault .noticeOverflow s) := by
  have hnew : (!inSummary s .noticeOverflow) = true := by rw [Bool.not_eq_true']; exact h
  simp only [recordFault, hnew, Bool.not_true, Bool.false_eq_true, if_false, if_true]

theorem recordFault_new (h : s.faultSummary.getLsbD (faultCode f) = false) (hf : f ≠ .noticeOverflow) :
    recordFault f s = takeNotice ⟨.fault (faultCode f), s.clock⟩ (enterFault f s) := by
  have hnew : (!inSummary s f) = true := by rw [Bool.not_eq_true']; exact h
  simp only [recordFault, hnew, Bool.not_true, Bool.false_eq_true, if_false, hf]
  rfl

/-- The FAULT notice of a fault newly in the Summary is not posted when the notice enable set does not name its kind. -/
theorem recordFault_silent (h : s.faultSummary.getLsbD (faultCode f) = false)
    (hn : s.settings.noticeEnable.getLsbD 15 = false) : recordFault f s = enterFault f s := by
  by_cases hf : f = .noticeOverflow
  · rw [hf] at h ⊢
    rw [recordFault_overflow h, overflowNotice_disabled (s := enterFault .noticeOverflow s) hn]
  · rw [recordFault_new h hf]
    exact takeNotice_disabled (s := enterFault f s) (r := ⟨.fault (faultCode f), s.clock⟩) hn

theorem recordFault_queued (h : s.faultSummary.getLsbD (faultCode f) = false)
    (hn : s.settings.noticeEnable.getLsbD 15 = true) (hq : s.noticeQueue.length < 64) : recordFault f s =
    { enterFault f s with noticeQueue := s.noticeQueue ++ [⟨.fault (faultCode f), s.clock⟩] } := by
  by_cases hf : f = .noticeOverflow
  · rw [hf] at h ⊢
    rw [recordFault_overflow h, overflowNotice_queued (s := enterFault .noticeOverflow s) hn hq]
    rfl
  · rw [recordFault_new h hf]
    exact takeNotice_queued (s := enterFault f s) (r := ⟨.fault (faultCode f), s.clock⟩) hn hq

theorem enterFault_named (s : State) (f : FaultReport) : (enterFault f s).faultSummary.getLsbD (faultCode f) = true := by
  rw [enterFault_summary, decide_eq_true rfl, Bool.or_true]

theorem overflowNotice_summary (s : State) : (overflowNotice s).faultSummary = s.faultSummary := by
  unfold overflowNotice
  dsimp only
  split
  · rfl
  · split <;> rfl

/-- A kind in the Fault Summary stays there while the FAULT notice of another is taken. -/
theorem takeNotice_summary {r : NoticeRecord} {i : Nat} (h : s.faultSummary.getLsbD i = true) :
    (takeNotice r s).faultSummary.getLsbD i = true := by
  have entered (u : State) (hu : u.faultSummary = s.faultSummary) :
      (enterFault .noticeOverflow u).faultSummary.getLsbD i = true := by rw [enterFault_summary, hu, h, Bool.true_or]
  unfold takeNotice
  split
  · exact h
  · split
    · exact h
    · unfold recordOverflow
      dsimp only
      split
      · rw [overflowNotice_summary]
        exact entered _ rfl
      · exact entered _ rfl

theorem recordFault_summary : (recordFault f s).faultSummary.getLsbD (faultCode f) = true := by
  cases h : s.faultSummary.getLsbD (faultCode f) with
  | true =>
    rw [recordFault_old h]
    exact enterFault_named s f
  | false =>
    by_cases hf : f = .noticeOverflow
    · rw [hf] at h ⊢
      rw [recordFault_overflow h, overflowNotice_summary]
      exact enterFault_named s _
    · rw [recordFault_new h hf]
      exact takeNotice_summary (enterFault_named s f)

theorem State.alert_iff : s.alert = true ↔ s.faultSummary ≠ 0 := bne_iff_ne

theorem alert_of_getLsbD {i : Nat} (h : s.faultSummary.getLsbD i = true) : s.alert = true := by
  rw [State.alert_iff]
  intro hz
  rw [hz] at h
  exact nomatch BitVec.getLsbD_zero.symm.trans h

theorem exec_faultRecord (hr : s.phase = .running) (f : FaultReport) :
    exec (.faultRecord f) s = .next (recordFault f (s.take (.faultRecord f))) :=
  whenRunning_next hr fun u => recordFault f (u.take (.faultRecord f))

end

/-- Settles O51: a notice by the enable set and the free places, a fault by whether its kind is new. -/
theorem noticesAndFaults : Obligations.NoticesAndFaults := by
  refine ⟨fun s n stamp hr => ?notices, fun s f hr => ?faults⟩
  case notices =>
    intro i u on overflow lost
    refine ⟨fun h => ?disabled, fun h hq => ?queued, fun h hq _ h5 => ?old, fun h hq _ h5 hn => ?new,
      fun h hq _ h5 hn => ?silent⟩
    all_goals rw [exec_noticePost hr]
    case disabled => exact congrArg _ (takeNotice_disabled (r := ⟨n, stamp⟩) (Bool.eq_false_iff.mpr h))
    case queued => exact congrArg _ (takeNotice_queued (r := ⟨n, stamp⟩) h hq)
    case old => exact congrArg _ (takeNotice_lost_old (s := u) (r := ⟨n, stamp⟩) h hq h5)
    case new => exact congrArg _ (takeNotice_lost_new (s := u) (r := ⟨n, stamp⟩) h hq h5 hn)
    case silent => exact congrArg _ (takeNotice_lost_silent (s := u) (r := ⟨n, stamp⟩) h hq h5 hn)
  case faults =>
    intro i entered
    refine ⟨fun h => ?old, fun h hn => ?silent, fun h hn hq => ?queued, _, exec_faultRecord hr f,
      alert_of_getLsbD recordFault_summary⟩
    all_goals rw [exec_faultRecord hr]
    case old => exact congrArg _ (recordFault_old (s := s.take i) h)
    case silent => exact congrArg _ (recordFault_silent (s := s.take i) h hn)
    case queued => exact congrArg _ (recordFault_queued (s := s.take i) h hn hq)

/-! ### READ FAULTS and CLEAR FAULTS (R175, R176) -/

/-- The port a fault names, if it names one; and so each field of the details of R175. -/
def FaultReport.port? : FaultReport → Option Nat | .tunerLink p _ => some p | _ => none
def FaultReport.entry? : FaultReport → Option Nat | .tunerLink _ n => some n | _ => none
def FaultReport.service? : FaultReport → Option Nat
  | .switchAbandoned k _ => some k | .outputOverrun k => some k | _ => none
def FaultReport.candidate? : FaultReport → Option Nat | .switchAbandoned _ x => some x | _ => none
def FaultReport.tag? : FaultReport → Option Nat | .changeFailed tag _ _ => some tag.toNat | _ => none
def FaultReport.table? : FaultReport → Option Nat | .changeFailed _ t _ => some t | _ => none
def FaultReport.index? : FaultReport → Option Nat | .changeFailed _ _ i => some i | _ => none

/-- What the eleven octets of the details of a fault, or of no fault, read. -/
structure DetailsRead (o : Option FaultReport) (d : List Byte) : Prop where
  length : d.length = 11
  port : octetAt d 0 = (o.bind FaultReport.port?).getD 0xFF
  entry : octetAt d 1 = (o.bind FaultReport.entry?).getD 0xFF
  service : beAt d 2 2 = (o.bind FaultReport.service?).getD 0xFFFF
  candidate : beAt d 4 2 = (o.bind FaultReport.candidate?).getD 0xFFFF
  tag : beAt d 6 2 = (o.bind FaultReport.tag?).getD 0xFFFF
  table : octetAt d 8 = (o.bind FaultReport.table?).getD 0xFF
  index : beAt d 9 2 = (o.bind FaultReport.index?).getD 0xFFFF

theorem detailsRead_absent : DetailsRead none (List.replicate 11 0xFF) := ⟨rfl, rfl, rfl, rfl, rfl, rfl, rfl, rfl⟩

theorem detailsRead_fault {f : FaultReport} (h : f.wf = true) : DetailsRead (some f) (faultDetails f) := by
  cases f with
  | tunerLink p e =>
    obtain ⟨hp, he⟩ := Bool.and_eq_true_iff.mp h
    have hsweep : p = 12 ∨ p = 13 := of_decide_eq_true hp
    have hport : p < 256 := by omega
    have hentry : e < 64 := of_decide_eq_true he
    exact ⟨rfl, octetAt_be8 hport [], octetAt_be8 (by omega) [], rfl, rfl, rfl, rfl, rfl⟩
  | changeFailed tag t i =>
    obtain ⟨ht, hi⟩ := Bool.and_eq_true_iff.mp h
    have htable : t < 10 := of_decide_eq_true ht
    have hindex : i < 2048 := of_decide_eq_true hi
    exact ⟨rfl, rfl, rfl, rfl, rfl, beAt_be16 tag.isLt [], octetAt_be8 (by omega) [], beAt_be16_alone (by omega)⟩
  | switchAbandoned k c =>
    obtain ⟨hk, hc⟩ := Bool.and_eq_true_iff.mp h
    have hservice : k < 512 := of_decide_eq_true hk
    have hcandidate : c < 2048 := of_decide_eq_true hc
    exact ⟨rfl, rfl, rfl, beAt_be16 (by omega) [], beAt_be16 (by omega) [], rfl, rfl, rfl⟩
  | outputOverrun k =>
    have hservice : k < 512 := of_decide_eq_true h
    exact ⟨rfl, rfl, rfl, beAt_be16 (by omega) [], rfl, rfl, rfl, rfl⟩
  | commandOverflow => exact ⟨rfl, rfl, rfl, rfl, rfl, rfl, rfl, rfl⟩
  | noticeOverflow => exact ⟨rfl, rfl, rfl, rfl, rfl, rfl, rfl, rfl⟩
  | storeInvalid => exact ⟨rfl, rfl, rfl, rfl, rfl, rfl, rfl, rfl⟩
  | storeWrite => exact ⟨rfl, rfl, rfl, rfl, rfl, rfl, rfl, rfl⟩

/-- The Record as READ FAULTS gives it: its kind, its interval number, and its details. -/
theorem recordOctets_eq {e : Option FaultEntry} (h : ∀ x, e = some x → x.fault.wf = true) : ∃ d,
    recordOctets e = be8 ((e.map fun x => faultCode x.fault).getD 0xFF) ++
      (be32 ((e.map fun x => x.interval.toNat).getD 0xFFFFFFFF) ++ d) ∧ DetailsRead (e.map FaultEntry.fault) d := by
  cases e with
  | none => exact ⟨_, rfl, detailsRead_absent⟩
  | some x => exact ⟨_, rfl, detailsRead_fault (h x rfl)⟩

theorem exec_readFaults {s : State} {c : Cmd} (h : s.takesCommand) (hl : s.admitsLevel c.level 3) (hb : c.body = []) :
    exec (.readFaults c) s = .next (s.replies c 0x30 .done ([s.faultSummary] ++ flag8 s.faultRecord.locked ++
      recordOctets s.faultRecord.entry ++ flag8 s.faultRecord.lost ++ be16 s.noticeLoss ++ be8 s.noticeQueue.length)) :=
  exec_checked h (List.length_eq_zero_iff.mpr hb) hl 0x30 readFaults

theorem exec_clearFaults {s : State} {c : Cmd} {kinds : Byte} (h : s.takesCommand) (hl : s.admitsLevel c.level 1)
    (hb : c.body = [kinds]) :
    exec (.clearFaults c) s = .next (answer (goodRecord 0x31 c) s (clearFaults (c.body.getD 0 0) s)) :=
  exec_checked h (by rw [hb]; rfl) hl 0x31 (clearFaults (c.body.getD 0 0))

theorem toNat_flag (b : Bool) : (BitVec.ofNat 8 b.toNat).toNat = b.toNat := by cases b <;> rfl

/-- Settles O52: the 22 octets split into the Summary, the lock, the Record and the counts; the clearing by its fields. -/
theorem faultsReadAndCleared : Obligations.FaultsReadAndCleared := by
  intro s c kinds h e field
  refine ⟨fun hl hb hloss hqueue hwf => ?read, fun hl hb => ?cleared⟩
  case read =>
    refine ⟨_, exec_readFaults h hl hb, ?_⟩
    obtain ⟨d, hrecord, hd⟩ := recordOctets_eq hwf
    have hcode : (e.map fun x => faultCode x.fault).getD 0xFF < 256 := by
      cases e with
      | none => decide
      | some x => exact (faultCode_lt x.fault).trans (by decide)
    have hinterval : (e.map fun x => x.interval.toNat).getD 0xFFFFFFFF < 4294967296 := by
      cases e with
      | none => decide
      | some x => exact x.interval.isLt
    rw [show s.faultRecord.entry = e from rfl, hrecord]
    obtain ⟨hlength, hport, hentry, hservice, hcandidate, htag, htable, hindex⟩ := hd
    match d, hlength with
    | [_, _, _, _, _, _, _, _, _, _, _], _ =>
      exact ⟨rfl, rfl, toNat_flag _, octetAt_be8 hcode [], beAt_be32 hinterval [], hport, hentry, hservice, hcandidate, htag,
        htable, hindex, toNat_flag _, beAt_be16 (by omega) [],
        octetAt_ofNat (by omega)⟩
  case cleared =>
    intro named t
    refine ⟨?_, State.alert_iff⟩
    have hkinds : c.body.getD 0 0 = kinds := by rw [hb]; rfl
    have hlocked : (if s.faultRecord.locked && recordNamed s kinds then
        { s.faultRecord with locked := false, lost := false } else s.faultRecord) = t.faultRecord :=
      if_congr Bool.and_eq_true_iff rfl rfl
    rw [exec_clearFaults h hl hb, hkinds, clearFaults, hlocked]
    rfl

/-! ### The Discovery Log (R143, R144) -/

/-- Settles O44: what each of the two commands replies and leaves. -/
theorem discoveriesTakenAndCleared : Obligations.DiscoveriesTakenAndCleared := by
  intro s c h hb octets
  have hlength : c.body.length = 0 := List.length_eq_zero_iff.mpr hb
  refine ⟨fun hl => ?taken, fun hl => exec_checked h hlength hl 0x29 clearDiscoveries⟩
  case taken =>
    have htaken : exec (.takeDiscoveries c) s = .next (answer (goodRecord 0x28 c) s (takeDiscoveries s)) :=
      exec_checked h hlength hl 0x28 takeDiscoveries
    rw [htaken, takeDiscoveries, List.length_take, List.length_drop]
    rfl

/-! ### The control packet (R158) -/

section
variable {s : State} {r : CommandRecord} {p : Packet}

theorem joinCommandQueue_joined (h : s.commandQueue.length < 8) :
    joinCommandQueue r s = { s with commandQueue := s.commandQueue ++ [r] } := if_pos h

theorem joinCommandQueue_full (h : 8 ≤ s.commandQueue.length) : joinCommandQueue r s =
    ({ s with commandOverflow := satAdd top32 s.commandOverflow 1 }).raise .commandOverflow := if_neg (Nat.not_lt.mpr h)

theorem isCommandPacket_iff :
    isCommandPacket p = true ↔ isDamaged p = false ∧ isStart p = true ∧ adaptationOf p = 1 := by
  simp [isCommandPacket, and_assoc]

theorem exec_controlPacket (hr : s.phase = .running) (hp : p.length = 188) :
    exec (.controlPacket p) s = .next (takeControlPacket p (s.take (.controlPacket p))) := by
  have dispatch : exec (.controlPacket p) s = execControlPacket p s := rfl
  rw [dispatch, execControlPacket, onPacket_of_length hp, whenRunning_next hr]

theorem takeControlPacket_command (h : isCommandPacket p = true) :
    takeControlPacket p s = joinCommandQueue (commandRecord p) s := if_pos h

/-- A body of at most 176 octets stands in the payload, and its CRC-16 behind it. -/
theorem commandRecord_fits (ha : adaptationOf p = 1) (hb : octetAt (p.drop 4) 4 ≤ 176) : commandRecord p =
    ⟨(p.drop 4).getD 0 0,
      decide ((crc16 ((p.drop 4).take (5 + octetAt (p.drop 4) 4))).toNat = beAt (p.drop 4) (5 + octetAt (p.drop 4) 4) 2),
      ⟨BitVec.ofNat 16 (beAt (p.drop 4) 2 2), octetAt (p.drop 4) 1, ((p.drop 4).drop 5).take (octetAt (p.drop 4) 4)⟩⟩ := by
  unfold commandRecord
  simp only [payloadOf_plain ha, hb, decide_true, Bool.true_and, if_true]

theorem commandRecord_long (ha : adaptationOf p = 1) (hb : 176 < octetAt (p.drop 4) 4) : commandRecord p =
    ⟨(p.drop 4).getD 0 0, false, ⟨BitVec.ofNat 16 (beAt (p.drop 4) 2 2), octetAt (p.drop 4) 1, []⟩⟩ := by
  unfold commandRecord
  simp only [payloadOf_plain ha, Nat.not_le.mpr hb, decide_false, Bool.false_and, if_false]

end

/-- Settles O53: the packet is malformed, or its record joins the Command Queue, or overflows it. -/
theorem controlPacket : Obligations.ControlPacket := by
  intro s p hr hp i u command l b
  have joins (hc : command) : exec (.controlPacket p) s = .next (joinCommandQueue (commandRecord p) u) := by
    rw [exec_controlPacket hr hp, takeControlPacket_command (isCommandPacket_iff.mpr hc)]
  refine ⟨fun hc => ?malformed, fun hc hq hb => ?fits, fun hc hq hb => ?long, fun hc hq => ?overflow⟩
  case malformed =>
    rw [exec_controlPacket hr hp, takeControlPacket, if_neg (mt isCommandPacket_iff.mp hc)]
    rfl
  case fits =>
    rw [joins hc, commandRecord_fits hc.2.2 hb]
    exact congrArg _ (joinCommandQueue_joined (s := u) hq)
  case long =>
    rw [joins hc, commandRecord_long hc.2.2 hb]
    exact congrArg _ (joinCommandQueue_joined (s := u) hq)
  case overflow =>
    rw [joins hc]
    exact congrArg _ (joinCommandQueue_full (s := u) hq)

end Sys2Proof.Machine
end

section
/-! PROOFS. The Management Unit takes a command: directly or from the head of its queue, with the checks that refuse it
whatever it would do (O60). -/

namespace Sys2Proof.Machine

/-! ### Taking a record (R159) -/

/-- The unit has no command in hand and takes `r`, directly or from the head of its queue; `u` is the state without it. -/
def State.Takes (s : State) (r : CommandRecord) (u : State) : Prop :=
  s.phase = .running ∧ s.replyInHand = none ∧ s.restart = none ∧
    ((s.commandQueue = [] ∧ u = s) ∨ ∃ rest, s.commandQueue = r :: rest ∧ u = { s with commandQueue := rest })

section
variable {s u : State} {r : CommandRecord} {rest : List CommandRecord} {f : State → Verdict}

theorem State.freeForCommand_iff : s.freeForCommand = true ↔ s.replyInHand = none ∧ s.restart = none := by
  simp [State.freeForCommand]

theorem State.takesCommand.takes (h : s.takesCommand) (r : CommandRecord) : s.Takes r s :=
  ⟨h.1, h.2.2.1, h.2.2.2, .inl ⟨h.2.1, rfl⟩⟩

theorem State.Takes.commission (h : s.Takes r u) : u.commission = s.commission := by
  obtain ⟨-, -, -, ⟨-, rfl⟩ | ⟨rest, -, rfl⟩⟩ := h <;> rfl

theorem manage_head (hq : s.commandQueue = r :: rest) (hf : s.freeForCommand = true) :
    manage r f s = answer r { s with commandQueue := rest } (f { s with commandQueue := rest }) := by
  unfold manage
  simp only [hq, if_true, hf]

theorem manage_head_waits (hq : s.commandQueue = r :: rest) (hf : s.freeForCommand = false) : manage r f s = s := by
  unfold manage
  simp only [hq, if_true, hf, Bool.false_eq_true, if_false]

theorem manage_taken (h : s.Takes r u) (f : State → Verdict) : manage r f s = answer r u (f u) := by
  obtain ⟨hrun, hreply, hrestart, ⟨hq, rfl⟩ | ⟨rest, hq, rfl⟩⟩ := h
  · exact manage_takes ⟨hrun, hq, hreply, hrestart⟩ r f
  · exact manage_head hq (State.freeForCommand_iff.mpr ⟨hreply, hrestart⟩)

theorem whenRunning_taken (h : s.Takes r u) (f : State → Verdict) : whenRunning s (manage r f) = .next (answer r u (f u)) := by
  rw [whenRunning_next h.1, manage_taken h]

end

/-! ### The rows of the commands of a fixed length (section 10.9) -/

/-- Each command of a fixed length: its row, its code, the length of its body and its level. -/
def commandRows : List ((Cmd → Instr) × Byte × Nat × Nat) :=
  [(.identify, 0x01, 0, 3), (.probeAccess, 0x05, 5, 3), (.closeInterval, 0x10, 0, 1), (.pin, 0x11, 4, 1),
    (.releasePin, 0x12, 2, 1), (.quarantine, 0x13, 4, 1), (.liftQuarantine, 0x14, 2, 1), (.sweepHold, 0x20, 1, 1),
    (.sweepResume, 0x21, 1, 1), (.visitNow, 0x22, 1, 2), (.takeDiscoveries, 0x28, 0, 2), (.clearDiscoveries, 0x29, 0, 1),
    (.readFaults, 0x30, 0, 3), (.clearFaults, 0x31, 1, 1), (.startTap, 0x38, 5, 1), (.extendTap, 0x39, 2, 1),
    (.stopTap, 0x3A, 0, 1), (.saveSettings, 0x40, 0, 0), (.softRestart, 0x41, 0, 0), (.hardRestart, 0x42, 0, 0)]

/-- Every row of the list runs a command with its own code, length and level. -/
theorem exec_commandRow : ∀ row ∈ commandRows, ∀ c, ∃ v : State → Verdict, ∀ s,
    exec (row.1 c) s = whenRunning s (manage (goodRecord row.2.1 c) (command row.2.2.1 row.2.2.2 c v)) := by
  simp only [commandRows, List.forall_mem_cons]
  exact ⟨fun _ => ⟨identify, fun _ => rfl⟩, fun c => ⟨probeAccess c.body, fun _ => rfl⟩, fun _ => ⟨closeInterval, fun _ => rfl⟩,
    fun c => ⟨pinCommand c.body, fun _ => rfl⟩, fun c => ⟨releaseCommand c.body, fun _ => rfl⟩,
    fun c => ⟨quarantineCommand c.body, fun _ => rfl⟩, fun c => ⟨liftCommand c.body, fun _ => rfl⟩,
    fun c => ⟨holdCommand c.body, fun _ => rfl⟩, fun c => ⟨resumeCommand c.body, fun _ => rfl⟩,
    fun c => ⟨visitNowCommand c.body, fun _ => rfl⟩, fun _ => ⟨takeDiscoveries, fun _ => rfl⟩,
    fun _ => ⟨clearDiscoveries, fun _ => rfl⟩, fun _ => ⟨readFaults, fun _ => rfl⟩,
    fun c => ⟨clearFaults (c.body.getD 0 0), fun _ => rfl⟩, fun c => ⟨startTap c.body, fun _ => rfl⟩,
    fun c => ⟨extendTap c.body, fun _ => rfl⟩, fun _ => ⟨stopTap, fun _ => rfl⟩, fun _ => ⟨saveSettings, fun _ => rfl⟩,
    fun _ => ⟨softRestart, fun _ => rfl⟩, fun _ => ⟨hardRestart, fun _ => rfl⟩, fun _ h => nomatch h⟩

theorem withinCeiling_false {s : State} {level : Nat} (h : 3 < level ∨ (level = 0 ∧ s.commission = false)) :
    withinCeiling s level = false := by
  rcases h with h | ⟨h, hc⟩
  · simp [withinCeiling, Nat.not_le.mpr h]
  · simp [withinCeiling, h, hc]

theorem command_level {s : State} {n m : Nat} {c : Cmd} (hl : c.body.length = n)
    (h : m < c.level ∨ (c.level = 0 ∧ s.commission = false)) (v : State → Verdict) : command n m c v s = .refused .level := by
  have hlength : (c.body.length == n) = true := beq_iff_eq.mpr hl
  rw [command, hlength]
  exact checked_level (h.symm.imp (fun hc => withinCeiling_false (.inr hc)) fun hm => decide_eq_false (Nat.not_le.mpr hm)) _

/-! ### The rows of the table writes (R164) -/

/-- WRITE ENTRY or LOAD RUN. -/
def writeRow (run : Bool) (q : Cmd) : Instr := if run then .loadRun q else .writeEntry q

/-- Each table write: its row, the code of its table, and its table. -/
def tableRows : List ((Bool → Cmd → Instr) × Nat × TableId) :=
  [(.settingsWrite, 0, .settings), (.portWrite, 1, .port), (.weightWrite, 2, .weight), (.sweepWrite, 3, .sweep),
    (.serviceWrite, 4, .service), (.candidateWrite, 5, .candidate), (.countersWrite, 9, .counters)]

theorem exec_writeRow (run : Bool) (q : Cmd) (s : State) :
    exec (writeRow run q) s = whenRunning s (manage (goodRecord (writeCode run) q) (writeCommand run q)) := by
  cases run <;> rfl

theorem exec_tableRow : ∀ row ∈ tableRows, tableOf row.2.1 = some row.2.2 ∧
    ∀ run q s, exec (row.1 run q) s = whenRunning s (tableWrite row.2.2 run q) := by
  simp only [tableRows, List.forall_mem_cons]
  exact ⟨⟨rfl, fun _ _ _ => rfl⟩, ⟨rfl, fun _ _ _ => rfl⟩, ⟨rfl, fun _ _ _ => rfl⟩, ⟨rfl, fun _ _ _ => rfl⟩,
    ⟨rfl, fun _ _ _ => rfl⟩, ⟨rfl, fun _ _ _ => rfl⟩, ⟨rfl, fun _ _ _ => rfl⟩,
    fun _ h => nomatch h⟩

/-- A table write whose body names its table is the generic write. -/
theorem exec_tableRow_named {row : (Bool → Cmd → Instr) × Nat × TableId} (h : row ∈ tableRows) {run : Bool} {q : Cmd}
    (hb : q.body ≠ []) (hn : octetAt q.body 0 = row.2.1) (s : State) : exec (row.1 run q) s = exec (writeRow run q) s := by
  obtain ⟨htable, hexec⟩ := exec_tableRow row h
  have hwrites : writes row.2.2 q = true := by simp [writes, hb, hn, htable]
  have hrow : tableWrite row.2.2 run q = manage (goodRecord (writeCode run) q) (writeCommand run q) := by
    funext u
    exact if_pos hwrites
  rw [hexec, exec_writeRow, hrow]

/-! ### The checks of a write (R160, R161) -/

section
variable {s u : State} {run : Bool} {q : Cmd} {w : TableWrite} {t : TableId}

theorem writeCommand_eq (hw : writeBody run q.body = some w) : writeCommand run q s =
    checked s q.level true (levelAdmits s q.level w)
      (match tableOf w.table with
       | none => .refused .range
       | some t => if w.inRange then writeTable t q w s else .refused .range) := by
  unfold writeCommand
  simp only [hw] <;> rfl

theorem writeCommand_badLength (hw : writeBody run q.body = none) : writeCommand run q s = .refused .badLength := by
  unfold writeCommand
  simp only [hw]

theorem writeCommand_level (hw : writeBody run q.body = some w)
    (h : withinCeiling s q.level = false ∨ levelAdmits s q.level w = false) : writeCommand run q s = .refused .level := by
  rw [writeCommand_eq hw, checked_level h]

section
variable (hw : writeBody run q.body = some w) (hc : withinCeiling s q.level = true) (hl : levelAdmits s q.level w = true)
include hw hc hl

theorem writeCommand_range (h : w.inRange = false) : writeCommand run q s = .refused .range := by
  rw [writeCommand_eq hw, hl, checked_admits hc]
  cases tableOf w.table with
  | none => rfl
  | some t =>
    dsimp only
    rw [h, if_neg Bool.false_ne_true]

theorem writeCommand_writes (ht : tableOf w.table = some t) (h : w.inRange = true) :
    writeCommand run q s = writeTable t q w s := by
  rw [writeCommand_eq hw, hl, checked_admits hc, ht]
  dsimp only
  rw [h, if_pos rfl]

end

theorem levelAdmits_of_two_lt (h : 2 < q.level) : levelAdmits s q.level w = false := by
  simp [levelAdmits, Nat.not_le.mpr h]

theorem mayWrite_iff {level table i : Nat} {fields : List (Nat × Nat)} : mayWrite s level table i fields = true ↔
    level ≤ 2 ∧ ∀ t, tableOf table = some t → t.holds i = true → level ≤ writeDemand s t i fields := by
  unfold mayWrite
  cases tableOf table with
  | none => simp
  | some t => cases ht : t.holds i <;> simp [ht]

theorem levelAdmits_of_entry {e : Nat × List (Nat × Nat)} {level : Nat} (he : e ∈ w.covers)
    (h : mayWrite s level w.table e.1 e.2 = false) : levelAdmits s level w = false := by
  have hall : (w.covers.all fun e => mayWrite s level w.table e.1 e.2) = false :=
    List.all_eq_false.mpr ⟨e, he, by rw [h]; exact Bool.false_ne_true⟩
  rw [levelAdmits, hall, Bool.and_false]

/-- A level that may write every entry of the table may make the write. -/
theorem levelAdmits_of {level : Nat} (h2 : level ≤ 2) (ht : ∀ t, tableOf w.table = some t → level ≤ tableLevel t)
    (h : ∀ e ∈ w.covers, ∀ t, tableOf w.table = some t → t.holds e.1 = true → level ≤ writeDemand s t e.1 e.2) :
    levelAdmits s level w = true := by
  have hempty : emptyRunAdmits level w = true := by
    unfold emptyRunAdmits
    cases hid : tableOf w.table with
    | none => rfl
    | some t => simp [ht t hid]
  have hall : (w.covers.all fun e => mayWrite s level w.table e.1 e.2) = true :=
    List.all_eq_true.mpr fun e he => mayWrite_iff.mpr ⟨h2, h e he⟩
  rw [levelAdmits, hempty, hall]
  simp [h2]

/-! ### Form and range (check 6 of R160) -/

/-- Whether a field of an entry is writable and its value in range. -/
def fieldInRange (t : TableId) (i : Nat) (fv : Nat × Nat) : Bool :=
  match t with
  | .settings => settingsRange fv.1 fv.2
  | .port => portRange i fv.1 fv.2
  | .weight => weightRange fv.1 fv.2
  | .sweep => sweepRange fv.1 fv.2
  | .service => serviceRange fv.1 fv.2
  | .candidate => candidateRange fv.1 fv.2
  | .counters => t.hasField i fv.1
  | .grades | .laneMap | .directory => false

theorem entryInRange_iff {i : Nat} {fields : List (Nat × Nat)} : entryInRange t i fields = true ↔
    fields ≠ [] ∧ (fields.map Prod.fst).Nodup ∧ t.holds i = true ∧ t.writable = true ∧
      (∀ fv ∈ fields, fieldInRange t i fv = true) ∧ (t = .candidate → candidateForm fields = true) := by
  have hform : (t != .candidate || candidateForm fields) = true ↔ (t = .candidate → candidateForm fields = true) := by
    rw [Bool.or_eq_true, bne_iff_ne, ← imp_iff_not_or]
  have hshape : entryInRange t i fields = (!fields.isEmpty && decide (fields.map Prod.fst).Nodup && t.holds i &&
      t.writable && (fields.all (fieldInRange t i)) && (t != .candidate || candidateForm fields)) := rfl
  rw [hshape, Bool.and_eq_true, hform]
  simp only [Bool.and_eq_true, List.all_eq_true, decide_eq_true_eq, Bool.not_eq_true', List.isEmpty_eq_false_iff, and_assoc]

theorem inRange_iff : w.inRange = true ↔ ∃ t, tableOf w.table = some t ∧ w.entries ≠ [] ∧
    ∀ e ∈ w.covers, e.2.length ≤ 34 ∧ entryInRange t e.1 e.2 = true := by
  unfold TableWrite.inRange
  cases tableOf w.table with
  | none => simp
  | some t => simp

theorem covers_ne_nil (h : w.entries ≠ []) : w.covers ≠ [] := by
  simpa [TableWrite.covers] using h

/-- No write of a table that may not be written at all passes (R163). -/
theorem inRange_readOnly (h : ∀ t, tableOf w.table = some t → t.writable = false) : w.inRange = false := by
  refine Bool.eq_false_iff.mpr fun hin => ?_
  obtain ⟨t, ht, hentries, hall⟩ := inRange_iff.mp hin
  obtain ⟨e, he⟩ := List.exists_mem_of_ne_nil _ (covers_ne_nil hentries)
  obtain ⟨-, -, -, hwritable, -⟩ := entryInRange_iff.mp (hall e he).2
  exact nomatch (h t ht).symm.trans hwritable

theorem exec_writeRow_taken (h : s.Takes (goodRecord (writeCode run) q) u) :
    exec (writeRow run q) s = .next (answer (goodRecord (writeCode run) q) u (writeCommand run q u)) := by
  rw [exec_writeRow, whenRunning_taken h]

theorem exec_writeRow_refused {why : Reason} (h : s.Takes (goodRecord (writeCode run) q) u)
    (hv : writeCommand run q u = .refused why) : exec (writeRow run q) s = .next (u.refuses q (writeCode run) why) := by
  rw [exec_writeRow_taken h, hv]
  rfl

end

/-- The tables whose entries demand one level of every write, with that level. -/
theorem writeDemand_fixed {n : Nat} {t : TableId} (h : tableOf n = some t) (s : State) (i : Nat)
    (fields : List (Nat × Nat)) :
    (n ≤ 1 → tableLevel t = 0 ∧ writeDemand s t i fields = 0) ∧
    (n = 2 ∨ n = 3 ∨ n = 9 → tableLevel t = 1 ∧ writeDemand s t i fields = 1) := by
  match n, h with
  | 0, h | 1, h | 2, h | 3, h | 4, h | 5, h | 6, h | 7, h | 8, h | 9, h => cases h; simp [tableLevel, writeDemand]

/-- The tables that may only be read. -/
theorem readOnly_table {n : Nat} {t : TableId} (h : tableOf n = some t) (hn : n = 6 ∨ n = 7 ∨ n = 8 ∨ 9 < n) (s : State) :
    t.writable = false ∧ tableLevel t = 2 ∧ ∀ i fields, writeDemand s t i fields = 2 := by
  match n, h with
  | 6, h | 7, h | 8, h => cases h; exact ⟨rfl, rfl, fun _ _ => rfl⟩
  | 0, _ | 1, _ | 2, _ | 3, _ | 4, _ | 5, _ | 9, _ => omega

/-- Level 0 may write SETTINGS and PORT; level 1 WEIGHT, SWEEP and COUNTERS. -/
theorem levelAdmits_zero {s : State} {w : TableWrite} {level : Nat} (hn : w.table ≤ 1) (hl : level ≤ 0) :
    levelAdmits s level w = true :=
  levelAdmits_of (hl.trans (by decide)) (fun _ ht => ((writeDemand_fixed ht s 0 []).1 hn).1 ▸ hl)
    fun e _ _ ht _ => ((writeDemand_fixed ht s e.1 e.2).1 hn).2 ▸ hl

theorem levelAdmits_one {s : State} {w : TableWrite} {level : Nat} (hn : w.table = 2 ∨ w.table = 3 ∨ w.table = 9)
    (hl : level ≤ 1) : levelAdmits s level w = true :=
  levelAdmits_of (hl.trans (by decide)) (fun _ ht => ((writeDemand_fixed ht s 0 []).2 hn).1 ▸ hl)
    fun e _ _ ht _ => ((writeDemand_fixed ht s e.1 e.2).2 hn).2 ▸ hl

/-! ### What a command leaves of the Command Queue -/

/-- The state a verdict leaves has the Command Queue of the state it was given in. -/
def Verdict.LeavesQueue (s : State) : Verdict → Prop
  | .refused _ => True
  | .done _ t | .accepted _ t => t.commandQueue = s.commandQueue

section
variable {s : State}

theorem Verdict.LeavesQueue.of_ite {c : Prop} [Decidable c] {v w : Verdict} (hv : v.LeavesQueue s) (hw : w.LeavesQueue s) :
    (if c then v else w).LeavesQueue s := by
  split
  · exact hv
  · exact hw

theorem Verdict.LeavesQueue.unless {c : Prop} [Decidable c] {why : Reason} {w : Verdict} (h : w.LeavesQueue s) :
    (if c then .refused why else w).LeavesQueue s := .of_ite trivial h

theorem checked_leavesQueue {level : Nat} {length admits : Bool} {v : Verdict} (h : v.LeavesQueue s) :
    (checked s level length admits v).LeavesQueue s := .unless (.unless (.unless h))

/-- A mask that holds the Command Queue shows what it is left as. -/
theorem commandQueue_of_mask {m : State → State} {t : State} (h : m t = m s)
    (hm : ∀ u, (m u).commandQueue = u.commandQueue) : t.commandQueue = s.commandQueue := by
  rw [← hm t, h, hm s]

theorem foldl_commandQueue {α : Type} {f : State → α → State} (h : ∀ t a, (f t a).commandQueue = t.commandQueue)
    (l : List α) : (l.foldl f s).commandQueue = s.commandQueue := foldl_mask State.commandQueue f h l s

theorem writeOnePort_commandQueue (tag : BitVec 16) (t : State) (e : Nat × List (Nat × Nat)) :
    (writeOnePort tag t e).commandQueue = t.commandQueue := by
  have applied := commandQueue_of_mask (applyPortWrite_sweepMask t e.1 e.2) fun _ => rfl
  unfold writeOnePort
  split
  · exact commandQueue_of_mask (holdPortWrite_portMask t e.1 tag e.2) fun _ => rfl
  · dsimp only
    split
    · exact (commandQueue_of_mask (tryChoose_sweepMask _ e.1) fun _ => rfl).trans applied
    · exact applied

theorem writeOneSweep_commandQueue (s t : State) (e : Nat × List (Nat × Nat)) :
    (if s.underVisit e.1 then holdSweepWrite e.1 e.2 t else applySweepWrite e.1 e.2 t).commandQueue = t.commandQueue := by
  split
  · exact commandQueue_of_mask (holdSweepWrite_sweepMask t e.1 e.2) fun _ => rfl
  · exact commandQueue_of_mask (applySweepWrite_sweepMask t e.1 e.2) fun _ => rfl

theorem clearCounter_commandQueue (i : Nat) (t : State) (f : Nat) : (clearCounter i t f).commandQueue = t.commandQueue := by
  unfold clearCounter
  split
  · split
    · rfl
    · split <;> rfl
  · rfl

theorem writeTable_leavesQueue (t : TableId) (c : Cmd) (w : TableWrite) : (writeTable t c w s).LeavesQueue s := by
  cases t with
  | settings => exact .unless (.unless rfl)
  | port =>
    have written := foldl_commandQueue (s := s) (writeOnePort_commandQueue c.tag) w.covers
    exact .unless (.of_ite written written)
  | weight =>
    show (w.covers.foldl (fun t e => t.setWeightSet e.1 (e.2.foldl WeightSet.write (t.weightSet e.1))) s).commandQueue = _
    exact foldl_commandQueue
      (f := fun t e => t.setWeightSet e.1 (e.2.foldl WeightSet.write (t.weightSet e.1))) (fun _ _ => rfl) w.covers
  | sweep =>
    have written := foldl_commandQueue (s := s) (writeOneSweep_commandQueue s) w.covers
    have chosen := (commandQueue_of_mask (tryBoth_sweepMask _) fun _ => rfl).trans written
    have both (u : State) (body : List Byte) (h : u.commandQueue = s.commandQueue) :
        (if w.covers.any fun e => s.underVisit e.1 then Verdict.accepted body u else .done body u).LeavesQueue s :=
      .of_ite h h
    unfold writeTable writeSweeps
    refine both _ _ ?_
    split
    · exact written
    · exact chosen
  | service => exact .unless rfl
  | candidate => exact .unless rfl
  | counters =>
    exact foldl_commandQueue (fun t (e : Nat × List (Nat × Nat)) =>
      foldl_commandQueue (s := t) (clearCounter_commandQueue e.1) (e.2.map Prod.fst)) w.covers
  | grades => exact trivial
  | laneMap => exact trivial
  | directory => exact trivial

theorem writeCommand_leavesQueue (run : Bool) (c : Cmd) : (writeCommand run c s).LeavesQueue s := by
  cases hw : writeBody run c.body with
  | none =>
    rw [writeCommand_badLength hw]
    trivial
  | some w =>
    rw [writeCommand_eq hw]
    refine checked_leavesQueue ?_
    split
    · trivial
    · exact .of_ite (writeTable_leavesQueue _ c w) trivial

theorem readEntry_leavesQueue (c : Cmd) : (readEntry c s).LeavesQueue s := by
  unfold readEntry
  split
  · trivial
  · exact checked_leavesQueue (.of_ite rfl trivial)

theorem quarantineCommand_leavesQueue (b : List Byte) : (quarantineCommand b s).LeavesQueue s := by
  have kept := commandQueue_of_mask (quarantineCandidate_rankMask s (beAt b 0 2) .manual (beAt b 2 2)) fun _ => rfl
  refine .unless (.unless ?_)
  dsimp only
  split <;> exact kept

theorem holdCommand_leavesQueue (b : List Byte) : (holdCommand b s).LeavesQueue s := by
  unfold holdCommand
  split
  · trivial
  · exact commandQueue_of_mask (holdPorts_sweepMask s _) fun _ => rfl

theorem resumeCommand_leavesQueue (b : List Byte) : (resumeCommand b s).LeavesQueue s := by
  unfold resumeCommand
  split
  · trivial
  · exact commandQueue_of_mask (resumePorts_sweepMask s _) fun _ => rfl

end

/-! ### The head of the Command Queue -/

/-- The row of a record is the taking of that record by the Management Unit. -/
structure ManagedRow (r : CommandRecord) (i : Instr) (f : State → Verdict) : Prop where
  exec_eq : ∀ s, exec i s = whenRunning s (manage r f)
  leavesQueue : ∀ s, (f s).LeavesQueue s

theorem goodRecord_eq {r : CommandRecord} (hg : r.checkGood = true) {n : Nat} (hn : r.code.toNat = n) :
    goodRecord (BitVec.ofNat 8 n) r.cmd = r := by
  obtain ⟨code, good, cmd⟩ := r
  have hcode : BitVec.ofNat 8 n = code := by rw [← hn, BitVec.ofNat_toNat, BitVec.setWidth_eq]
  cases hg
  rw [goodRecord, hcode]

/-- A known row with its own record. -/
theorem ManagedRow.known {r : CommandRecord} {code : Byte} {i : Instr} {f : State → Verdict}
    (hr : goodRecord code r.cmd = r) (hi : ∀ s, exec i s = whenRunning s (manage (goodRecord code r.cmd) f))
    (hf : ∀ s, (f s).LeavesQueue s) : ∃ f, ManagedRow r i f :=
  ⟨f, fun s => (hi s).trans (by rw [hr]), hf⟩

/-- A command of a fixed length leaves the queue as its meaning does. -/
theorem ManagedRow.command {r : CommandRecord} {code : Byte} {i : Instr} {n m : Nat} {v : State → Verdict}
    (hr : goodRecord code r.cmd = r)
    (hi : ∀ s, exec i s = whenRunning s (manage (goodRecord code r.cmd) (command n m r.cmd v)))
    (hv : ∀ s, (v s).LeavesQueue s) : ∃ f, ManagedRow r i f :=
  ManagedRow.known hr hi fun s => checked_leavesQueue (hv s)

theorem exec_unknownCommand {r : CommandRecord} (h : (r.checkGood && knownCode r.code) = false) :
    ManagedRow r (.unknownCommand r) fun _ => refuseRecord r where
  exec_eq s := by
    have dispatch : exec (.unknownCommand r) s = execUnknownCommand r s := rfl
    rw [dispatch, execUnknownCommand, h]
    rfl
  leavesQueue s := by
    unfold refuseRecord
    split <;> trivial

theorem commandInstr_managed (r : CommandRecord) : ∃ f, ManagedRow r (commandInstr r) f := by
  cases hg : r.checkGood with
  | false =>
    have hrow : commandInstr r = .unknownCommand r := by rw [commandInstr, hg]; rfl
    rw [hrow]
    exact ⟨_, exec_unknownCommand (by rw [hg, Bool.false_and])⟩
  | true =>
    have good {n : Nat} (hn : r.code.toNat = n) := goodRecord_eq hg hn
    unfold commandInstr
    rw [hg]
    simp only [Bool.not_true, Bool.false_eq_true, if_false]
    split
    next hn => exact ManagedRow.command (good hn) (fun _ => rfl) fun _ => rfl
    next hn => exact ManagedRow.known (good hn) (fun _ => rfl) fun _ => readEntry_leavesQueue _
    next hn => exact ManagedRow.known (good hn) (fun _ => rfl) fun _ => writeCommand_leavesQueue false _
    next hn => exact ManagedRow.known (good hn) (fun _ => rfl) fun _ => writeCommand_leavesQueue true _
    next hn => exact ManagedRow.command (good hn) (fun _ => rfl) fun _ => .unless rfl
    next hn =>
      exact ManagedRow.command (good hn) (fun _ => rfl) fun s => .unless (commandQueue_of_mask (intervalGrading_measureMask s) fun _ => rfl)
    next hn =>
      exact ManagedRow.command (good hn) (fun _ => rfl) fun s =>
        .unless (.unless (commandQueue_of_mask (setPin_switchMask s _ _) fun _ => rfl))
    next hn =>
      exact ManagedRow.command (good hn) (fun _ => rfl) fun s =>
        .unless (.unless (commandQueue_of_mask (releasePin_switchMask s _) fun _ => rfl))
    next hn => exact ManagedRow.command (good hn) (fun _ => rfl) fun _ => quarantineCommand_leavesQueue _
    next hn =>
      exact ManagedRow.command (good hn) (fun _ => rfl) fun s =>
        .unless (.unless (commandQueue_of_mask (endQuarantine_rankMask s _) fun _ => rfl))
    next hn => exact ManagedRow.command (good hn) (fun _ => rfl) fun _ => holdCommand_leavesQueue _
    next hn => exact ManagedRow.command (good hn) (fun _ => rfl) fun _ => resumeCommand_leavesQueue _
    next hn =>
      exact ManagedRow.command (good hn) (fun _ => rfl) fun s =>
        .unless (.unless (.of_ite rfl (.unless (commandQueue_of_mask (tryBoth_sweepMask _) fun _ => rfl))))
    next hn => exact ManagedRow.command (good hn) (fun _ => rfl) fun _ => rfl
    next hn => exact ManagedRow.command (good hn) (fun _ => rfl) fun _ => rfl
    next hn => exact ManagedRow.command (good hn) (fun _ => rfl) fun _ => rfl
    next hn => exact ManagedRow.command (good hn) (fun _ => rfl) fun _ => rfl
    next hn => exact ManagedRow.command (good hn) (fun _ => rfl) fun _ => .unless (.unless rfl)
    next hn => exact ManagedRow.command (good hn) (fun _ => rfl) fun _ => .unless (.unless (.unless rfl))
    next hn => exact ManagedRow.command (good hn) (fun _ => rfl) fun _ => .unless rfl
    next hn => exact ManagedRow.command (good hn) (fun _ => rfl) fun _ => .unless rfl
    next hn => exact ManagedRow.command (good hn) (fun _ => rfl) fun _ => .unless rfl
    next hn => exact ManagedRow.command (good hn) (fun _ => rfl) fun _ => rfl
    next =>
      have hunknown : knownCode r.code = false := by
        simp only [knownCode, between, Bool.or_eq_false_iff, Bool.and_eq_false_iff, decide_eq_false_iff_not]
        simp only [imp_false] at *
        refine ⟨⟨⟨⟨⟨⟨?_, ?_⟩, ?_⟩, ?_⟩, ?_⟩, ?_⟩, ?_⟩ <;> omega
      exact ⟨_, exec_unknownCommand (by rw [hunknown, Bool.and_false])⟩

theorem answer_reply (r : CommandRecord) (s : State) (v : Verdict) :
    ∃ reply, (answer r s v).replyInHand = some reply ∧ reply.tag = r.cmd.tag ∧ reply.code = r.code := by
  cases v <;> exact ⟨_, rfl, rfl, rfl⟩

theorem answer_commandQueue {s : State} {v : Verdict} (h : v.LeavesQueue s) (r : CommandRecord) :
    (answer r s v).commandQueue = s.commandQueue := by
  cases v with
  | refused why => rfl
  | done body t => exact h
  | accepted body t => exact h

/-- With nothing else to do, the part takes the head of its Command Queue (log 3). -/
theorem step_commandQueue {s : State} {r : CommandRecord} {rest : List CommandRecord} (hr : s.phase = .running)
    (hq : s.commandQueue = r :: rest) (hf : s.freeForCommand = true) (hp : s.pending = []) (hi : s.inFlight = [])
    (hc : s.changes = [] ∨ s.headHeld = true) (hn : s.noticeQueue = []) : step s = exec (commandInstr r) s := by
  obtain ⟨hreply, hrestart⟩ := State.freeForCommand_iff.mp hf
  have hchange : changeReady s = false := by rcases hc with hc | hc <;> simp [changeReady, hc]
  have hreplyReady : replyReady s = false := by simp [replyReady, hreply]
  have hreportReady : reportReady s = false := by simp [reportReady, hn]
  have hrow : ownRow s = some (commandInstr r) := by
    unfold ownRow
    rw [hr]
    unfold runningRow
    simp only [hi, hchange, hreplyReady, hreportReady, hf, hq, Bool.false_eq_true, if_false, if_true, List.head?_cons]
  unfold step
  rw [hp]
  unfold ownStep
  rw [hrow]

/-- A code that is none of those of section 10.9. -/
theorem knownCode_false : ∀ code : Byte, code ∉ ([0x01, 0x02, 0x03, 0x04, 0x05, 0x10, 0x11, 0x12, 0x13, 0x14, 0x20, 0x21,
    0x22, 0x28, 0x29, 0x30, 0x31, 0x38, 0x39, 0x3A, 0x40, 0x41, 0x42] : List Byte) → knownCode code = false := by
  decide +kernel

/-- Settles O60: each check as the verdict of the command or of the write, and the head of the queue by its row. -/
theorem refusalsAndWaiting : Obligations.RefusalsAndWaiting := by
  unfold Obligations.RefusalsAndWaiting
  intro rows tables generic code taken
  refine ⟨fun row hrow s u c h => ?fixed, fun row hrow s run q hb hn => ?named, fun s u run q h => ?writes,
    fun row hrow s c h rest hr hq hne => ?waits, fun s u r h => ?unknown, fun s r rest hr hq => ?head⟩
  case fixed =>
    obtain ⟨v, hexec⟩ := exec_commandRow row hrow c
    have hnext : exec (row.1 c) s = .next (answer (goodRecord row.2.1 c) u (command row.2.2.1 row.2.2.2 c v u)) := by
      rw [hexec]
      exact whenRunning_taken (r := goodRecord row.2.1 c) h _
    refine ⟨fun hb => ?badLength, fun hb hl => ?level⟩
    case badLength =>
      rw [hnext, command_badLength hb]
      rfl
    case level =>
      rw [hnext, command_level hb (by rwa [State.Takes.commission h])]
      rfl
  case named =>
    have htable : ∃ t, (row.1, row.2, t) ∈ tableRows := by
      revert row
      simp only [tables, List.forall_mem_cons]
      simp [tableRows]
    obtain ⟨t, ht⟩ := htable
    exact exec_tableRow_named ht hb hn s
  case writes =>
    have refused {why : Reason} (hv : writeCommand run q u = .refused why) :
        exec (generic run q) s = .next (u.refuses q (code run) why) := exec_writeRow_refused h hv
    refine ⟨fun hw => refused (writeCommand_badLength hw), fun w hw => ?_⟩
    intro _
    have within {most : Nat} (hl : s.admitsLevel q.level most) : withinCeiling u q.level = true :=
      withinCeiling_of_admits (m := most) (by rwa [State.admitsLevel, State.Takes.commission h])
    refine ⟨fun hl => ?ceiling, fun e he t ht hin hl => ?demand, fun ht hl hrange => ?settings, fun ht hl hrange => ?weights,
      fun ht hl => ?readOnly⟩
    case ceiling =>
      refine refused (writeCommand_level hw (hl.symm.imp (fun hc => withinCeiling_false (.inr ?_)) levelAdmits_of_two_lt))
      rwa [State.Takes.commission h]
    case demand =>
      refine refused (writeCommand_level hw (.inr (levelAdmits_of_entry he ?_)))
      obtain ⟨hzero, hone⟩ := writeDemand_fixed ht u e.1 e.2
      refine Bool.eq_false_iff.mpr fun hmay => ?_
      have hdemand := (mayWrite_iff.mp hmay).2 t ht hin
      rcases hl with ⟨hn, hl⟩ | ⟨hn, hl⟩
      · rw [(hzero hn).2] at hdemand
        omega
      · rw [(hone hn).2] at hdemand
        omega
    case settings => exact refused (writeCommand_range hw (within hl) (levelAdmits_zero ht hl.1) hrange)
    case weights => exact refused (writeCommand_range hw (within hl) (levelAdmits_one ht hl.1) hrange)
    case readOnly =>
      have fixed (t : TableId) (ht' : tableOf w.table = some t) : t.writable = false ∧ tableLevel t = 2 ∧
          ∀ i fields, writeDemand u t i fields = 2 := readOnly_table ht' ht u
      refine refused (writeCommand_range hw (within hl) (levelAdmits_of hl.1 (fun t ht' => ?_) fun e _ t ht' _ => ?_)
        (inRange_readOnly fun t ht' => (fixed t ht').1))
      · exact (fixed t ht').2.1 ▸ hl.1
      · exact (fixed t ht').2.2 e.1 e.2 ▸ hl.1
  case waits =>
    obtain ⟨v, hexec⟩ := exec_commandRow row hrow c
    have hjoins : exec (row.1 c) s = .next (joinCommandQueue (goodRecord row.2.1 c) s) := by
      rw [hexec, whenRunning_next hr, manage_waits (r := goodRecord row.2.1 c) hq hne]
    rw [hjoins]
    exact ⟨fun hlt => congrArg _ (joinCommandQueue_joined hlt), fun hge => congrArg _ (joinCommandQueue_full hge)⟩
  case unknown =>
    refine ⟨fun hg => ?badCheck, fun hg hc => ?unknown⟩
    case badCheck =>
      rw [(exec_unknownCommand (r := r) (by rw [hg, Bool.false_and])).exec_eq, whenRunning_taken h, refuseRecord, hg]
      rfl
    case unknown =>
      have hknown := knownCode_false r.code hc
      rw [(exec_unknownCommand (r := r) (by rw [hknown, Bool.and_false])).exec_eq, whenRunning_taken h, refuseRecord, hg]
      rfl
  case head =>
    obtain ⟨f, hf⟩ := commandInstr_managed r
    refine ⟨fun hbusy => ?busy, fun hreply hrestart => ?free⟩
    case busy =>
      have hnot : s.freeForCommand = false := Bool.eq_false_iff.mpr fun hfree => by
        obtain ⟨hreply, hrestart⟩ := State.freeForCommand_iff.mp hfree
        exact hbusy.elim (· hreply) (· hrestart)
      rw [hf.exec_eq, whenRunning_next hr, manage_head_waits hq hnot]
    case free =>
      have hfree : s.freeForCommand = true := State.freeForCommand_iff.mpr ⟨hreply, hrestart⟩
      have hnext : exec (commandInstr r) s =
          .next (answer r { s with commandQueue := rest } (f { s with commandQueue := rest })) := by
        rw [hf.exec_eq, whenRunning_next hr, manage_head hq hfree]
      refine ⟨?_, fun hrest => ?_, fun hp hi hc hn => step_commandQueue hr hq hfree hp hi hc hn⟩
      · obtain ⟨reply, hreply, htag, hcode⟩ := answer_reply r { s with commandQueue := rest } (f { s with commandQueue := rest })
        exact ⟨_, reply, hnext, answer_commandQueue (hf.leavesQueue _) r, hreply, htag, hcode⟩
      · have htakes : ({ s with commandQueue := [] } : State).takesCommand := ⟨hr, rfl, hreply, hrestart⟩
        rw [hnext, hrest, hf.exec_eq, whenRunning_next htakes.1, manage_takes htakes]

end Sys2Proof.Machine
end

section
/-! PROOFS. Saves and restarts (O59), posted writes (O38), and the writes of SETTINGS, WEIGHT and COUNTERS (O56, O57). -/

namespace Sys2Proof.Machine

/-! ### The Settings Store (R168 to R171) -/

section
variable {s : State} {i : Image}

theorem saveSettings_busy (h : s.save.isSome = true) : saveSettings s = .refused .busy := if_pos h
theorem saveSettings_saves (h : s.save = none) :
    saveSettings s = .accepted [] { s with save := some (takeSnapshot s), store := s.store.unwritten } := by
  simp [saveSettings, h]

theorem softRestart_busy (h : s.save.isSome = true) : softRestart s = .refused .busy := if_pos h
theorem softRestart_restarts (h : s.save = none) : softRestart s = .done [] { s with restart := some .soft } := by
  simp [softRestart, h]

/-- The snapshot holds the applied configuration of every table. -/
theorem takeSnapshot_reads (h : s.canonical) :
    (∀ p, Table.get PortConfig.default (takeSnapshot s).ports p = (s.port p).cfg) ∧
    (∀ e, Table.get SweepConfig.default (takeSnapshot s).sweep e = (s.sweepEntry e).cfg) ∧
    (∀ k, Table.get ServiceSaved.default (takeSnapshot s).services k = ⟨(s.service k).cfg, (s.service k).pinned⟩) ∧
    (∀ d, Table.get (fun _ => CandidateConfig.free) (takeSnapshot s).candidates d = (s.candidate d).cfg) := by
  obtain ⟨hports, -, hservices, hcandidates, -, hsweep, -⟩ := h
  exact ⟨fun p => Table.get_remap Port.default _ (fun _ v => v.cfg) _ hports.1 p rfl,
    fun e => Table.get_remap SweepEntry.default _ (fun _ v => v.cfg) _ hsweep.1 e rfl,
    fun k => Table.get_remap Service.default _ (fun _ v => (⟨v.cfg, v.pinned⟩ : ServiceSaved)) _ hservices.1 k rfl,
    fun d => Table.get_remap Candidate.default _ (fun _ v => v.cfg) _ hcandidates.1 d rfl⟩

theorem saveEnds_none (h : s.save = none) (good : Bool) : saveEnds good s = s := by
  unfold saveEnds
  simp only [h]

theorem saveEnds_good (h : s.save = some i) : saveEnds true s =
    ({ s with
      save := none, generation := nextGeneration s.generation
      store := .written { i with generation := nextGeneration s.generation } }).post
        (.saveDone true (nextGeneration s.generation)) := by
  unfold saveEnds
  simp only [h, if_true]

theorem saveEnds_bad (h : s.save = some i) : saveEnds false s =
    (({ s with save := none, store := s.store.unwritten }).raise .storeWrite).post (.saveDone false s.generation) := by
  unfold saveEnds
  simp only [h, Bool.false_eq_true, if_false]

theorem nextGeneration_succ {g : BitVec 32} (h : g ≠ 0xFFFFFFFF) : nextGeneration g = g + 1 := if_neg h

theorem exec_saveWriteDone (hr : s.phase = .running) (good : Bool) (time : Nat) :
    exec (.saveWriteDone good time) s = .next (saveEnds good (s.atTime time)) :=
  whenRunning_next hr fun u => saveEnds good (u.atTime time)

theorem Store.unwritten_invalid (x : Store) : x.unwritten.valid = false := rfl

end

/-- Settles O59: the three commands, the end of the write, and the validity of an image. -/
theorem savesAndRestarts : Obligations.SavesAndRestarts := by
  refine ⟨fun s c h hcan hl hb => ?commands, fun s i time hr => ?done, fun x => ?valid⟩
  case commands =>
    have hlength : c.body.length = 0 := List.length_eq_zero_iff.mpr hb
    have saves : exec (.saveSettings c) s = .next (answer (goodRecord 0x40 c) s (saveSettings s)) :=
      exec_checked h hlength hl 0x40 saveSettings
    have softly : exec (.softRestart c) s = .next (answer (goodRecord 0x41 c) s (softRestart s)) :=
      exec_checked h hlength hl 0x41 softRestart
    refine ⟨fun hs => ?saved, fun hs => ?busy, fun hs => ?soft, fun hs => ?softBusy,
      exec_checked h hlength hl 0x42 hardRestart⟩
    case saved =>
      rw [saveSettings_saves hs] at saves
      refine ⟨takeSnapshot s, saves, fun t ht => ?_, rfl, rfl, rfl, takeSnapshot_reads hcan⟩
      cases saves.symm.trans ht
      exact s.store.unwritten_invalid
    case busy => rw [saves, saveSettings_busy hs]; rfl
    case soft => rw [softly, softRestart_restarts hs]; rfl
    case softBusy => rw [softly, softRestart_busy hs]; rfl
  case done =>
    refine ⟨fun hs good => ?none, fun hs hg => ?good, fun hs => ?bad⟩
    case none => rw [exec_saveWriteDone hr, saveEnds_none (s := s.atTime time) hs]
    case good =>
      have hnext : nextGeneration (s.atTime time).generation = s.generation + 1 := nextGeneration_succ hg
      rw [exec_saveWriteDone hr, saveEnds_good (s := s.atTime time) hs, hnext, Store.written, imageCrc_eq]
    case bad =>
      rw [exec_saveWriteDone hr, saveEnds_bad (s := s.atTime time) hs]
      rfl
  case valid => rw [x.valid_iff, imageCrc_eq]

/-! ### A table write taken by a free unit -/

section
variable {s : State} {run : Bool} {q : Cmd} {w : TableWrite} {t : TableId}

/-- The body of a write begins with the code of its table. -/
theorem writeBody_table (hw : writeBody run q.body = some w) : q.body ≠ [] ∧ octetAt q.body 0 = w.table := by
  have nonempty {n : Nat} (hn : 0 < n) (h : n ≤ q.body.length) : q.body ≠ [] := List.ne_nil_of_length_pos (hn.trans_le h)
  cases run with
  | false =>
    obtain ⟨⟨hlength, -⟩, hw⟩ := Option.ite_none_right_eq_some.mp hw
    cases hw
    exact ⟨nonempty (by decide) hlength, rfl⟩
  | true =>
    obtain ⟨⟨hlength, -⟩, hw⟩ := Option.ite_none_right_eq_some.mp hw
    cases hw
    exact ⟨nonempty (by decide) hlength, rfl⟩

/-- The row of a table and the generic row, on a write of that table, come to the same verdict. -/
theorem exec_tableRow_both {row : Bool → Cmd → Instr} (h : s.takesCommand) (hw : writeBody run q.body = some w)
    (hrow : (row, w.table, t) ∈ tableRows) {v : Verdict} (hv : writeCommand run q s = v) :
    exec (row run q) s = .next (answer (goodRecord (writeCode run) q) s v) ∧
      exec (writeRow run q) s = .next (answer (goodRecord (writeCode run) q) s v) := by
  obtain ⟨hb, hn⟩ := writeBody_table hw
  have generic : exec (writeRow run q) s = .next (answer (goodRecord (writeCode run) q) s v) := by
    rw [exec_writeRow_taken (h.takes _), hv]
  exact ⟨(exec_tableRow_named hrow hb hn s).trans generic, generic⟩

theorem length_covers (w : TableWrite) : w.covers.length = w.entries.length := by simp [TableWrite.covers]

end

/-! ### Posted writes (R35 to R38) -/

section
variable {s : State} {q : Cmd} {service : Bool} {reply : List Byte} {l : List (Nat × List (Nat × Nat))}

theorem postChanges_full (h : 32 < s.changes.length + l.length) : postChanges service q reply l s = .refused .full := if_pos h

theorem postChanges_posted (h : s.changes.length + l.length ≤ 32) : postChanges service q reply l s =
    .accepted reply { s with
      changes := s.changes ++ l.map fun e => Change.mk q.tag q.level service e.1 e.2 } := if_neg (Nat.not_lt.mpr h)

end

/-- A posted table, with its row and what its entries demand. -/
structure PostedTable (s : State) (n : Nat) (t : TableId) (service : Bool) (demand : Nat × List (Nat × Nat) → Nat) : Prop where
  table : tableOf n = some t
  level : tableLevel t = 2
  demands : ∀ e, writeDemand s t e.1 e.2 = demand e
  writes : ∀ (q : Cmd) (w : TableWrite) (u : State), writeTable t q w u =
    postChanges service q (be8 w.table ++ be16 w.index ++ be8 w.entries.length) w.covers u

theorem postedTable_service (s : State) : PostedTable s 4 .service true fun e => s.guardOf e.1 :=
  ⟨rfl, rfl, fun _ => rfl, fun _ _ _ => rfl⟩

theorem postedTable_candidate (s : State) :
    PostedTable s 5 .candidate false fun e => demandOfOwners s (s.candidate e.1).cfg.owner (ownerAfter s e.1 e.2) :=
  ⟨rfl, rfl, fun _ => rfl, fun _ _ _ => rfl⟩

section
variable {s : State} {run : Bool} {q : Cmd} {w : TableWrite} {t : TableId} {service : Bool}
  {demand : Nat × List (Nat × Nat) → Nat}

theorem PostedTable.levelAdmits (p : PostedTable s w.table t service demand) (hl : q.level ≤ 2)
    (hd : ∀ e ∈ w.covers, q.level ≤ demand e) : levelAdmits s q.level w = true := by
  have same {t' : TableId} (ht : tableOf w.table = some t') : t' = t := Option.some.inj (ht.symm.trans p.table)
  refine levelAdmits_of hl (fun t' ht => ?_) fun e he t' ht _ => ?_
  · rw [same ht, p.level]
    exact hl
  · rw [same ht, p.demands]
    exact hd e he

section
variable (p : PostedTable s w.table t service demand) (hw : writeBody run q.body = some w)
include p hw

theorem PostedTable.level_refused {e : Nat × List (Nat × Nat)} (he : e ∈ w.covers) (hin : t.holds e.1 = true)
    (hd : demand e < q.level) : writeCommand run q s = .refused .level := by
  refine writeCommand_level hw (.inr (levelAdmits_of_entry he (Bool.eq_false_iff.mpr fun hmay => ?_)))
  have hdemand := (mayWrite_iff.mp hmay).2 t p.table hin
  rw [p.demands] at hdemand
  omega

variable (hl : s.admitsLevel q.level 2) (hd : ∀ e ∈ w.covers, q.level ≤ demand e)
include hl hd

theorem PostedTable.range_refused (h : w.inRange = false) : writeCommand run q s = .refused .range :=
  writeCommand_range hw (withinCeiling_of_admits hl) (p.levelAdmits hl.1 hd) h

theorem PostedTable.writes_covers (h : w.inRange = true) : writeCommand run q s =
    postChanges service q (be8 w.table ++ be16 w.index ++ be8 w.entries.length) w.covers s := by
  rw [writeCommand_writes hw (withinCeiling_of_admits hl) (p.levelAdmits hl.1 hd) p.table h, p.writes]

theorem PostedTable.full_refused (h : w.inRange = true) (hn : 32 < s.changes.length + w.entries.length) :
    writeCommand run q s = .refused .full := by
  rw [p.writes_covers hw hl hd h, postChanges_full (by rwa [length_covers])]

theorem PostedTable.posts (h : w.inRange = true) (hn : s.changes.length + w.entries.length ≤ 32) :
    writeCommand run q s = .accepted (be8 w.table ++ be16 w.index ++ be8 w.entries.length) { s with
      changes := s.changes ++ w.covers.map fun e => Change.mk q.tag q.level service e.1 e.2 } := by
  rw [p.writes_covers hw hl hd h, postChanges_posted (by rwa [length_covers])]

end

end

theorem candidateRange_field {f v : Nat} : candidateRange f v = true → 1 ≤ f ∧ f ≤ 14 := by
  unfold candidateRange
  split <;> simp

/-- The value a selection gives a field that it names once. -/
theorem selected_of_mem {fields : List (Nat × Nat)} (hn : (fields.map Prod.fst).Nodup) {f v : Nat} (h : (f, v) ∈ fields) :
    selected? fields f = some v := by
  induction fields with
  | nil => exact nomatch h
  | cons x fields ih =>
    obtain ⟨hx, hn⟩ := List.nodup_cons.mp hn
    unfold selected?
    rw [List.find?_cons]
    rcases List.mem_cons.mp h with rfl | h
    · rw [beq_self_eq_true]
      rfl
    · have hne : (x.1 == f) = false := beq_false_of_ne fun he => hx (he ▸ List.mem_map_of_mem h)
      rw [hne]
      exact ih hn h

/-- The forms of a CANDIDATE write that check 6 refuses (R36, R164). -/
theorem candidate_outOfRange {w : TableWrite} {e : Nat × List (Nat × Nat)} (he : e ∈ w.covers) (ht : w.table = 5)
    (h : 2048 ≤ e.1 ∨ e.2 = [] ∨ ¬(e.2.map Prod.fst).Nodup ∨ (∃ fv ∈ e.2, fv.1 = 0 ∨ 14 < fv.1) ∨ (1, 3) ∈ e.2 ∨
      ((1, 0) ∈ e.2 ∧ 1 < e.2.length)) : w.inRange = false := by
  refine Bool.eq_false_iff.mpr fun hin => ?_
  obtain ⟨t, htable, -, hall⟩ := inRange_iff.mp hin
  rw [ht] at htable
  cases htable
  obtain ⟨hne, hnodup, hholds, -, hfields, hform⟩ := entryInRange_iff.mp (hall e he).2
  rcases h with h | h | h | ⟨fv, hfv, h⟩ | h | ⟨h, hlength⟩
  · have hindex : e.1 < 2048 := of_decide_eq_true hholds
    omega
  · exact hne h
  · exact h hnodup
  · have hrange : candidateRange fv.1 fv.2 = true := hfields fv hfv
    have hfield := candidateRange_field hrange
    omega
  · exact nomatch (hfields _ h : candidateRange 1 3 = true)
  · have hlone := (Bool.and_eq_true_iff.mp (hform rfl)).2
    rw [selected_of_mem hnodup h] at hlone
    have hone : e.2.length = 1 := by simpa using hlone
    omega

/-- Settles O38: both posted tables by one argument, the levels by the owners, and the forms check 6 refuses. -/
theorem postedWrites : Obligations.PostedWrites := by
  intro s run q w h hw code guard generic both posted
  have four (ht : w.table = 4) : PostedTable s w.table .service true fun e => s.guardOf e.1 := ht ▸ postedTable_service s
  have five (ht : w.table = 5) : PostedTable s w.table .candidate false fun e =>
      demandOfOwners s (s.candidate e.1).cfg.owner (ownerAfter s e.1 e.2) := ht ▸ postedTable_candidate s
  have serviceRow {v : Verdict} (ht : w.table = 4) (hv : writeCommand run q s = v) :
      both (.serviceWrite run q) (answer (goodRecord (writeCode run) q) s v) :=
    exec_tableRow_both h hw (row := .serviceWrite) (t := .service) (by simp [tableRows, ht]) hv
  have candidateRow {v : Verdict} (ht : w.table = 5) (hv : writeCommand run q s = v) :
      both (.candidateWrite run q) (answer (goodRecord (writeCode run) q) s v) :=
    exec_tableRow_both h hw (row := .candidateWrite) (t := .candidate) (by simp [tableRows, ht]) hv
  exact ⟨fun ht hin hl hd hn => serviceRow ht ((four ht).posts hw hl hd hin hn),
    fun ht hin hl hd hn => serviceRow ht ((four ht).full_refused hw hl hd hin hn),
    fun ht hl hd hin => serviceRow ht ((four ht).range_refused hw hl hd hin),
    fun e he ht hk hd => serviceRow ht ((four ht).level_refused hw he (decide_eq_true hk) hd),
    fun ht hin hl hd hn => candidateRow ht ((five ht).posts hw hl hd hin hn),
    fun ht hin hl hd hn => candidateRow ht ((five ht).full_refused hw hl hd hin hn),
    fun ht hl hd hin => candidateRow ht ((five ht).range_refused hw hl hd hin),
    fun e he ht hc hd => candidateRow ht ((five ht).level_refused hw he (decide_eq_true hc) hd),
    fun j n => ⟨rfl, rfl, rfl, rfl⟩, fun _ e he ht hbad => candidate_outOfRange he ht hbad⟩

end Sys2Proof.Machine
end

section
/-! PROOFS. The writes of SETTINGS, WEIGHT and COUNTERS (O56, O57), read back field by field. -/

namespace Sys2Proof.Machine

/-! ### A record written field by field -/

theorem selected_cons_same (v f : Nat) (fields : List (Nat × Nat)) : selected? ((f, v) :: fields) f = some v := by
  simp [selected?]

theorem selected_cons_other {x : Nat × Nat} {f : Nat} (h : x.1 ≠ f) (fields : List (Nat × Nat)) :
    selected? (x :: fields) f = selected? fields f := by
  simp [selected?, h]

theorem selected_none {fields : List (Nat × Nat)} {f : Nat} (h : f ∉ fields.map Prod.fst) : selected? fields f = none := by
  induction fields with
  | nil => rfl
  | cons x fields ih =>
    obtain ⟨hne, hrest⟩ := not_or.mp (mt List.mem_cons.mpr h)
    rw [selected_cons_other (Ne.symm hne)]
    exact ih hrest

/-- Where one write sets the field it names and leaves every other, a selection sets what it names, each to its value. -/
theorem read_foldl_write {C : Type} {write : C → Nat × Nat → C} {read : C → Nat → Nat} {P : Nat × Nat → Prop}
    (h : ∀ c fv f, P fv → read (write c fv) f = if f = fv.1 then fv.2 else read c f) (fields : List (Nat × Nat))
    (hn : (fields.map Prod.fst).Nodup) (hp : ∀ fv ∈ fields, P fv) (c : C) (f : Nat) :
    read (fields.foldl write c) f = (selected? fields f).getD (read c f) := by
  induction fields generalizing c with
  | nil => rfl
  | cons x fields ih =>
    obtain ⟨hx, hn⟩ := List.nodup_cons.mp hn
    obtain ⟨hpx, hp⟩ := List.forall_mem_cons.mp hp
    rw [List.foldl_cons, ih hn hp, h c x f hpx]
    by_cases hf : f = x.1
    · rw [if_pos hf, hf, selected_none hx, selected_cons_same x.2]
      rfl
    · rw [if_neg hf, selected_cons_other (Ne.symm hf)]

/-! ### What stands in the tables -/

namespace Table
variable {α : Type} [DecidableEq α] {d : Nat → α} {t : Table α}

/-- A listed record with a property that no default has is a record of the table. -/
theorem any_iff (h : wf d t) {p : Nat → α → Bool} (hd : ∀ k, p k (d k) = false) :
    (t.any fun e => p e.1 e.2) = true ↔ ∃ k, p k (get d t k) = true := by
  rw [List.any_eq_true]
  refine ⟨fun ⟨e, he, hp⟩ => ⟨e.1, ?_⟩, fun ⟨k, hp⟩ => ⟨(k, get d t k), mem_of_get_ne fun hk => ?_, hp⟩⟩
  · rwa [get_of_mem h.1 he]
  · rw [hk, hd k] at hp
    exact nomatch hp

end Table

theorem laneMap_any {s : State} (h : s.canonical) (p : LaneEntry → Bool) :
    (s.laneMap.any fun e => e.2.any p) = true ↔ ∃ i e, s.lanePlace i = some e ∧ p e = true := by
  rw [Table.any_iff h.2.1 (p := fun _ v => v.any p) fun _ => rfl]
  exact exists_congr fun i => Option.any_eq_true _ _

/-! ### The SETTINGS write (R166) -/

theorem readSettings_write_other (s : State) (c : Settings) {fv : Nat × Nat} {f : Nat} (h : f ≠ fv.1) :
    readSettings { s with settings := c.write fv } f = readSettings { s with settings := c } f := by
  obtain ⟨g, v⟩ := fv
  dsimp only at h
  unfold Settings.write
  dsimp only
  split <;> (unfold readSettings; split <;> trivial)

theorem readSettings_write_same (s : State) (c : Settings) {g v : Nat} (h : settingsRange g v = true) :
    readSettings { s with settings := c.write (g, v) } g = v := by
  match g, h with
  | 1, _ | 2, _ | 3, _ | 4, _ | 5, _ | 6, _ | 7, _ | 8, _ | 9, _ | 10, _ => rfl
  | 11, h =>
    have hv : v ≤ 1 := by simpa [settingsRange, between] using h
    match v, hv with
    | 0, _ | 1, _ => rfl
  | 12, h =>
    have hv : v ≤ 0xFFFE ∧ v % 2 = 0 := by simpa [settingsRange, between] using h
    exact Nat.mod_eq_of_lt (by omega)
theorem readSettings_write (s : State) (c : Settings) (fv : Nat × Nat) (f : Nat)
    (h : settingsRange fv.1 fv.2 = true) : readSettings { s with settings := c.write fv } f =
      if f = fv.1 then fv.2 else readSettings { s with settings := c } f := by
  by_cases hf : f = fv.1
  · rw [if_pos hf, hf]
    exact readSettings_write_same s c h
  · rw [if_neg hf]
    exact readSettings_write_other s c hf

/-- A write of SETTINGS in range is a run of its single entry. -/
theorem settings_covers {w : TableWrite} (h0 : w.table = 0) (h : w.inRange = true) : ∃ fields,
    w = ⟨0, 0, [fields]⟩ ∧ w.covers = [(0, fields)] ∧ (fields.map Prod.fst).Nodup ∧
      ∀ fv ∈ fields, settingsRange fv.1 fv.2 = true := by
  obtain ⟨t, ht, hentries, hall⟩ := inRange_iff.mp h
  rw [h0] at ht
  cases ht
  obtain ⟨table, index, entries⟩ := w
  cases h0
  have first (i : Nat) (fields : List (Nat × Nat)) (he : (i, fields) ∈ TableWrite.covers ⟨0, index, entries⟩) : i = 0 :=
    beq_iff_eq.mp (entryInRange_iff.mp (hall _ he).2).2.2.1
  match entries, hentries with
  | [fields], _ =>
    obtain rfl : index = 0 := first (index + 0) fields (List.mem_singleton.mpr rfl)
    obtain ⟨-, hnodup, -, -, hrange, -⟩ := entryInRange_iff.mp (hall (0, fields) (List.mem_singleton.mpr rfl)).2
    exact ⟨fields, rfl, rfl, hnodup, hrange⟩
  | _ :: second :: _, _ =>
    exact absurd (first (index + 1) second (List.mem_cons_of_mem _ (List.mem_cons_self ..))) (Nat.succ_ne_zero index)

section
variable {s : State} {reply : List Byte} {fields : List (Nat × Nat)}

theorem writeSettings_range (h : (fields.foldl Settings.write s.settings).lanesMeet = true) :
    writeSettings reply fields s = .refused .range := if_pos h

theorem writeSettings_state (h : (fields.foldl Settings.write s.settings).lanesMeet = false)
    (hf : lanesForbidden s (fields.foldl Settings.write s.settings) = true) :
    writeSettings reply fields s = .refused .state := by
  simp [writeSettings, h, hf]

theorem writeSettings_done (h : (fields.foldl Settings.write s.settings).lanesMeet = false)
    (hf : lanesForbidden s (fields.foldl Settings.write s.settings) = false) :
    writeSettings reply fields s = .done reply { s with settings := fields.foldl Settings.write s.settings } := by
  simp [writeSettings, h, hf]

theorem lanesMeet_iff (c : Settings) : c.lanesMeet = true ↔
    c.controlLane = c.reportLane ∨ c.controlLane = c.tapLane ∨ c.reportLane = c.tapLane := by
  simp [Settings.lanesMeet, or_assoc]

theorem rangeHolds_iff {base lane : Nat} : rangeHolds base lane = true ↔ base ≤ lane ∧ lane ≤ base + 7 := by
  simp [rangeHolds]

theorem lanesForbidden_iff (h : s.canonical) (c : Settings) : lanesForbidden s c = true ↔
    (∃ i e, s.lanePlace i = some e ∧ e.source = 14 ∧ e.lane = c.controlLane) ∨
      ∃ k, (s.service k).cfg.state ≠ .unused ∧ (rangeHolds (s.service k).cfg.base c.controlLane = true ∨
        rangeHolds (s.service k).cfg.base c.reportLane = true ∨ rangeHolds (s.service k).cfg.base c.tapLane = true) := by
  have hmap := laneMap_any h fun v => v.source == 14 && v.lane == c.controlLane
  have hservices := Table.any_iff h.2.2.1 (p := fun _ v => v.cfg.state != .unused &&
    (rangeHolds v.cfg.base c.controlLane || rangeHolds v.cfg.base c.reportLane || rangeHolds v.cfg.base c.tapLane))
    fun _ => rfl
  unfold lanesForbidden mapHolds
  rw [Bool.or_eq_true, hmap, hservices]
  simp only [Bool.and_eq_true, Bool.or_eq_true, beq_iff_eq, bne_iff_ne, or_assoc]
  exact Iff.rfl

end

/-- Settles O56: the three lanes as they would be after the write decide it, and the write is read back field by field. -/
theorem settingsWrite : Obligations.SettingsWrite := by
  intro s run q w h hcan hw ht hin hl code both fields value equalLanes forbidden
  obtain ⟨fs, rfl, -, hnodup, hrange⟩ := settings_covers ht hin
  have hfields : fields = fs := List.append_nil fs
  let c := fs.foldl Settings.write s.settings
  have hread (f : Nat) : readSettings { s with settings := c } f = value f := by
    have hwritten := read_foldl_write (read := fun c f => readSettings { s with settings := c } f)
      (fun c fv f hp => readSettings_write s c fv f hp) fs hnodup hrange s.settings f
    refine hwritten.trans ?_
    rw [← hfields]
    rfl
  have hcontrol : c.controlLane = value 1 := hread 1
  have hreport : c.reportLane = value 2 := hread 2
  have htap : c.tapLane = value 3 := hread 3
  have hmeet : c.lanesMeet = true ↔ equalLanes := by
    rw [lanesMeet_iff, hcontrol, hreport, htap]
  have hforbidden : lanesForbidden s c = true ↔ forbidden := by
    rw [lanesForbidden_iff hcan, hcontrol, hreport, htap]
    refine or_congr Iff.rfl (exists_congr fun k => ?_)
    simp only [rangeHolds_iff]
    constructor
    · rintro ⟨hstate, hone | htwo | hthree⟩
      · exact ⟨1, hstate, .inl rfl, hone⟩
      · exact ⟨2, hstate, .inr (.inl rfl), htwo⟩
      · exact ⟨3, hstate, .inr (.inr rfl), hthree⟩
    · rintro ⟨f, hstate, rfl | rfl | rfl, hbase⟩
      · exact ⟨hstate, .inl hbase⟩
      · exact ⟨hstate, .inr (.inl hbase)⟩
      · exact ⟨hstate, .inr (.inr hbase)⟩
  have hverdict : writeCommand run q s = writeSettings (be8 0 ++ be16 0 ++ be8 1) fs s := by
    rw [writeCommand_writes hw (withinCeiling_of_admits hl) (levelAdmits_zero (Nat.zero_le 1) hl.1) rfl hin]
    exact congrArg (fun l => writeSettings (be8 0 ++ be16 0 ++ be8 1) l s) hfields
  have settled {v : Verdict} (hv : writeSettings (be8 0 ++ be16 0 ++ be8 1) fs s = v) :
      both (answer (goodRecord (writeCode run) q) s v) :=
    exec_tableRow_both h hw (row := .settingsWrite) (t := .settings) (by simp [tableRows]) (hverdict.trans hv)
  refine ⟨fun he => settled (writeSettings_range (hmeet.mpr he)), fun he hf => ?state, fun he hf => ?done⟩
  all_goals have hapart : c.lanesMeet = false := Bool.eq_false_iff.mpr (mt hmeet.mp he)
  case state => exact settled (writeSettings_state hapart (hforbidden.mpr hf))
  case done =>
    have hallowed : lanesForbidden s c = false := Bool.eq_false_iff.mpr (mt hforbidden.mp hf)
    exact ⟨_, settled (writeSettings_done hapart hallowed), fun f _ => hread f, rfl, rfl⟩

/-! ### The values of a body (section 10.9) -/

theorem foldl_be_lt (l : List Byte) (a : Nat) :
    l.foldl (fun a b => a * 256 + b.toNat) a < (a + 1) * 256 ^ l.length := by
  induction l generalizing a with
  | nil => simp
  | cons b l ih =>
    have hb : b.toNat < 256 := b.isLt
    have hstep : (a * 256 + b.toNat + 1) * 256 ^ l.length ≤ (a + 1) * 256 * 256 ^ l.length :=
      Nat.mul_le_mul_right _ (by omega)
    rw [List.foldl_cons, List.length_cons, Nat.pow_succ', ← Nat.mul_assoc]
    exact (ih _).trans_le hstep

theorem beAt_lt (l : List Byte) (i n : Nat) : beAt l i n < 256 ^ n := by
  refine (foldl_be_lt _ 0).trans_le ?_
  rw [Nat.zero_add, Nat.one_mul]
  exact Nat.pow_le_pow_right (by decide) (List.length_take_le n _)

theorem pairsAt_lt (n : Nat) (l : List Byte) : ∀ x ∈ pairsAt n l, x.2 < 4294967296 := by
  induction n generalizing l with
  | zero => exact fun _ hx => nomatch hx
  | succ n ih => exact List.forall_mem_cons.mpr ⟨beAt_lt l 1 4, ih _⟩

theorem valuesAt_lt (n : Nat) (l : List Byte) : ∀ v ∈ valuesAt n l, v < 4294967296 := by
  induction n generalizing l with
  | zero => exact fun _ hv => nomatch hv
  | succ n ih => exact List.forall_mem_cons.mpr ⟨beAt_lt l 0 4, ih _⟩

theorem runAt_lt (numbers : List Nat) (m : Nat) (l : List Byte) :
    ∀ fields ∈ runAt numbers m l, ∀ x ∈ fields, x.2 < 4294967296 := by
  induction m generalizing l with
  | zero => exact fun _ hf => nomatch hf
  | succ m ih =>
    refine List.forall_mem_cons.mpr ⟨fun x hx => valuesAt_lt _ _ x.2 (List.of_mem_zip hx).2, ih _⟩

/-- Every value that a write carries is a number of four octets. -/
theorem writeBody_lt {run : Bool} {b : List Byte} {w : TableWrite} (h : writeBody run b = some w) :
    ∀ fields ∈ w.entries, ∀ x ∈ fields, x.2 < 4294967296 := by
  cases run with
  | false =>
    obtain ⟨-, hw⟩ := Option.ite_none_right_eq_some.mp h
    cases hw
    exact fun fields hf => List.mem_singleton.mp hf ▸ pairsAt_lt _ _
  | true =>
    obtain ⟨-, hw⟩ := Option.ite_none_right_eq_some.mp h
    cases hw
    exact runAt_lt _ _ _

section
variable {w : TableWrite}

theorem mem_entries_of_covers {e : Nat × List (Nat × Nat)} (h : e ∈ w.covers) : e.2 ∈ w.entries := by
  obtain ⟨x, hx, rfl⟩ := List.mem_map.mp h
  exact List.fst_mem_of_mem_zipIdx hx

/-- The entries of a write have consecutive indices, so no two the same. -/
theorem covers_nodup (w : TableWrite) : (w.covers.map Prod.fst).Nodup := by
  have hindices : w.covers.map Prod.fst = (w.entries.zipIdx.map Prod.snd).map (w.index + ·) := by
    rw [TableWrite.covers, List.map_map, List.map_map]
    rfl
  rw [hindices, List.zipIdx_map_snd]
  exact (List.nodup_range' ..).map fun a b => Nat.add_left_cancel

end

/-! ### The WEIGHT write (R64) -/

theorem readWeight_write_same (u : WeightSet) {g v : Nat} (h : weightRange g v = true) (hv : v < 4294967296) :
    readWeight (u.write (g, v)) g = v := by
  match g, h with
  | 1, _ | 2, _ | 4, _ | 5, _ | 6, _ | 7, _ | 8, _ => rfl
  | 3, _ =>
    show (BitVec.ofInt 32 (BitVec.ofNat 32 v).toInt).toNat = v
    rw [BitVec.ofInt_toInt]
    exact Nat.mod_eq_of_lt hv

theorem readWeight_write_other (u : WeightSet) {fv : Nat × Nat} {f : Nat} (h : f ≠ fv.1) :
    readWeight (u.write fv) f = readWeight u f := by
  obtain ⟨g, v⟩ := fv
  dsimp only at h
  unfold WeightSet.write
  dsimp only
  split <;> (unfold readWeight; split <;> trivial)

theorem readWeight_write (u : WeightSet) (fv : Nat × Nat) (f : Nat)
    (h : weightRange fv.1 fv.2 = true ∧ fv.2 < 4294967296) :
    readWeight (u.write fv) f = if f = fv.1 then fv.2 else readWeight u f := by
  by_cases hf : f = fv.1
  · rw [if_pos hf, hf]
    exact readWeight_write_same u h.1 h.2
  · rw [if_neg hf]
    exact readWeight_write_other u hf

/-- The writing of one entry of WEIGHT. -/
def writeWeight (s : State) (e : Nat × List (Nat × Nat)) : State :=
  s.setWeightSet e.1 (e.2.foldl WeightSet.write (s.weightSet e.1))

theorem writeWeights_other {l : List (Nat × List (Nat × Nat))} {i : Nat} (h : i ∉ l.map Prod.fst) (s : State) :
    (l.foldl writeWeight s).weightSet i = s.weightSet i := by
  induction l generalizing s with
  | nil => rfl
  | cons e l ih =>
    obtain ⟨hne, hrest⟩ := not_or.mp (mt List.mem_cons.mpr h)
    exact (ih hrest _).trans (State.weightSet_setWeightSet_other _ _ _ _ hne)

theorem writeWeights_same {l : List (Nat × List (Nat × Nat))} (hn : (l.map Prod.fst).Nodup) {e : Nat × List (Nat × Nat)}
    (h : e ∈ l) (s : State) : (l.foldl writeWeight s).weightSet e.1 = e.2.foldl WeightSet.write (s.weightSet e.1) := by
  induction l generalizing s with
  | nil => exact nomatch h
  | cons x l ih =>
    obtain ⟨hx, hn⟩ := List.nodup_cons.mp hn
    rcases List.mem_cons.mp h with rfl | h
    · exact (writeWeights_other hx _).trans (State.weightSet_setWeightSet_same ..)
    · have hne : e.1 ≠ x.1 := fun he => hx (he ▸ List.mem_map_of_mem h)
      refine (ih hn h _).trans ?_
      rw [writeWeight, State.weightSet_setWeightSet_other _ _ _ _ hne]

/-! ### The COUNTERS write (R15, R33, R158) -/

/-- A counter of an entry of COUNTERS, as the pair of its index and its field. -/
def clearPair (s : State) (z : Nat × Nat) : State := clearCounter z.1 s z.2

theorem readPortCounter_clear_same (c : PortCounters) {g : Nat} (hg : 1 ≤ g ∧ g ≤ 8) :
    readPortCounter (c.clear g) g = 0 := by
  match g, hg with
  | 1, _ | 2, _ | 3, _ | 4, _ | 5, _ | 6, _ | 7, _ | 8, _ => rfl

theorem readPortCounter_clear_other (c : PortCounters) {f g : Nat} (h : g ≠ f) :
    readPortCounter (c.clear f) g = readPortCounter c g := by
  unfold PortCounters.clear
  split <;> (unfold readPortCounter; split <;> trivial)

theorem readServiceCounter_clear_same (v : Service) {g : Nat} (hg : 1 ≤ g ∧ g ≤ 4) :
    readServiceCounter (v.clearCounter g) g = 0 := by
  match g, hg with
  | 1, _ | 2, _ | 3, _ | 4, _ => rfl

theorem readServiceCounter_clear_other (v : Service) {f g : Nat} (h : g ≠ f) :
    readServiceCounter (v.clearCounter f) g = readServiceCounter v g := by
  unfold Service.clearCounter
  split <;> (unfold readServiceCounter; split <;> trivial)

/-- Where the counters of an entry stand: the eight of a port, the two of R158 at port 14, the four of a service. -/
theorem counterField_cases {i f : Nat} (h : TableId.counters.hasField i f = true) :
    (i < 15 ∧ 1 ≤ f ∧ f ≤ 8) ∨ (i = 14 ∧ f = 9) ∨ (i = 14 ∧ f = 10) ∨ (15 ≤ i ∧ 1 ≤ f ∧ f ≤ 4) := by
  have hf : 1 ≤ f ∧ f ≤ counterFields i := by simpa [TableId.hasField, between] using h
  unfold counterFields at hf
  split at hf
  · omega
  · split at hf <;> omega

section
variable {s : State} {i f : Nat}

theorem readCounter_port (hi : i < 15) (hf : f ≤ 8) : readCounter s i f = readPortCounter (s.port i).counters f := by
  rw [readCounter, if_pos hi, if_neg (by omega), if_neg (by omega)]

theorem readCounter_service (hi : 15 ≤ i) : readCounter s i f = readServiceCounter (s.service (i - 15)) f := by
  rw [readCounter, if_neg (Nat.not_lt.mpr hi)]

theorem clearPair_port (hi : i < 15) (hf : f ≤ 8) :
    clearPair s (i, f) = s.setPort i { s.port i with counters := (s.port i).counters.clear f } := by
  rw [clearPair, clearCounter, if_pos hi, if_neg (by omega), if_neg (by omega)]

theorem clearPair_service (hi : 15 ≤ i) :
    clearPair s (i, f) = s.setService (i - 15) ((s.service (i - 15)).clearCounter f) := by
  rw [clearPair, clearCounter, if_neg (Nat.not_lt.mpr hi)]

/-- The clearing of one counter leaves every other counter. -/
theorem readCounter_clearPair_other {j g : Nat} (hf : TableId.counters.hasField i f = true)
    (hg : TableId.counters.hasField j g = true) (h : (j, g) ≠ (i, f)) :
    readCounter (clearPair s (i, f)) j g = readCounter s j g := by
  rcases counterField_cases hf with ⟨hi, -, hf⟩ | ⟨rfl, rfl⟩ | ⟨rfl, rfl⟩ | ⟨hi, -⟩
  · rw [clearPair_port hi hf]
    rcases counterField_cases hg with ⟨hj, -, hg⟩ | ⟨rfl, rfl⟩ | ⟨rfl, rfl⟩ | ⟨hj, -⟩
    · rw [readCounter_port hj hg, readCounter_port hj hg]
      by_cases hji : j = i
      · subst hji
        rw [State.port_setPort_same]
        exact readPortCounter_clear_other _ fun hgf => h (by rw [hgf])
      · rw [State.port_setPort_other _ _ _ _ hji]
    · rfl
    · rfl
    · rw [readCounter_service hj, readCounter_service hj]
      rfl
  · rcases counterField_cases hg with ⟨hj, -, hg⟩ | ⟨rfl, rfl⟩ | ⟨rfl, rfl⟩ | ⟨hj, -⟩
    · rw [readCounter_port hj hg, readCounter_port hj hg]
      rfl
    · exact absurd rfl h
    · rfl
    · rw [readCounter_service hj, readCounter_service hj]
      rfl
  · rcases counterField_cases hg with ⟨hj, -, hg⟩ | ⟨rfl, rfl⟩ | ⟨rfl, rfl⟩ | ⟨hj, -⟩
    · rw [readCounter_port hj hg, readCounter_port hj hg]
      rfl
    · rfl
    · exact absurd rfl h
    · rw [readCounter_service hj, readCounter_service hj]
      rfl
  · rw [clearPair_service hi]
    rcases counterField_cases hg with ⟨hj, -, hg⟩ | ⟨rfl, rfl⟩ | ⟨rfl, rfl⟩ | ⟨hj, -⟩
    · rw [readCounter_port hj hg, readCounter_port hj hg]
      rfl
    · rfl
    · rfl
    · rw [readCounter_service hj, readCounter_service hj]
      by_cases hji : j = i
      · subst hji
        rw [State.service_setService_same]
        exact readServiceCounter_clear_other _ fun hgf => h (by rw [hgf])
      · rw [State.service_setService_other _ _ _ _ (by omega)]

theorem readCounter_clearPair_same (hf : TableId.counters.hasField i f = true) :
    readCounter (clearPair s (i, f)) i f = 0 := by
  rcases counterField_cases hf with ⟨hi, hrange⟩ | ⟨rfl, rfl⟩ | ⟨rfl, rfl⟩ | ⟨hi, hrange⟩
  · rw [clearPair_port hi hrange.2, readCounter_port hi hrange.2, State.port_setPort_same]
    exact readPortCounter_clear_same _ hrange
  · rfl
  · rfl
  · rw [clearPair_service hi, readCounter_service hi, State.service_setService_same]
    exact readServiceCounter_clear_same _ hrange

end

/-- A run of clearings sets every counter it names to 0 and leaves every other. -/
theorem readCounter_clearPairs {l : List (Nat × Nat)} (hl : ∀ z ∈ l, TableId.counters.hasField z.1 z.2 = true) {j g : Nat}
    (hg : TableId.counters.hasField j g = true) (s : State) :
    readCounter (l.foldl clearPair s) j g = if (j, g) ∈ l then 0 else readCounter s j g := by
  induction l generalizing s with
  | nil => rfl
  | cons z l ih =>
    obtain ⟨hz, hl⟩ := List.forall_mem_cons.mp hl
    rw [List.foldl_cons, ih hl]
    by_cases hin : (j, g) ∈ l
    · rw [if_pos hin, if_pos (List.mem_cons_of_mem _ hin)]
    · by_cases he : (j, g) = z
      · rw [if_neg hin, if_pos (he ▸ List.mem_cons_self ..), ← he]
        exact readCounter_clearPair_same hg
      · rw [if_neg hin, if_neg (fun hm => (List.mem_cons.mp hm).elim he hin)]
        exact readCounter_clearPair_other hz hg he

/-- The counters that a write of COUNTERS names. -/
def TableWrite.pairs (w : TableWrite) : List (Nat × Nat) := w.covers.flatMap fun e => (e.2.map Prod.fst).map (e.1, ·)

theorem writeCounters_eq (reply : List Byte) (w : TableWrite) (s : State) :
    writeCounters reply w.covers s = .done reply (w.pairs.foldl clearPair s) := by
  rw [writeCounters, TableWrite.pairs, List.foldl_flatMap]
  simp only [List.foldl_map]
  rfl

theorem mem_pairs {w : TableWrite} {i f : Nat} : (i, f) ∈ w.pairs ↔ ∃ e ∈ w.covers, e.1 = i ∧ f ∈ e.2.map Prod.fst := by
  simp only [TableWrite.pairs, List.mem_flatMap, List.mem_map, Prod.mk.injEq]
  constructor
  · rintro ⟨e, he, f', hf, hi, rfl⟩
    exact ⟨e, he, hi, hf⟩
  · rintro ⟨e, he, hi, hf⟩
    exact ⟨e, he, f, hf, hi, rfl⟩

/-- The state without its counters. -/
def counterMask (s : State) : State := { s with ports := [], services := [], malformedControl := 0, commandOverflow := 0 }

theorem clearPair_counterMask (s : State) (z : Nat × Nat) : counterMask (clearPair s z) = counterMask s := by
  unfold clearPair clearCounter
  split
  · split
    · rfl
    · split <;> rfl
  · rfl

/-- A port and a service but for their counters (R15, R33). -/
def Port.uncounted (v : Port) : Port := { v with counters := ⟨0, 0, 0, 0, 0, 0, 0, 0⟩ }
def Service.uncounted (v : Service) : Service := { v with switches := 0, forcedCuts := 0, abandoned := 0, forwardDrops := 0 }

theorem Service.clearCounter_uncounted (v : Service) (f : Nat) : (v.clearCounter f).uncounted = v.uncounted := by
  unfold Service.clearCounter
  split <;> rfl

theorem clearPair_port_uncounted (p : Nat) (s : State) (z : Nat × Nat) :
    ((clearPair s z).port p).uncounted = (s.port p).uncounted := by
  unfold clearPair clearCounter
  split
  · split
    · rfl
    · split
      · rfl
      · by_cases hp : p = z.1
        · rw [hp, State.port_setPort_same]
          rfl
        · rw [State.port_setPort_other _ _ _ _ hp]
  · rfl

theorem clearPair_service_uncounted (k : Nat) (s : State) (z : Nat × Nat) :
    ((clearPair s z).service k).uncounted = (s.service k).uncounted := by
  unfold clearPair clearCounter
  split
  · split
    · rfl
    · split <;> rfl
  · by_cases hk : k = z.1 - 15
    · rw [hk, State.service_setService_same]
      exact Service.clearCounter_uncounted ..
    · rw [State.service_setService_other _ _ _ _ hk]

theorem Port.eq_of_uncounted {v w : Port} (h : v.uncounted = w.uncounted) : v = { w with counters := v.counters } :=
  congrArg (fun u : Port => { u with counters := v.counters }) h

theorem Service.eq_of_uncounted {v w : Service} (h : v.uncounted = w.uncounted) : v = { w with
    switches := v.switches, forcedCuts := v.forcedCuts, abandoned := v.abandoned, forwardDrops := v.forwardDrops } :=
  congrArg (fun u : Service => { u with
    switches := v.switches, forcedCuts := v.forcedCuts, abandoned := v.abandoned, forwardDrops := v.forwardDrops }) h

/-- Settles O57: the entries of a WEIGHT write apart, each field by field; the counters of a COUNTERS write one by one. -/
theorem weightAndCounterWrites : Obligations.WeightAndCounterWrites := by
  intro s run q w h hw hin hl code done generic
  obtain ⟨id, hid, -, hall⟩ := inRange_iff.mp hin
  have verdict {t : TableId} (ht : tableOf w.table = some t) (hn : w.table = 2 ∨ w.table = 3 ∨ w.table = 9) :
      writeCommand run q s = writeTable t q w s :=
    writeCommand_writes hw (withinCeiling_of_admits hl) (levelAdmits_one hn hl.1) ht hin
  refine ⟨fun ht => ?weight, fun ht => ?counters⟩
  case weight =>
    rw [ht] at hid
    cases hid
    have hv : writeCommand run q s = .done (be8 w.table ++ be16 w.index ++ be8 w.entries.length)
        (w.covers.foldl writeWeight s) := verdict (t := .weight) (by rw [ht]; rfl) (.inl ht)
    obtain ⟨hrow, hgeneric⟩ := exec_tableRow_both h hw (row := .weightWrite) (t := .weight) (by simp [tableRows, ht]) hv
    have written (e : Nat × List (Nat × Nat)) (he : e ∈ w.covers) (f : Nat) :
        readWeight ((w.covers.foldl writeWeight s).weightSet e.1) f =
          (selected? e.2 f).getD (readWeight (s.weightSet e.1) f) := by
      obtain ⟨-, hnodup, -, -, hrange, -⟩ := entryInRange_iff.mp (hall e he).2
      rw [writeWeights_same (covers_nodup w) he]
      exact read_foldl_write readWeight_write e.2 hnodup
        (fun fv hfv => ⟨hrange fv hfv, writeBody_lt hw _ (mem_entries_of_covers he) fv hfv⟩) _ f
    have kept := foldl_mask (fun u : State => { u with weights := [] }) writeWeight (fun _ _ => rfl) w.covers s
    refine ⟨_, hrow, hgeneric, fun e he x hx => ?same, fun i f hf => ?other, rfl, ?frame⟩
    case same =>
      obtain ⟨-, hnodup, -⟩ := entryInRange_iff.mp (hall e he).2
      refine (written e he x.1).trans ?_
      rw [selected_of_mem hnodup hx]
      rfl
    case other =>
      by_cases hi : i ∈ w.covers.map Prod.fst
      · obtain ⟨e, he, rfl⟩ := List.mem_map.mp hi
        refine (written e he f).trans ?_
        rw [selected_none (hf e he rfl)]
        rfl
      · exact congrArg (readWeight · f) (writeWeights_other hi s)
    case frame =>
      exact congrArg (fun u : State => { u with
        weights := (w.covers.foldl writeWeight s).weights, replyInHand := some done }) kept
  case counters =>
    rw [ht] at hid
    cases hid
    have hv : writeCommand run q s = .done (be8 w.table ++ be16 w.index ++ be8 w.entries.length)
        (w.pairs.foldl clearPair s) :=
      (verdict (t := .counters) (by rw [ht]; rfl) (.inr (.inr ht))).trans (writeCounters_eq _ w s)
    obtain ⟨hrow, hgeneric⟩ := exec_tableRow_both h hw (row := .countersWrite) (t := .counters) (by simp [tableRows, ht]) hv
    have named (z : Nat × Nat) (hz : z ∈ w.pairs) : TableId.counters.hasField z.1 z.2 = true := by
      obtain ⟨e, he, hi, hf⟩ := mem_pairs.mp hz
      obtain ⟨x, hx, hxf⟩ := List.mem_map.mp hf
      obtain ⟨-, -, -, -, hrange, -⟩ := entryInRange_iff.mp (hall e he).2
      rw [← hi, ← hxf]
      exact hrange x hx
    have kept := foldl_mask counterMask clearPair clearPair_counterMask w.pairs s
    refine ⟨_, hrow, hgeneric, fun e he x hx => ?cleared, fun i f hf hout => ?other, fun p => ?port, fun k => ?service, rfl,
      ?frame⟩
    case cleared =>
      have hz : (e.1, x.1) ∈ w.pairs := mem_pairs.mpr ⟨e, he, rfl, List.mem_map_of_mem hx⟩
      exact (readCounter_clearPairs named (named _ hz) s).trans (if_pos hz)
    case other =>
      refine (readCounter_clearPairs named hf s).trans (if_neg fun hz => ?_)
      obtain ⟨e, he, hi, hfield⟩ := mem_pairs.mp hz
      exact hout e he hi hfield
    case port =>
      exact Port.eq_of_uncounted
        (foldl_mask (fun u : State => (u.port p).uncounted) clearPair (clearPair_port_uncounted p) w.pairs s)
    case service =>
      exact Service.eq_of_uncounted
        (foldl_mask (fun u : State => (u.service k).uncounted) clearPair (clearPair_service_uncounted k) w.pairs s)
    case frame =>
      let t := w.pairs.foldl clearPair s
      exact congrArg (fun u : State => { u with
        ports := t.ports, services := t.services, malformedControl := t.malformedControl
        commandOverflow := t.commandOverflow, replyInHand := some done }) kept

end Sys2Proof.Machine
end

section
/-! PROOFS. The head of the Pending Change List, and the SERVICE change (O36). -/

namespace Sys2Proof.Machine

/-! ### Taking the head (R39, R40) -/

section
variable {s : State} {h : Change} {rest : List Change}

theorem exec_applyChange (hr : s.phase = .running) : exec .applyChange s = .next (takeHead s) := whenRunning_next hr takeHead

theorem takeHead_empty (hc : s.changes = []) : takeHead s = s := by
  unfold takeHead
  simp only [hc]

theorem takeHead_waits (hh : s.headHeld = true) : takeHead s = s := by
  unfold takeHead
  cases s.changes with
  | nil => rfl
  | cons h rest => exact if_pos hh

section
variable (hc : s.changes = h :: rest) (hh : s.headHeld = false)
include hc hh

theorem takeHead_holds (hheld : isHeld s h = true) : takeHead s = { s with headHeld := true } := by
  unfold takeHead
  simp only [hc, hh, hheld, Bool.false_eq_true, if_false, if_true]

theorem takeHead_performs (hheld : isHeld s h = false) : takeHead s = performChange h { s with changes := rest } := by
  unfold takeHead
  simp only [hc, hh, hheld, Bool.false_eq_true, if_false]

end

theorem touches_service (hs : h.service = true) : touches s h = [h.index] := if_pos hs

theorem isHeld_service (hs : h.service = true) : isHeld s h = (s.service h.index).armed.isSome := by
  rw [isHeld, touches_service hs, List.any_cons, List.any_nil, Bool.or_false]

theorem touches_candidate (hs : h.service = false) : touches s h =
    (s.candidate h.index).cfg.owner.toList ++ (ownerAfter s h.index h.fields).toList := if_neg (Bool.eq_false_iff.mp hs)

/-- A CANDIDATE change is held exactly while the owner before or the owner after is ARMED. -/
theorem isHeld_candidate (hs : h.service = false) : isHeld s h = true ↔
    (∃ k, (s.candidate h.index).cfg.owner = some k ∧ (s.service k).armed.isSome = true) ∨
      ∃ k, ownerAfter s h.index h.fields = some k ∧ (s.service k).armed.isSome = true := by
  rw [isHeld, touches_candidate hs, List.any_append, Bool.or_eq_true]
  refine or_congr ?_ ?_
  · cases (s.candidate h.index).cfg.owner <;> simp
  · cases ownerAfter s h.index h.fields <;> simp

theorem exec_leftArmedArrival {k : Nat} (hr : s.phase = .running) (hk : k < 512) :
    exec (.leftArmedArrival k) s = .next (examineHead k (s.take (.leftArmedArrival k))) :=
  onService_running hk hr fun u => examineHead k (u.take (.leftArmedArrival k))

theorem examineHead_none {k : Nat} (hc : s.changes = [] ∨ s.headHeld = false) : examineHead k s = s := by
  unfold examineHead
  cases hl : s.changes with
  | nil => rfl
  | cons h rest =>
    have hh : s.headHeld = false := hc.resolve_left (by simp [hl])
    simp only [hh, Bool.false_and, Bool.false_eq_true, if_false]

theorem examineHead_service (hc : s.changes = h :: rest) (hh : s.headHeld = true) (hs : h.service = true) :
    examineHead h.index s = { s with headHeld := (s.service h.index).armed.isSome } := by
  have htouched : (touches s h).contains h.index = true := by simp [touches_service hs]
  unfold examineHead
  simp only [hc, hh, htouched, Bool.and_self, if_true, isHeld_service hs]

end

/-! ### The SERVICE change (R42, R43, R51) -/

section
variable {s : State} {h : Change} {k : Nat} {r : ServiceConfig}

theorem performChange_service (hs : h.service = true) {why : FailReason}
    (hc : checkService s h.index (formService (s.service h.index).cfg h.fields) = some why) :
    performChange h s = (s.raise (.changeFailed h.tag 4 h.index)).post (.changeFailed h.tag 4 h.index why) := by
  unfold performChange
  simp only [hs, if_true, hc]
  unfold failChange Change.tableCode
  simp only [hs, if_true]

theorem performChange_service_applied (hs : h.service = true)
    (hc : checkService s h.index (formService (s.service h.index).cfg h.fields) = none) :
    performChange h s = applyService h.index (formService (s.service h.index).cfg h.fields) s := by
  unfold performChange
  simp only [hs, if_true, hc]

/-- The range of a record meets the control, the report or the tap lane, or the range of another service (R43). -/
def State.RangeClash (s : State) (k : Nat) (r : ServiceConfig) : Prop :=
  (r.base ≤ s.settings.controlLane ∧ s.settings.controlLane ≤ r.base + 7) ∨
    (r.base ≤ s.settings.reportLane ∧ s.settings.reportLane ≤ r.base + 7) ∨
    (r.base ≤ s.settings.tapLane ∧ s.settings.tapLane ≤ r.base + 7) ∨
    ∃ j, j ≠ k ∧ (s.service j).cfg.state ≠ .unused ∧ r.base ≤ (s.service j).cfg.base + 7 ∧
      (s.service j).cfg.base ≤ r.base + 7

theorem rangeClash_iff (hcan : s.canonical) : ((s.services.any fun e =>
      e.1 != k && e.2.cfg.state != .unused && rangesMeet r.base e.2.cfg.base) ||
        rangeHolds r.base s.settings.controlLane || rangeHolds r.base s.settings.reportLane ||
        rangeHolds r.base s.settings.tapLane) = true ↔ s.RangeClash k r := by
  have hservices := Table.any_iff hcan.2.2.1
    (p := fun j v => j != k && v.cfg.state != .unused && rangesMeet r.base v.cfg.base) fun j => by
      rw [show ((Service.default j).cfg.state != ServiceState.unused) = false from rfl, Bool.and_false, Bool.false_and]
  rw [Bool.or_eq_true, Bool.or_eq_true, Bool.or_eq_true, hservices, rangeHolds_iff, rangeHolds_iff, rangeHolds_iff]
  simp only [Bool.and_eq_true, bne_iff_ne, rangesMeet, decide_eq_true_eq, State.RangeClash, and_assoc]
  constructor
  · rintro (((hs | hc) | hr) | ht)
    · exact .inr (.inr (.inr hs))
    · exact .inl hc
    · exact .inr (.inl hr)
    · exact .inr (.inr (.inl ht))
  · rintro (hc | hr | ht | hs)
    · exact .inl (.inl (.inr hc))
    · exact .inl (.inr hr)
    · exact .inr ht
    · exact .inl (.inl (.inl hs))

theorem checkService_conflict (hcan : s.canonical) (hr : r.state ≠ .unused) (hclash : s.RangeClash k r) :
    checkService s k r = some .outputConflict := by
  rw [checkService, if_pos hr, if_pos ((rangeClash_iff hcan).mpr hclash)]

theorem checkService_notEmpty (hr : r.state = .unused) (hrank : (s.service k).rank ≠ []) :
    checkService s k r = some .notEmpty := by
  rw [checkService, if_neg (not_not.mpr hr), if_pos hrank]

theorem checkService_used (hcan : s.canonical) (hr : r.state ≠ .unused) (hclash : ¬s.RangeClash k r) :
    checkService s k r = none := by
  rw [checkService, if_pos hr, if_neg (mt (rangeClash_iff hcan).mp hclash)]

theorem checkService_unused (hr : r.state = .unused) (hrank : (s.service k).rank = []) : checkService s k r = none := by
  rw [checkService, if_neg (not_not.mpr hr), if_neg (not_not.mpr hrank)]

theorem Service.reconfigured_unused (hr : r.state = .unused) (v : Service) : v.reconfigured r = { v with
    cfg := r, challenger := none, streak := 0, attempts := 0, dark := false, advisory := none, selected := none
    pinned := none } := by
  unfold Service.reconfigured
  rw [hr]
  rfl

theorem Service.reconfigured_stopped (hr : r.state = .defined) {v : Service} (hv : v.cfg.state = .active) :
    v.reconfigured r = { v with
      cfg := r, challenger := none, streak := 0, attempts := 0, dark := false, advisory := none, selected := none } := by
  unfold Service.reconfigured
  rw [hr]
  exact if_pos hv

theorem Service.reconfigured_defined (hr : r.state = .defined) {v : Service} (hv : v.cfg.state ≠ .active) :
    v.reconfigured r = { v with cfg := r } := by
  unfold Service.reconfigured
  rw [hr]
  exact if_neg hv

theorem Service.reconfigured_active (hr : r.state = .active) (v : Service) : v.reconfigured r = { v with cfg := r } := by
  unfold Service.reconfigured
  rw [hr]

theorem applyService_silent (h : (s.service k).cfg.state ≠ .defined ∨ r.state ≠ .active ∨ (s.service k).pinned = none) :
    applyService k r s = s.setService k ((s.service k).reconfigured r) := by
  refine if_neg fun ⟨hd, ha, hp⟩ => ?_
  rcases h with h | h | h
  · exact h hd
  · exact h ha
  · rw [h] at hp
    exact nomatch hp

theorem applyService_tells (hd : (s.service k).cfg.state = .defined) (ha : r.state = .active)
    (hp : (s.service k).pinned.isSome = true) : applyService k r s =
      (s.setService k ((s.service k).reconfigured r)).send [.pinnedWithoutSelection k] := if_pos ⟨hd, ha, hp⟩

end

/-- Settles O36: the head waits, is held, fails with its reason, or is applied by the state of the resulting record. -/
theorem serviceChange : Obligations.ServiceChange := by
  intro s h rest hr hcan k v r u failed ready inside clash
  have performed (hready : ready) : exec .applyChange s = .next (performChange h u) := by
    obtain ⟨hc, hh, hs, harmed⟩ := hready
    have hheld : isHeld s h = false := by rw [isHeld_service hs, show (s.service h.index).armed = none from harmed]; rfl
    rw [exec_applyChange hr, takeHead_performs hc hh hheld]
  have fails (hready : ready) {why : FailReason} (hc : checkService u k r = some why) :
      exec .applyChange s = .next (failed why) := by
    rw [performed hready]
    exact congrArg _ (performChange_service (s := u) hready.2.2.1 hc)
  have applied (hready : ready) (hc : checkService u k r = none) {t : State} (ht : applyService k r u = t) :
      exec .applyChange s = .next t := by
    rw [performed hready, ← ht]
    exact congrArg _ (performChange_service_applied (s := u) hready.2.2.1 hc)
  have used (hst : r.state ≠ .unused) (hclash : ¬clash) : checkService u k r = none :=
    checkService_used (s := u) hcan hst hclash
  refine ⟨fun hc => ?empty, fun hh => ?waits, fun hc hh hs harmed => ?held, fun j hc hh hs ho harmed => ?heldCandidate,
    fun hready hst hclash => fails hready (checkService_conflict (s := u) hcan hst hclash),
    fun hready hst hrank => fails hready (checkService_notEmpty (s := u) hst hrank),
    fun hready hst hrank => applied hready (checkService_unused (s := u) hst hrank) ?unused,
    fun hready hst hclash hv => applied hready (used (hst.trans_ne (by decide)) hclash) ?defined,
    fun hready hst hclash hv => applied hready (used (hst.trans_ne (by decide)) hclash) ?stopped,
    fun hready hst hclash hp => applied hready (used (hst.trans_ne (by decide)) hclash) ?active,
    fun hready hst hclash hp hv => applied hready (used (hst.trans_ne (by decide)) hclash) ?pinned,
    fun n => ⟨rfl, rfl, rfl, rfl, rfl, rfl, rfl, rfl⟩, fun j hj hc => ?left, fun hk hc hh hs => ?examined⟩
  case empty => rw [exec_applyChange hr, takeHead_empty hc]
  case waits => rw [exec_applyChange hr, takeHead_waits hh]
  case held => rw [exec_applyChange hr, takeHead_holds hc hh ((isHeld_service hs).trans harmed)]
  case heldCandidate =>
    rw [exec_applyChange hr, takeHead_holds hc hh ((isHeld_candidate hs).mpr (.inl ⟨j, ho, harmed⟩))]
  case unused =>
    rw [applyService_silent (.inr (.inl (hst.trans_ne (by decide)))), Service.reconfigured_unused hst]
    rfl
  case defined =>
    rw [applyService_silent (.inr (.inl (hst.trans_ne (by decide))))]
    exact congrArg _ (Service.reconfigured_defined hst hv)
  case stopped =>
    rw [applyService_silent (.inr (.inl (hst.trans_ne (by decide))))]
    exact congrArg _ (Service.reconfigured_stopped hst hv)
  case active =>
    rw [applyService_silent (s := u) (hp.elim (fun hp => .inr (.inr hp)) .inl)]
    exact congrArg _ (Service.reconfigured_active hst v)
  case pinned =>
    rw [applyService_tells (s := u) hv hst hp]
    exact congrArg (fun w => (u.setService k w).send _) (Service.reconfigured_active hst v)
  case left => rw [exec_leftArmedArrival hr hj, examineHead_none (s := s.take (.leftArmedArrival j)) hc]
  case examined =>
    rw [exec_leftArmedArrival hr hk]
    exact congrArg _ (examineHead_service (s := s.take (.leftArmedArrival k)) hc hh hs)

end Sys2Proof.Machine
end

section
/-! PROOFS. What the Sweep Controller shares: the applied PORT and SWEEP writes, the choices of the sweep ports, and the end
of a visit. -/

namespace Sys2Proof.Machine

/-! ### The applied PORT write (R2) -/

/-- The configuration a PORT write leaves. -/
def Port.rewritten (v : Port) (fields : List (Nat × Nat)) : PortConfig := fields.foldl PortConfig.write v.cfg

/-- Whether a PORT write restarts the port: it changes the enable or the margin lane (R2). -/
def Port.restarts (v : Port) (fields : List (Nat × Nat)) : Prop :=
  (v.rewritten fields).enable ≠ v.cfg.enable ∨ (v.rewritten fields).marginLane ≠ v.cfg.marginLane

/-- The port after a write that restarts it, and after one that does not. -/
def Port.reopened (v : Port) (fields : List (Nat × Nat)) : Port := { v with cfg := v.rewritten fields }.restarted
def Port.kept (v : Port) (fields : List (Nat × Nat)) : Port := { v with cfg := v.rewritten fields }

/-- The left-LOCKED arrivals of a port that tracks sync. -/
def leftLocked (p : Nat) (v : Port) : List Instr :=
  if v.tracksSync then [.classifierLeftLocked p, .directoryLeftLocked p] else []

theorem leftLocked_eq (p : Nat) (v : Port) : leftLocked p v =
    if v.state = .locked ∨ v.state = .holdover then [.classifierLeftLocked p, .directoryLeftLocked p] else [] := by
  refine if_congr ?_ rfl rfl
  simp [Port.tracksSync]

section
variable {s : State} {p : Nat} {fields : List (Nat × Nat)}

theorem applyPortWrite_restarts (h : (s.port p).restarts fields) : applyPortWrite p fields s =
    followDirCheck p (s.port p).cfg.dirCheck ((s.port p).rewritten fields).dirCheck
      ((s.setPort p ((s.port p).reopened fields)).send (leftLocked p (s.port p))) := by
  have restarted : restartPort p (s.setPort p ((s.port p).kept fields)) =
      (s.setPort p ((s.port p).reopened fields)).send (leftLocked p (s.port p)) := by
    rw [restartPort_eq, State.port_setPort_same, State.setPort_setPort]
    rfl
  exact congrArg (followDirCheck p _ _) ((if_pos h).trans restarted)

theorem applyPortWrite_keeps_port (h : ¬(s.port p).restarts fields) : applyPortWrite p fields s =
    followDirCheck p (s.port p).cfg.dirCheck ((s.port p).rewritten fields).dirCheck
      (s.setPort p ((s.port p).kept fields)) := congrArg (followDirCheck p _ _) (if_neg h)

theorem followDirCheck_other (h : 12 ≤ p) (before after : Bool) : followDirCheck p before after s = s :=
  if_neg fun hc => absurd hc.1 (Nat.not_lt.mpr h)

theorem followDirCheck_same (b : Bool) : followDirCheck p b b s = s := if_neg fun hc => hc.2 rfl

theorem followDirCheck_changed {before after : Bool} (hp : p < 12) (h : before ≠ after) : followDirCheck p before after s =
    s.setDirContext p (DirContext.empty (if after then some p else none)) := if_pos ⟨hp, h⟩

/-- The directory check moves nothing but the context of its port. -/
theorem followDirCheck_contexts (before after : Bool) :
    followDirCheck p before after s = { s with contexts := (followDirCheck p before after s).contexts } := by
  unfold followDirCheck
  split <;> rfl

/-- What an applied PORT write leaves: the port, the arrivals sent, and every other port. -/
structure PortWritten (p : Nat) (fields : List (Nat × Nat)) (s t : State) : Prop where
  cfg : (t.port p).cfg = (s.port p).rewritten fields
  kept : ¬(s.port p).restarts fields → t.port p = (s.port p).kept fields ∧ t.inFlight = s.inFlight
  reopened : (s.port p).restarts fields →
    t.port p = (s.port p).reopened fields ∧ t.inFlight = s.inFlight ++ leftLocked p (s.port p)
  others : ∀ r, r ≠ p → t.port r = s.port r
  frame : t = { s with ports := t.ports, contexts := t.contexts, inFlight := t.inFlight }

theorem applyPortWrite_written (s : State) (p : Nat) (fields : List (Nat × Nat)) :
    PortWritten p fields s (applyPortWrite p fields s) := by
  by_cases h : (s.port p).restarts fields
  · rw [applyPortWrite_restarts h]
    rw [followDirCheck_contexts]
    exact ⟨congrArg Port.cfg (State.port_setPort_same ..), absurd h, fun _ => ⟨State.port_setPort_same .., rfl⟩,
      fun r hr => State.port_setPort_other _ _ _ _ hr, rfl⟩
  · rw [applyPortWrite_keeps_port h]
    rw [followDirCheck_contexts]
    exact ⟨congrArg Port.cfg (State.port_setPort_same ..), fun _ => ⟨State.port_setPort_same .., rfl⟩, (absurd · h),
      fun r hr => State.port_setPort_other _ _ _ _ hr, rfl⟩

/-- A port written to has its counters, its outage flag and its held write as they were. -/
theorem PortWritten.counters {t : State} (h : PortWritten p fields s t) :
    (t.port p).counters = (s.port p).counters ∧ (t.port p).outage = (s.port p).outage ∧
      (t.port p).held = (s.port p).held ∧ (t.port p).given = (s.port p).given := by
  by_cases hr : (s.port p).restarts fields
  · rw [(h.reopened hr).1]
    exact ⟨rfl, rfl, rfl, rfl⟩
  · rw [(h.kept hr).1]
    exact ⟨rfl, rfl, rfl, rfl⟩

end

/-! ### A PORT write read back -/

/-- PORT fields 1 to 5, read from the configuration (section 1.2). -/
def PortConfig.field (c : PortConfig) : Nat → Nat
  | 1 => c.enable.toNat
  | 2 => val32 c.marginLane
  | 3 => c.holdover
  | 4 => c.dirCheck.toNat
  | 5 => c.tunerAddr
  | _ => 0

theorem readPort_field (v : Port) {f : Nat} (hf : 1 ≤ f ∧ f ≤ 5) : readPort v f = v.cfg.field f := by
  match f, hf with
  | 1, _ | 2, _ | 3, _ | 4, _ | 5, _ => rfl

theorem PortConfig.field_write_same (c : PortConfig) {p g n : Nat} (h : portRange p g n = true) :
    (c.write (g, n)).field g = n := by
  match g, h with
  | 3, _ | 5, _ => rfl
  | 1, h =>
    have hn : n ≤ 1 := by simpa [portRange, between] using h
    match n, hn with
    | 0, _ | 1, _ => rfl
  | 2, _ =>
    show val32 (if n = absent32 then none else some n) = n
    split
    next hn => exact hn.symm
    next => rfl
  | 4, h =>
    have hn : n ≤ 1 := by simpa [between] using (Bool.and_eq_true_iff.mp h).1
    match n, hn with
    | 0, _ | 1, _ => rfl

theorem PortConfig.field_write_other (c : PortConfig) {fv : Nat × Nat} {f : Nat} (h : f ≠ fv.1) :
    (c.write fv).field f = c.field f := by
  obtain ⟨g, n⟩ := fv
  dsimp only at h
  unfold PortConfig.write
  dsimp only
  split <;> (unfold PortConfig.field; split <;> trivial)

theorem PortConfig.field_rewritten (c : PortConfig) {p : Nat} {fields : List (Nat × Nat)}
    (hn : (fields.map Prod.fst).Nodup) (hp : ∀ fv ∈ fields, portRange p fv.1 fv.2 = true) (f : Nat) :
    (fields.foldl PortConfig.write c).field f = (selected? fields f).getD (c.field f) :=
  read_foldl_write (P := fun fv => portRange p fv.1 fv.2 = true) (fun c fv f h => by
    by_cases hf : f = fv.1
    · rw [if_pos hf, hf]
      exact PortConfig.field_write_same c h
    · rw [if_neg hf]
      exact PortConfig.field_write_other c hf) fields hn hp c f

/-! ### The applied SWEEP write (R118, R119) -/

/-- SWEEP fields 1 to 6, read from the configuration (R117). -/
def SweepConfig.field (c : SweepConfig) : Nat → Nat
  | 1 => entryStateCode c.state
  | 2 => c.frequency
  | 3 => c.profile
  | 4 => affinityCode c.affinity
  | 5 => c.dwell
  | 6 => c.settle
  | _ => 0

theorem readSweep_field (s : State) (e : Nat) {f : Nat} (hf : 1 ≤ f ∧ f ≤ 6) :
    readSweep s e f = (s.sweepEntry e).cfg.field f := by
  match f, hf with
  | 1, _ | 2, _ | 3, _ | 4, _ | 5, _ | 6, _ => rfl

theorem SweepConfig.field_write_same (c : SweepConfig) {g n : Nat} (h : sweepRange g n = true) :
    (c.write (g, n)).field g = n := by
  match g, h with
  | 2, _ | 3, _ | 5, _ | 6, _ => rfl
  | 1, h | 4, h =>
    have hn : n ≤ 2 := by simpa [sweepRange, between] using h
    match n, hn with
    | 0, _ | 1, _ | 2, _ => rfl

theorem SweepConfig.field_write_other (c : SweepConfig) {fv : Nat × Nat} {f : Nat} (h : f ≠ fv.1) :
    (c.write fv).field f = c.field f := by
  obtain ⟨g, n⟩ := fv
  dsimp only at h
  unfold SweepConfig.write
  dsimp only
  split <;> (unfold SweepConfig.field; split <;> trivial)

theorem SweepConfig.field_rewritten (c : SweepConfig) {fields : List (Nat × Nat)} (hn : (fields.map Prod.fst).Nodup)
    (hp : ∀ fv ∈ fields, sweepRange fv.1 fv.2 = true) (f : Nat) :
    (fields.foldl SweepConfig.write c).field f = (selected? fields f).getD (c.field f) :=
  read_foldl_write (fun c fv f h => by
    by_cases hf : f = fv.1
    · rw [if_pos hf, hf]
      exact SweepConfig.field_write_same c h
    · rw [if_neg hf]
      exact SweepConfig.field_write_other c hf) fields hn hp c f

/-- What an applied SWEEP write leaves. -/
structure SweepWritten (e : Nat) (fields : List (Nat × Nat)) (s t : State) : Prop where
  entry : t.sweepEntry e = { s.sweepEntry e with cfg := fields.foldl SweepConfig.write (s.sweepEntry e).cfg }
  others : ∀ d, d ≠ e → t.sweepEntry d = s.sweepEntry d
  queue : t.visitQueue = if (t.sweepEntry e).cfg.state = .enabled then s.visitQueue else s.visitQueue.erase e
  frame : t = { s with sweepList := t.sweepList, visitQueue := t.visitQueue }

theorem applySweepWrite_written (s : State) (e : Nat) (fields : List (Nat × Nat)) :
    SweepWritten e fields s (applySweepWrite e fields s) := by
  have entry : (applySweepWrite e fields s).sweepEntry e =
      { s.sweepEntry e with cfg := fields.foldl SweepConfig.write (s.sweepEntry e).cfg } := by
    unfold applySweepWrite
    dsimp only
    split <;> exact State.sweepEntry_setSweepEntry_same ..
  refine ⟨entry, fun d hd => ?others, ?queue, ?frame⟩
  case others =>
    unfold applySweepWrite
    dsimp only
    split <;> exact State.sweepEntry_setSweepEntry_other _ _ _ _ hd
  case queue =>
    rw [entry]
    unfold applySweepWrite
    dsimp only
    split <;> rfl
  case frame =>
    unfold applySweepWrite
    dsimp only
    split <;> rfl

/-! ### The choices of the sweep ports (R121) -/

/-- The state without what a choice moves. -/
def choiceMask (s : State) : State := { s with visitQueue := [], sweepPorts := [] }

/-- The attempt that begins a visit now. -/
def firstAttempt (s : State) (p e : Nat) (fromQueue : Bool) : Visit :=
  ⟨e, fromQueue, .tuning 1 (.attempt (tunerOctets (s.port p).cfg.tunerAddr (s.sweepEntry e).cfg) (s.now + 2))⟩

section
variable {s : State} {p r e : Nat}

/-- A port that may not choose: it visits, is held, or is not enabled. -/
def State.settled (s : State) (p : Nat) : Prop :=
  (s.sweepPort p).visit.isSome = true ∨ (s.sweepPort p).held = true ∨ (s.port p).cfg.enable = false

theorem tryChoose_settled (h : s.settled p) : tryChoose p s = s := by
  refine if_pos ?_
  rcases h with h | h | h <;> simp [h]

section
variable (hv : (s.sweepPort p).visit = none) (hh : (s.sweepPort p).held = false) (he : (s.port p).cfg.enable = true)
include hv hh he

theorem tryChoose_queued (hq : queuedChoice s p = some e) : tryChoose p s = beginVisit p e true s := by
  unfold tryChoose
  simp only [hv, hh, he, hq, Option.isSome_none, Bool.not_true, Bool.or_self, Bool.false_eq_true, if_false]

theorem tryChoose_robin (hq : queuedChoice s p = none) (hr : roundRobinChoice s p = some e) :
    tryChoose p s = beginVisit p e false s := by
  unfold tryChoose
  simp only [hv, hh, he, hq, hr, Option.isSome_none, Bool.not_true, Bool.or_self, Bool.false_eq_true, if_false]

theorem tryChoose_nothing (hq : queuedChoice s p = none) (hr : roundRobinChoice s p = none) : tryChoose p s = s := by
  unfold tryChoose
  simp only [hv, hh, he, hq, hr, Option.isSome_none, Bool.not_true, Bool.or_self, Bool.false_eq_true, if_false]

end

theorem tryChoose_cases (s : State) (p : Nat) :
    tryChoose p s = s ∨ ∃ e b, tryChoose p s = beginVisit p e b s := by
  unfold tryChoose
  dsimp only
  split
  · exact .inl rfl
  · split
    · exact .inr ⟨_, _, rfl⟩
    · split
      · exact .inr ⟨_, _, rfl⟩
      · exact .inl rfl

theorem tryChoose_choiceMask (s : State) (p : Nat) : choiceMask (tryChoose p s) = choiceMask s := by
  rcases tryChoose_cases s p with h | ⟨e, b, h⟩ <;> rw [h]
  rfl

theorem tryChoose_sweepPort_other (h : r ≠ p) : (tryChoose p s).sweepPort r = s.sweepPort r := by
  rcases tryChoose_cases s p with hc | ⟨e, b, hc⟩
  · rw [hc]
  · rw [hc]
    exact State.sweepPort_setSweepPort_other _ _ _ _ h

theorem port_of_choiceMask {t : State} (h : choiceMask t = choiceMask s) (p : Nat) : t.port p = s.port p :=
  have hp : (choiceMask t).port p = (choiceMask s).port p := by rw [h]
  hp

theorem settled_of_choice {t : State} (h : choiceMask t = choiceMask s) (hp : t.sweepPort p = s.sweepPort p)
    (hs : s.settled p) : t.settled p := by
  unfold State.settled
  rwa [hp, port_of_choiceMask h]

theorem tryBoth_choiceMask (s : State) : choiceMask (tryBoth s) = choiceMask s :=
  (tryChoose_choiceMask _ 13).trans (tryChoose_choiceMask s 12)

theorem tryBoth_frame (s : State) :
    tryBoth s = { s with visitQueue := (tryBoth s).visitQueue, sweepPorts := (tryBoth s).sweepPorts } :=
  congrArg (fun u : State => { u with visitQueue := (tryBoth s).visitQueue, sweepPorts := (tryBoth s).sweepPorts })
    (tryBoth_choiceMask s)

/-- A port that may not choose is left as it is, whatever the other chooses. -/
theorem tryBoth_sweepPort_settled (hp : p = 12 ∨ p = 13) (h : s.settled p) : (tryBoth s).sweepPort p = s.sweepPort p := by
  rcases hp with rfl | rfl
  · exact (tryChoose_sweepPort_other (by decide)).trans (congrArg (State.sweepPort · 12) (tryChoose_settled h))
  · have hother : (tryChoose 12 s).sweepPort 13 = s.sweepPort 13 := tryChoose_sweepPort_other (by decide)
    have hsettled := settled_of_choice (tryChoose_choiceMask s 12) hother h
    exact (congrArg (State.sweepPort · 13) (tryChoose_settled hsettled)).trans hother

/-- Two ports that may not choose leave everything. -/
theorem tryBoth_settled (h12 : s.settled 12) (h13 : s.settled 13) : tryBoth s = s := by
  rw [tryBoth, tryChoose_settled h12, tryChoose_settled h13]

end

/-! ### The end of a visit (R127) -/

/-- What the end of a visit sends (R123, R124). -/
def visitPosts (p e : Nat) (how : VisitEnd) (z : IntervalStamp) : List Instr :=
  match how with
  | .noAck => [.faultRecord (.tunerLink p e), .noticePost (.visitFailed e p .noAck) z]
  | .noLock => [.noticePost (.visitFailed e p .noLock) z]
  | .graded | .outage | .hold => []

theorem reportVisit_eq (s : State) (p e : Nat) (how : VisitEnd) :
    reportVisit p e how s = s.send (visitPosts p e how s.clock) := by
  cases how with
  | noAck => exact State.send_send s _ _
  | noLock => rfl
  | graded => exact (State.send_nil s).symm
  | outage => exact (State.send_nil s).symm
  | hold => exact (State.send_nil s).symm

/-- A visit after steps 1 to 3 of R127, before any held write is applied. -/
def closeVisit (p : Nat) (v : Visit) (how : VisitEnd) (s : State) : State :=
  reportVisit p v.entry how (stampVisit v.entry how (closeDwell p v how s))

/-- The entry, the port and the sweep port that a visit leaves (R122, R127). -/
def SweepEntry.stamped (x : SweepEntry) (how : VisitEnd) (n : BitVec 32) : SweepEntry :=
  { x with lastOutcome := how.outcome, lastVisit := some n }
def SweepPort.afterVisit (m : SweepPort) (v : Visit) (how : VisitEnd) : SweepPort :=
  { m with visit := none, cursor := cursorAfter m v how }

/-- What steps 1 to 3 of R127 leave. -/
structure VisitClosed (p : Nat) (v : Visit) (how : VisitEnd) (s t : State) : Prop where
  entry : t.sweepEntry v.entry = (s.sweepEntry v.entry).stamped how s.intervalNumber
  port : t.port p = { s.port p with given := none }
  inFlight : t.inFlight = s.inFlight ++ visitPosts p v.entry how s.clock
  otherPorts : ∀ r, r ≠ p → t.port r = s.port r
  candidates : t.candidates = if v.dwells then (clearDiscards p s).candidates else s.candidates
  context : v.dwells = true → how.outcome = .aborted → t.dirContext p = DirContext.empty none
  contexts : v.dwells = false → t.contexts = s.contexts
  frame : t = { s with
    ports := t.ports, candidates := t.candidates, contexts := t.contexts, sweepList := t.sweepList, inFlight := t.inFlight }

theorem closeVisit_closed (s : State) (p : Nat) (v : Visit) (how : VisitEnd) :
    VisitClosed p v how s (closeVisit p v how s) := by
  unfold closeVisit
  rw [reportVisit_eq]
  have dwell : (closeDwell p v how s).ports = (withdrawSource p s).ports ∧
      (closeDwell p v how s).candidates = (if v.dwells then (clearDiscards p s).candidates else s.candidates) ∧
      (v.dwells = true → how.outcome = .aborted → (closeDwell p v how s).dirContext p = DirContext.empty none) ∧
      (v.dwells = false → (closeDwell p v how s).contexts = s.contexts) ∧
      closeDwell p v how s = { s with
        ports := (closeDwell p v how s).ports, candidates := (closeDwell p v how s).candidates
        contexts := (closeDwell p v how s).contexts } := by
    unfold closeDwell
    cases hd : v.dwells with
    | false => exact ⟨rfl, rfl, nofun, fun _ => rfl, rfl⟩
    | true =>
      by_cases ho : how.outcome = .aborted
      · dsimp only
        rw [if_pos ⟨rfl, ho⟩]
        exact ⟨rfl, rfl, fun _ _ => State.dirContext_setDirContext_same .., nofun, rfl⟩
      · dsimp only
        rw [if_neg fun h => ho h.2]
        exact ⟨rfl, rfl, fun _ h => absurd h ho, nofun, rfl⟩
  obtain ⟨hports, hcandidates, hcontext, hcontexts, hframe⟩ := dwell
  have hclock : (stampVisit v.entry how (closeDwell p v how s)).clock = s.clock := by rw [hframe]; rfl
  have hlist : (closeDwell p v how s).sweepEntry v.entry = s.sweepEntry v.entry := by rw [hframe]; rfl
  have hnumber : (closeDwell p v how s).intervalNumber = s.intervalNumber := by rw [hframe]
  have hflight : (closeDwell p v how s).inFlight = s.inFlight := by rw [hframe]
  refine ⟨?entry, ?port, ?inFlight, fun r hr => ?otherPorts, hcandidates, hcontext, hcontexts, ?frame⟩
  case entry =>
    refine (State.sweepEntry_setSweepEntry_same ..).trans ?_
    rw [hlist, hnumber]
    rfl
  case port =>
    show Table.get Port.default (closeDwell p v how s).ports p = _
    rw [hports]
    exact State.port_setPort_same ..
  case inFlight =>
    rw [hclock]
    show (closeDwell p v how s).inFlight ++ _ = _
    rw [hflight]
  case otherPorts =>
    show Table.get Port.default (closeDwell p v how s).ports r = _
    rw [hports]
    exact State.port_setPort_other _ _ _ _ hr
  case frame =>
    exact congrArg (fun u : State => { u with
      sweepList := (stampVisit v.entry how (closeDwell p v how s)).sweepList
      inFlight := (closeDwell p v how s).inFlight ++ visitPosts p v.entry how
        (stampVisit v.entry how (closeDwell p v how s)).clock }) hframe

theorem endVisit_eq (s : State) (p : Nat) (v : Visit) (how : VisitEnd) : endVisit p v how s =
    tryBoth (leaveVisit p v how (applyHeldPortWrite p (applyHeldSweepWrite v.entry (closeVisit p v how s)))) := rfl

section
variable {s : State} {p e : Nat}

theorem applyHeldPortWrite_none (h : (s.port p).held = none) : applyHeldPortWrite p s = s := by
  unfold applyHeldPortWrite
  simp only [h]

theorem applyHeldSweepWrite_none (h : (s.sweepEntry e).held = none) : applyHeldSweepWrite e s = s := by
  unfold applyHeldSweepWrite
  simp only [h]

theorem applyHeldSweepWrite_some {fields : List (Nat × Nat)} (h : (s.sweepEntry e).held = some fields) :
    applyHeldSweepWrite e s = applySweepWrite e fields (s.setSweepEntry e { s.sweepEntry e with held := none }) := by
  unfold applyHeldSweepWrite
  simp only [h]

/-- With no write held, a visit ends with its three first steps and the choice of the ports. -/
theorem endVisit_unheld {v : Visit} {how : VisitEnd} (hp : (s.port p).held = none)
    (he : (s.sweepEntry v.entry).held = none) :
    endVisit p v how s = tryBoth (leaveVisit p v how (closeVisit p v how s)) := by
  have closed := closeVisit_closed s p v how
  rw [endVisit_eq, applyHeldSweepWrite_none (by rw [closed.entry]; exact he),
    applyHeldPortWrite_none (by rw [closed.port]; exact hp)]

/-- What such an end leaves. -/
structure VisitEnded (p : Nat) (v : Visit) (how : VisitEnd) (s t : State) : Prop where
  entry : t.sweepEntry v.entry = (s.sweepEntry v.entry).stamped how s.intervalNumber
  port : t.port p = { s.port p with given := none }
  inFlight : t.inFlight = s.inFlight ++ visitPosts p v.entry how s.clock
  laneMap : t.laneMap = s.laneMap
  candidates : t.candidates = if v.dwells then (clearDiscards p s).candidates else s.candidates
  context : v.dwells = true → how.outcome = .aborted → t.dirContext p = DirContext.empty none
  contexts : v.dwells = false → t.contexts = s.contexts
  sweepPort : p = 12 ∨ p = 13 → (s.sweepPort p).held = true → t.sweepPort p = (s.sweepPort p).afterVisit v how

theorem VisitClosed.ended {v : Visit} {how : VisitEnd} {c : State} (h : VisitClosed p v how s c) :
    VisitEnded p v how s (tryBoth (leaveVisit p v how c)) := by
  have hsweepPorts : c.sweepPort p = s.sweepPort p := by rw [h.frame]; rfl
  have hleft : (leaveVisit p v how c).sweepPort p = (s.sweepPort p).afterVisit v how := by
    refine (State.sweepPort_setSweepPort_same ..).trans ?_
    rw [hsweepPorts]
    rfl
  have hlaneMap : c.laneMap = s.laneMap := by rw [h.frame]
  have hport : p = 12 ∨ p = 13 → (s.sweepPort p).held = true →
      (tryBoth (leaveVisit p v how c)).sweepPort p = (s.sweepPort p).afterVisit v how := fun hp hh =>
    (tryBoth_sweepPort_settled hp (.inr (.inl (by rw [hleft]; exact hh)))).trans hleft
  have frame := tryBoth_frame (leaveVisit p v how c)
  generalize tryBoth (leaveVisit p v how c) = t at frame hport
  refine ⟨?entry, ?port, ?inFlight, ?laneMap, ?candidates, fun hd ho => ?context, fun hd => ?contexts, hport⟩
  all_goals rw [frame]
  case entry => exact h.entry
  case port => exact h.port
  case inFlight => exact h.inFlight
  case laneMap => exact hlaneMap
  case candidates => exact h.candidates
  case context => exact h.context hd ho
  case contexts => exact h.contexts hd

theorem endVisit_ended {v : Visit} {how : VisitEnd} (hp : (s.port p).held = none)
    (he : (s.sweepEntry v.entry).held = none) : VisitEnded p v how s (endVisit p v how s) := by
  rw [endVisit_unheld hp he]
  exact (closeVisit_closed s p v how).ended

end

end Sys2Proof.Machine
end

section
/-! PROOFS. The tuner transaction (O39), and the beginning and the end of a dwell (O40). -/

namespace Sys2Proof.Machine

/-! ### The rows of a sweep port -/

section
variable {s : State} {p : Nat} (hr : s.phase = .running) (hp : p = 12 ∨ p = 13)
include hr hp

theorem exec_tunerAttemptDone (b : Bool) (time : Nat) :
    exec (.tunerAttemptDone p b time) s = .next (attemptDone p b (s.atTime time)) :=
  onSweepPort_running hp hr fun u => attemptDone p b (u.atTime time)

theorem exec_attemptLimitExpiry : exec (.attemptLimitExpiry p) s = .next (attemptLimit p s) :=
  onSweepPort_running hp hr (attemptLimit p)

theorem exec_retryGapExpiry : exec (.retryGapExpiry p) s = .next (gapExpires p s) :=
  onSweepPort_running hp hr (gapExpires p)

theorem exec_sweepMarginArrival (lock : Nat) : exec (.sweepMarginArrival p lock) s =
    .next (marginArrives p lock (s.take (.sweepMarginArrival p lock))) :=
  onSweepPort_running hp hr fun u => marginArrives p lock (u.take (.sweepMarginArrival p lock))

theorem exec_dwellTimerExpiry : exec (.dwellTimerExpiry p) s = .next (dwellExpires p s) :=
  onSweepPort_running hp hr (dwellExpires p)

end

/-! ### Attempts (R123) -/

section
variable {s : State} {p e n l : Nat} {q : Bool} {o : List Byte}

section
variable (h : (s.sweepPort p).visit = some ⟨e, q, .tuning n (.attempt o l)⟩)
include h

theorem attemptDone_acknowledged :
    attemptDone p true s = attemptSucceeds p ⟨e, q, .tuning n (.attempt o l)⟩ s := by
  unfold attemptDone
  simp only [h, if_true]

theorem attemptDone_failed : attemptDone p false s = attemptFails p n ⟨e, q, .tuning n (.attempt o l)⟩ s := by
  unfold attemptDone
  simp only [h, Bool.false_eq_true, if_false]

theorem attemptLimit_failed :
    attemptLimit p s = attemptFails p n ⟨e, q, .tuning n (.attempt o l)⟩ (s.atTime l) := by
  unfold attemptLimit
  simp only [h]

end

theorem gapExpires_begins (h : (s.sweepPort p).visit = some ⟨e, q, .tuning n (.gap l)⟩) :
    gapExpires p s = beginAttempt p (n + 1) ⟨e, q, .tuning n (.gap l)⟩ (s.atTime l) := by
  unfold gapExpires
  simp only [h]

theorem attempts_idle (h : (s.sweepPort p).visit = none) :
    attemptDone p true s = s ∧ attemptLimit p s = s ∧ gapExpires p s = s := by
  unfold attemptDone attemptLimit gapExpires
  simp only [h, and_self]

theorem attemptFails_retries {v : Visit} (hn : n < 4) : attemptFails p n v s =
    s.setSweepPort p { s.sweepPort p with visit := some { v with phase := .tuning n (.gap (s.now + 10)) } } := if_pos hn

theorem attemptFails_ends {v : Visit} (hn : 4 ≤ n) : attemptFails p n v s = endVisit p v .noAck s :=
  if_neg (Nat.not_lt.mpr hn)

theorem attemptSucceeds_settles {v : Visit} (hh : (s.sweepPort p).held = false) : attemptSucceeds p v s =
    (s.send [.retuneRequest p]).setSweepPort p
      { s.sweepPort p with visit := some { v with phase := .settling (s.now + (s.sweepEntry v.entry).cfg.settle) } } :=
  if_neg (Bool.eq_false_iff.mp hh)

theorem attemptSucceeds_held {v : Visit} (hh : (s.sweepPort p).held = true) :
    attemptSucceeds p v s = endVisit p v .hold (s.send [.retuneRequest p]) := if_pos hh

end

/-- Settles O39: each end of an attempt by its branch, the ends of the visit by what a visit leaves. -/
theorem tunerTransaction : Obligations.TunerTransaction := by
  intro s p e n time l o q hr hp m on entry
  have visit {x : VisitPhase} (h : m = on x) : m.visit = some ⟨e, q, x⟩ := congrArg SweepPort.visit h
  refine ⟨fun h hh => ?settles, fun h hn => ?retries, fun h hn => ?limit, fun h => ?again, ⟨fun h hn => ?fails, fun h hh => ?aborts⟩,
    fun h => ?idle⟩
  case settles =>
    rw [exec_tunerAttemptDone hr hp, attemptDone_acknowledged (s := s.atTime time) (visit h),
      attemptSucceeds_settles (s := s.atTime time) hh]
    rfl
  case retries =>
    rw [exec_tunerAttemptDone hr hp, attemptDone_failed (s := s.atTime time) (visit h), attemptFails_retries hn]
    rfl
  case limit =>
    rw [exec_attemptLimitExpiry hr hp, attemptLimit_failed (visit h), attemptFails_retries hn]
    rfl
  case again =>
    rw [exec_retryGapExpiry hr hp, gapExpires_begins (visit h)]
    rfl
  case fails =>
    have ended (z : Nat) (hport : (s.port p).held = none) (hentry : (s.sweepEntry e).held = none) :=
      endVisit_ended (s := s.atTime z) (p := p) (v := ⟨e, q, .tuning n (.attempt o l)⟩) (how := .noAck) hport hentry
    refine ⟨fun hport hentry => ⟨_, ?_, (ended l hport hentry).entry, (ended l hport hentry).port,
        (ended l hport hentry).inFlight, (ended l hport hentry).sweepPort hp⟩,
      fun hport hentry => ⟨_, ?_, (ended time hport hentry).entry, (ended time hport hentry).port,
        (ended time hport hentry).inFlight, (ended time hport hentry).sweepPort hp⟩⟩
    · rw [exec_attemptLimitExpiry hr hp, attemptLimit_failed (visit h), attemptFails_ends hn]
    · rw [exec_tunerAttemptDone hr hp, attemptDone_failed (s := s.atTime time) (visit h), attemptFails_ends hn]
  case aborts =>
    intro hport hentry
    have ended := endVisit_ended (s := (s.atTime time).send [.retuneRequest p]) (p := p)
      (v := ⟨e, q, .tuning n (.attempt o l)⟩) (how := .hold) hport hentry
    refine ⟨_, ?_, ended.entry, ended.port, ended.inFlight.trans (List.append_nil _), ended.sweepPort hp⟩
    rw [exec_tunerAttemptDone hr hp, attemptDone_acknowledged (s := s.atTime time) (visit h),
      attemptSucceeds_held (s := s.atTime time) hh]
  case idle =>
    obtain ⟨hdone, -, -⟩ := attempts_idle (s := s.atTime time) h
    obtain ⟨-, hlimit, hgap⟩ := attempts_idle h
    rw [exec_tunerAttemptDone hr hp, exec_attemptLimitExpiry hr hp, exec_retryGapExpiry hr hp, hdone, hlimit, hgap]
    exact ⟨rfl, rfl, rfl⟩

/-! ### Dwells (R124 to R126) -/

section
variable {s : State} {p e d lock : Nat} {q : Bool}

theorem candidate_clearDwellRecords (h : Table.wf Candidate.default s.candidates) (e c : Nat) : (clearDwellRecords e s).candidate c =
    if (s.candidate c).cfg.source = some (64 + e) then { s.candidate c with measured := .opened s.now } else s.candidate c :=
  Table.get_remap Candidate.default Candidate.default
    (fun _ x => if x.cfg.source = some (64 + e) then ({ x with measured := .opened s.now } : Candidate) else x) _
    h.1 c (if_neg nofun)

/-- What the start of a dwell leaves (R125). -/
theorem beginDwell_leaves (h : s.canonical) (p : Nat) (v : Visit) : let t := beginDwell p v s
    t.sweepPort p =
      { s.sweepPort p with visit := some { v with phase := .dwelling (s.now + (s.sweepEntry v.entry).cfg.dwell) } } ∧
    t.port p = { s.port p with given := some v.entry, readings := .cleared } ∧
    t.dirContext p = DirContext.empty (some (64 + v.entry)) ∧
    (∀ c, t.candidate c = if (s.candidate c).cfg.source = some (64 + v.entry)
      then { s.candidate c with measured := .opened s.now } else s.candidate c) ∧
    (∀ j, t.lanePlace j = (s.lanePlace j).map fun x => if x.source = 64 + v.entry then { x with lastSeq := none } else x) ∧
    t.inFlight = s.inFlight :=
  ⟨State.sweepPort_setSweepPort_same .., State.port_setPort_same .., State.dirContext_setDirContext_same ..,
    candidate_clearDwellRecords (s := forgetSequence (64 + v.entry) s) h.2.2.2.1 v.entry,
    lanePlace_forgetSequence h.2.1 (64 + v.entry), rfl⟩

theorem sourceOfPort_sweep (hp : p = 12 ∨ p = 13) : s.sourceOfPort p = (s.port p).given.map (64 + ·) := if_pos hp

theorem marginArrives_begins (h : (s.sweepPort p).visit = some ⟨e, q, .settling d⟩)
    (hl : lock = 2 ∧ (s.port p).state = .locked ∧ Instr.retuneRequest p ∉ s.inFlight) :
    marginArrives p lock s = beginDwell p ⟨e, q, .settling d⟩ s := by
  unfold marginArrives
  simp only [h]
  exact if_pos hl

theorem marginArrives_ignored (h : (s.sweepPort p).visit = some ⟨e, q, .settling d⟩)
    (hl : lock ≠ 2 ∨ (s.port p).state ≠ .locked) : marginArrives p lock s = s := by
  unfold marginArrives
  simp only [h]
  exact if_neg fun hc => hl.elim (· hc.1) (· hc.2.1)

theorem marginArrives_unsettled (h : ∀ a b x, (s.sweepPort p).visit ≠ some ⟨a, b, .settling x⟩) :
    marginArrives p lock s = s := by
  unfold marginArrives
  split
  next a b x hv => exact absurd hv (h a b x)
  next => rfl

/-- The end of a dwell hands over the readings of the port as they stand, and withdraws the source (R126). -/
theorem dwellExpires_leaves (h : (s.sweepPort p).visit = some ⟨e, q, .dwelling d⟩) : let t := dwellExpires p s
    t.now = max s.now d ∧ t.sweepPort p = { s.sweepPort p with visit := some ⟨e, q, .grading⟩ } ∧
    t.port p = { s.port p with given := none } ∧ t.dirContext p = DirContext.empty none ∧
    t.inFlight = s.inFlight ++
      [.surveyGrading ⟨e, p, max s.now d, s.intervalNumber, (s.port p).readings, (s.port p).cfg.marginLane.isSome⟩] ∧
    t.candidates = s.candidates ∧ t.laneMap = s.laneMap := by
  have withdrawn : (withdrawSource p (s.atTime d)).port p = { s.port p with given := none } := State.port_setPort_same ..
  have swept : ((withdrawSource p (s.atTime d)).setSweepPort p
      { s.sweepPort p with visit := some ⟨e, q, .grading⟩ }).sweepPort p = { s.sweepPort p with visit := some ⟨e, q, .grading⟩ } :=
    State.sweepPort_setSweepPort_same ..
  unfold dwellExpires
  simp only [h]
  refine ⟨rfl, swept, withdrawn, State.dirContext_setDirContext_same .., ?sent, rfl, rfl⟩
  case sent =>
    show s.inFlight ++ [Instr.surveyGrading ⟨e, p, max s.now d, s.intervalNumber,
      ((withdrawSource p (s.atTime d)).port p).readings, ((withdrawSource p (s.atTime d)).port p).cfg.marginLane.isSome⟩] = _
    rw [withdrawn]

theorem dwellExpires_idle (h : ∀ a b x, (s.sweepPort p).visit ≠ some ⟨a, b, .dwelling x⟩) : dwellExpires p s = s := by
  unfold dwellExpires
  split
  next a b x hv => exact absurd hv (h a b x)
  next => rfl

end

/-- Settles O40: full lock starts the dwell, and its timer ends it; elsewhere both rows pass. -/
theorem dwellBeginsAndEnds : Obligations.DwellBeginsAndEnds := by
  intro s p e d lock q hr hcan hp hlock m i
  refine ⟨fun hv hl hlocked hretune => ?begins, fun hv hl => ?ignored, fun hv => ?unsettled, fun hv => ?expires, fun hv => ?idle⟩
  case begins =>
    have hbegin := marginArrives_begins (s := s.take i) hv ⟨hl, hlocked, fun hm => hretune (List.mem_of_mem_erase hm)⟩
    obtain ⟨hsweep, hport, hcontext, hcandidate, hlane, hflight⟩ :=
      beginDwell_leaves (s := s.take i) hcan p ⟨e, q, .settling d⟩
    refine ⟨_, (exec_sweepMarginArrival hr hp lock).trans (congrArg _ hbegin), hsweep, hport, hcontext, hcandidate, hlane,
      ?_, hflight⟩
    rw [sourceOfPort_sweep hp, hport]
    rfl
  case ignored => rw [exec_sweepMarginArrival hr hp, marginArrives_ignored (s := s.take i) hv hl]
  case unsettled => rw [exec_sweepMarginArrival hr hp, marginArrives_unsettled (s := s.take i) hv]
  case expires =>
    obtain ⟨hnow, hsweep, hport, hcontext, hflight, hcandidates, hlane⟩ := dwellExpires_leaves hv
    refine ⟨_, exec_dwellTimerExpiry hr hp, hnow, hsweep, hport, ?_, hcontext, hflight, hcandidates, hlane⟩
    rw [sourceOfPort_sweep hp, hport]
    rfl
  case idle => rw [exec_dwellTimerExpiry hr hp, dwellExpires_idle hv]

end Sys2Proof.Machine
end

section
/-! PROOFS. The PORT and SWEEP writes of one entry (O58). -/

namespace Sys2Proof.Machine

/-! ### The margin lane of a write (R2) -/

section
variable {s : State} {p i : Nat} {fields : List (Nat × Nat)}

theorem mem_of_selected {f v : Nat} (h : selected? fields f = some v) : (f, v) ∈ fields := by
  obtain ⟨fv, hfind, rfl⟩ := Option.map_eq_some_iff.mp h
  have hf : fv.1 = f := beq_iff_eq.mp (List.find?_some (p := fun fv : Nat × Nat => fv.1 == f) hfind)
  exact hf ▸ List.mem_of_find?_eq_some hfind

/-- The margin lane a write gives is the value of its field 2, unless that takes the lane away. -/
theorem selectedMargin_iff (hn : (fields.map Prod.fst).Nodup) {m : Nat} :
    selectedMargin fields = some m ↔ (2, m) ∈ fields ∧ m ≠ absent32 := by
  have hbind : selectedMargin fields = (selected? fields 2).bind fun v => if v = absent32 then none else some v := by
    unfold selectedMargin selected?
    cases fields.find? fun fv => fv.1 == 2 <;> rfl
  rw [hbind, Option.bind_eq_some_iff]
  constructor
  · rintro ⟨v, hv, hlane⟩
    split at hlane
    next => exact nomatch hlane
    next hpresent =>
      cases hlane
      exact ⟨mem_of_selected hv, hpresent⟩
  · rintro ⟨hmem, hpresent⟩
    exact ⟨m, selected_of_mem hn hmem, if_neg hpresent⟩

theorem portRange_margin {v : Nat} (h : portRange p 2 v = true) : v ≠ absent32 ↔ v ≤ 8190 := by
  have hv : v = absent32 ∨ (1 ≤ v ∧ v ≤ 8190) ∧ p ≠ 14 := by simpa [portRange, between] using h
  have habsent : absent32 = 4294967295 := rfl
  omega

theorem marginConflict_iff (h : s.canonical) {lane : Nat} : marginConflict s p lane = true ↔
    ∃ j e, s.lanePlace j = some e ∧ e.lane = lane ∧ if p = 12 ∨ p = 13 then 64 ≤ e.source else e.source = p := by
  have hmap := laneMap_any h fun v =>
    v.lane == lane && (if isSweepPort p then decide (64 ≤ v.source) else v.source == p)
  unfold marginConflict
  rw [hmap]
  refine exists_congr fun j => exists_congr fun e => and_congr_right fun _ => ?_
  rw [Bool.and_eq_true, beq_iff_eq]
  refine and_congr_right fun _ => ?_
  by_cases hp : p = 12 ∨ p = 13
  · rw [isSweepPort_of hp, if_pos hp]
    exact decide_eq_true_iff
  · obtain ⟨h12, h13⟩ := not_or.mp hp
    rw [isSweepPort_of_ne h12 h13, if_neg hp]
    exact beq_iff_eq

/-- A write meets a Lane Map entry: its margin lane is that of an entry of the port's own source (R2). -/
theorem selectedMargin_conflict (h : s.canonical) (hn : (fields.map Prod.fst).Nodup)
    (hr : ∀ fv ∈ fields, portRange i fv.1 fv.2 = true) :
    (selectedMargin fields).any (marginConflict s p) = true ↔
      ∃ j e m, s.lanePlace j = some e ∧ (2, m) ∈ fields ∧ e.lane = m ∧ m ≤ 8190 ∧
        if p = 12 ∨ p = 13 then 64 ≤ e.source else e.source = p := by
  rw [Option.any_eq_true]
  constructor
  · rintro ⟨m, hm, hmeets⟩
    obtain ⟨hmem, hpresent⟩ := (selectedMargin_iff hn).mp hm
    obtain ⟨j, e, he, hlane, hsource⟩ := (marginConflict_iff h).mp hmeets
    exact ⟨j, e, m, he, hmem, hlane, (portRange_margin (hr _ hmem)).mp hpresent, hsource⟩
  · rintro ⟨j, e, m, he, hmem, hlane, hm, hsource⟩
    exact ⟨m, (selectedMargin_iff hn).mpr ⟨hmem, (portRange_margin (hr _ hmem)).mpr hm⟩,
      (marginConflict_iff h).mpr ⟨j, e, he, hlane, hsource⟩⟩

end

/-! ### What an applied PORT write shows -/

section
variable {s t u : State} {p : Nat} {fields : List (Nat × Nat)}

theorem PortWritten.reads (h : PortWritten p fields s u) (hn : (fields.map Prod.fst).Nodup)
    (hr : ∀ fv ∈ fields, portRange p fv.1 fv.2 = true) {f : Nat} (h1 : 1 ≤ f) (h5 : f ≤ 5) :
    readPort (u.port p) f = (selected? fields f).getD (readPort (s.port p) f) := by
  rw [readPort_field _ ⟨h1, h5⟩, readPort_field _ ⟨h1, h5⟩, h.cfg]
  exact PortConfig.field_rewritten _ hn hr f

theorem PortWritten.restarts_iff (h : PortWritten p fields s u) : (s.port p).restarts fields ↔
    (u.port p).cfg.enable ≠ (s.port p).cfg.enable ∨ (u.port p).cfg.marginLane ≠ (s.port p).cfg.marginLane := by
  rw [h.cfg]
  exact Iff.rfl

theorem PortWritten.quiet (h : PortWritten p fields s u) (he : (u.port p).cfg.enable = (s.port p).cfg.enable)
    (hm : (u.port p).cfg.marginLane = (s.port p).cfg.marginLane) :
    u.port p = { s.port p with cfg := (u.port p).cfg } ∧ u.inFlight = s.inFlight := by
  obtain ⟨hport, hflight⟩ := h.kept fun hr => (h.restarts_iff.mp hr).elim (· he) (· hm)
  rw [hport]
  exact ⟨rfl, hflight⟩

theorem PortWritten.restarted (h : PortWritten p fields s u)
    (hr : (u.port p).cfg.enable ≠ (s.port p).cfg.enable ∨ (u.port p).cfg.marginLane ≠ (s.port p).cfg.marginLane) :
    (u.port p).state = (if (u.port p).cfg.enable = true then .seeking else .disabled) ∧ (u.port p).confirm = 0 ∧
      (u.port p).badSync = 0 ∧ (u.port p).starvation = none ∧ (u.port p).holdoverTimer = none ∧
      (u.port p).readings = .cleared ∧ (u.port p).lastMarginSeq = none ∧
      u.inFlight = s.inFlight ++ leftLocked p (s.port p) := by
  obtain ⟨hport, hflight⟩ := h.reopened (h.restarts_iff.mpr hr)
  rw [hport]
  exact ⟨rfl, rfl, rfl, rfl, rfl, rfl, rfl, hflight⟩

/-- An applied PORT write moves the directory contexts as the directory check moves them. -/
theorem applyPortWrite_contexts (s : State) (p : Nat) (fields : List (Nat × Nat)) : (applyPortWrite p fields s).contexts =
    (followDirCheck p (s.port p).cfg.dirCheck ((s.port p).rewritten fields).dirCheck s).contexts := by
  have moves (u : State) (h : u.contexts = s.contexts) (b c : Bool) :
      (followDirCheck p b c u).contexts = (followDirCheck p b c s).contexts := by
    unfold followDirCheck
    split
    · exact congrArg (Table.set _ · p _) h
    · exact h
  by_cases h : (s.port p).restarts fields
  · rw [applyPortWrite_restarts h]
    exact moves ((s.setPort p ((s.port p).reopened fields)).send (leftLocked p (s.port p))) rfl _ _
  · rw [applyPortWrite_keeps_port h]
    exact moves (s.setPort p ((s.port p).kept fields)) rfl _ _

theorem dirContext_of_contexts (h : t.contexts = u.contexts) (r : Nat) : t.dirContext r = u.dirContext r :=
  congrArg (Table.get _ · r) h

end

/-! ### Writing one entry of PORT -/

section
variable {s : State} {p e : Nat} {tag : BitVec 16} {fields : List (Nat × Nat)} {reply : List Byte}

theorem writeOnePort_feed (h12 : p ≠ 12) (h13 : p ≠ 13) : writeOnePort tag s (p, fields) = applyPortWrite p fields s := by
  simp [writeOnePort, isSweepPort_of_ne h12 h13]

theorem writeOnePort_held (hp : p = 12 ∨ p = 13) (hv : (s.visiting p).isSome = true) :
    writeOnePort tag s (p, fields) = holdPortWrite p tag fields s := by
  simp [writeOnePort, isSweepPort_of hp, hv]

section
variable (hp : p = 12 ∨ p = 13) (hv : s.visiting p = none)
include hp hv

theorem writeOnePort_enables (he : (s.port p).cfg.enable = false)
    (ht : ((applyPortWrite p fields s).port p).cfg.enable = true) :
    writeOnePort tag s (p, fields) = tryChoose p (applyPortWrite p fields s) := by
  simp [writeOnePort, isSweepPort_of hp, hv, he, ht]

theorem writeOnePort_applies
    (h : (s.port p).cfg.enable = true ∨ ((applyPortWrite p fields s).port p).cfg.enable = false) :
    writeOnePort tag s (p, fields) = applyPortWrite p fields s := by
  rcases h with h | h <;> simp [writeOnePort, isSweepPort_of hp, hv, h]

theorem writeOnePort_settled
    (h : (s.port p).cfg.enable = true ∨ ((applyPortWrite p fields s).port p).cfg.enable = false ∨
      ((applyPortWrite p fields s).sweepPort p).held = true) :
    writeOnePort tag s (p, fields) = applyPortWrite p fields s := by
  by_cases hkept : (s.port p).cfg.enable = true ∨ ((applyPortWrite p fields s).port p).cfg.enable = false
  · exact writeOnePort_applies hp hv hkept
  · obtain ⟨hoff, hon⟩ := not_or.mp hkept
    have hheld := (h.resolve_left hoff).resolve_left hon
    rw [writeOnePort_enables hp hv (Bool.eq_false_iff.mpr hoff) (Bool.eq_true_of_not_eq_false hon)]
    exact tryChoose_settled (.inr (.inl hheld))

/-- An idle sweep port takes the write, and then moves nothing but what a choice moves. -/
theorem writeOnePort_choiceMask : choiceMask (writeOnePort tag s (p, fields)) = choiceMask (applyPortWrite p fields s) := by
  by_cases h : (s.port p).cfg.enable = true ∨ ((applyPortWrite p fields s).port p).cfg.enable = false
  · rw [writeOnePort_applies hp hv h]
  · obtain ⟨hoff, hon⟩ := not_or.mp h
    rw [writeOnePort_enables hp hv (Bool.eq_false_iff.mpr hoff) (Bool.eq_true_of_not_eq_false hon)]
    exact tryChoose_choiceMask _ p

end

theorem writePorts_done (hv : s.visiting p = none) (hc : ¬(selectedMargin fields).any (marginConflict s p) = true) :
    writePorts tag reply [(p, fields)] s = .done reply (writeOnePort tag s (p, fields)) := by
  simp [writePorts, hc, hv]

theorem writePorts_conflict (hc : (selectedMargin fields).any (marginConflict s p) = true) :
    writePorts tag reply [(p, fields)] s = .refused .state := by
  simp [writePorts, hc]

theorem writePorts_feed (h12 : p ≠ 12) (h13 : p ≠ 13) (hc : ¬(selectedMargin fields).any (marginConflict s p) = true) :
    writePorts tag reply [(p, fields)] s = .done reply (applyPortWrite p fields s) := by
  simp [writePorts, hc, isSweepPort_of_ne h12 h13, writeOnePort_feed h12 h13]

theorem writePorts_held (hp : p = 12 ∨ p = 13) (hv : (s.visiting p).isSome = true)
    (hc : ¬(selectedMargin fields).any (marginConflict s p) = true) :
    writePorts tag reply [(p, fields)] s = .accepted reply (holdPortWrite p tag fields s) := by
  simp [writePorts, hc, isSweepPort_of hp, hv, writeOnePort_held hp hv]

end

/-! ### What each table's writes leave, entry by entry -/

section
variable {s t : State} {i e : Nat} {fields : List (Nat × Nat)}

/-- The head of the Visit Queue, where any port may visit it, is the choice of every port (R121). -/
theorem queuedChoice_head {p : Nat} {rest : List Nat} (hq : s.visitQueue = e :: rest)
    (ha : (s.sweepEntry e).cfg.affinity = .any) : queuedChoice s p = some e := by
  rw [queuedChoice, hq]
  exact List.find?_cons_of_pos (by rw [ha]; rfl)

theorem beginVisit_sweepPort (s : State) (p e : Nat) (b : Bool) :
    (beginVisit p e b s).sweepPort p = { s.sweepPort p with visit := some (firstAttempt s p e b) } :=
  State.sweepPort_setSweepPort_same ..

/-- The context of a feed port whose directory check changes is emptied, and no other context moves (R134). -/
theorem PortWritten.feedContext (ht : t.contexts = (applyPortWrite i fields s).contexts)
    (h : PortWritten i fields s (applyPortWrite i fields s)) :
    (i < 12 → ((applyPortWrite i fields s).port i).cfg.dirCheck ≠ (s.port i).cfg.dirCheck → t.dirContext i =
      DirContext.empty (if ((applyPortWrite i fields s).port i).cfg.dirCheck = true then some i else none)) ∧
    (12 ≤ i ∨ ((applyPortWrite i fields s).port i).cfg.dirCheck = (s.port i).cfg.dirCheck → t.contexts = s.contexts) ∧
    ∀ p, p ≠ i → t.dirContext p = s.dirContext p := by
  rw [h.cfg]
  have followed := ht.trans (applyPortWrite_contexts s i fields)
  refine ⟨fun hi hd => ?changed, fun hsame => ?same, fun p hp => ?other⟩
  case changed =>
    rw [dirContext_of_contexts followed, followDirCheck_changed hi (Ne.symm hd)]
    exact State.dirContext_setDirContext_same ..
  case same =>
    rw [followed]
    rcases hsame with hi | hd
    · rw [followDirCheck_other hi]
    · rw [hd, followDirCheck_same]
  case other =>
    rw [dirContext_of_contexts followed]
    unfold followDirCheck
    split
    · exact State.dirContext_setDirContext_other _ _ _ _ hp
    · rfl

/-- The first write held behind a visit, and any write held. -/
theorem holdPortWrite_first (h : (s.port i).held = none) (tag : BitVec 16) : holdPortWrite i tag fields s =
    s.setPort i { s.port i with held := some ⟨fields, if 2 ∈ fields.map Prod.fst then some tag else none⟩ } := by
  have names : (fields.any fun fv => fv.1 == 2) = true ↔ 2 ∈ fields.map Prod.fst := by simp
  unfold holdPortWrite
  simp only [h, names]

theorem holdPortWrite_sets (s : State) (i : Nat) (fields : List (Nat × Nat)) (tag : BitVec 16) :
    ∃ h, holdPortWrite i tag fields s = s.setPort i { s.port i with held := some h } := ⟨_, rfl⟩

theorem holdSweepWrite_first (h : (s.sweepEntry e).held = none) : holdSweepWrite e fields s =
    s.setSweepEntry e { s.sweepEntry e with held := some fields } := by
  unfold holdSweepWrite
  simp only [h]

theorem holdSweepWrite_sets (s : State) (e : Nat) (fields : List (Nat × Nat)) :
    ∃ h, holdSweepWrite e fields s = s.setSweepEntry e { s.sweepEntry e with held := some h } := ⟨_, rfl⟩

variable {reply : List Byte}

theorem writeSweeps_held (h : s.underVisit e = true) :
    writeSweeps reply [(e, fields)] s = .accepted reply (holdSweepWrite e fields s) := by
  simp [writeSweeps, h]

theorem writeSweeps_applied (h : s.underVisit e = false) :
    writeSweeps reply [(e, fields)] s = .done reply (tryBoth (applySweepWrite e fields s)) := by
  simp [writeSweeps, h]

theorem SweepWritten.reads (h : SweepWritten e fields s t) (hn : (fields.map Prod.fst).Nodup)
    (hr : ∀ fv ∈ fields, sweepRange fv.1 fv.2 = true) {f : Nat} (h1 : 1 ≤ f) (h6 : f ≤ 6) :
    readSweep t e f = (selected? fields f).getD (readSweep s e f) := by
  rw [readSweep_field _ _ ⟨h1, h6⟩, readSweep_field _ _ ⟨h1, h6⟩, h.entry]
  exact SweepConfig.field_rewritten _ hn hr f

/-- A write of one entry begins at that entry. -/
theorem covers_one {w : TableWrite} (h : w.covers = [(i, fields)]) : w.index = i ∧ w.entries.length = 1 := by
  obtain ⟨table, index, entries⟩ := w
  match entries with
  | [] => exact nomatch h
  | [_] =>
    injection h with hfirst
    exact ⟨congrArg Prod.fst hfirst, rfl⟩
  | _ :: _ :: _ =>
    injection h with _ hrest
    exact nomatch hrest

end

/-- Settles O58: the margin lane decides a PORT write, the visit in progress whether a write is applied or held. -/
theorem portAndSweepWrites : Obligations.PortAndSweepWrites := by
  intro s run q w i fields h hcan hw hin hcovers code reply both v conflict written applied
  obtain ⟨t, htable, -, hall⟩ := inRange_iff.mp hin
  have hentry : entryInRange t i fields = true := (hall (i, fields) (by rw [hcovers]; exact List.mem_singleton_self _)).2
  obtain ⟨-, hnodup, -, -, hfields, -⟩ := entryInRange_iff.mp hentry
  obtain ⟨hindex, hone⟩ := covers_one hcovers
  have hbody : be8 w.table ++ be16 w.index ++ be8 w.entries.length = be8 w.table ++ be16 i ++ be8 1 := by
    rw [hone, hindex]
  let body := be8 w.table ++ be16 i ++ be8 1
  have portRanges (ht : w.table = 1) : ∀ fv ∈ fields, portRange i fv.1 fv.2 = true := by
    rw [ht] at htable
    cases htable
    exact hfields
  have sweepRanges (ht : w.table = 3) : ∀ fv ∈ fields, sweepRange fv.1 fv.2 = true := by
    rw [ht] at htable
    cases htable
    exact hfields
  have portSettles {v : Verdict} (ht : w.table = 1) (hl : s.admitsLevel q.level 0)
      (hv : writePorts q.tag body [(i, fields)] s = v) : both (.portWrite run q) (answer (goodRecord (writeCode run) q) s v) := by
    refine exec_tableRow_both h hw (row := .portWrite) (t := .port) (by simp [tableRows, ht]) ?_
    rw [writeCommand_writes hw (withinCeiling_of_admits hl) (levelAdmits_zero ht.le hl.1) (t := .port) (by rw [ht]; rfl) hin,
      writeTable, hbody, hcovers]
    exact hv
  have sweepSettles {v : Verdict} (ht : w.table = 3) (hl : s.admitsLevel q.level 1)
      (hv : writeSweeps body [(i, fields)] s = v) : both (.sweepWrite run q) (answer (goodRecord (writeCode run) q) s v) := by
    refine exec_tableRow_both h hw (row := .sweepWrite) (t := .sweep) (by simp [tableRows, ht]) ?_
    rw [writeCommand_writes hw (withinCeiling_of_admits hl) (levelAdmits_one (.inr (.inl ht)) hl.1) (t := .sweep)
      (by rw [ht]; rfl) hin, writeTable, hbody, hcovers]
    exact hv
  have meets (ht : w.table = 1) : (selectedMargin fields).any (marginConflict s i) = true ↔ conflict :=
    selectedMargin_conflict hcan hnodup (portRanges ht)
  let u := applyPortWrite i fields s
  have hu : PortWritten i fields s u := applyPortWrite_written s i fields
  have applies {t : State} (ht : w.table = 1) (hports : t.ports = u.ports) (hflight : t.inFlight = u.inFlight)
      (hreply : t.replyInHand = some (reply .done)) : applied t := by
    have hport (r : Nat) : t.port r = u.port r := congrArg (Table.get Port.default · r) hports
    have hread (f : Nat) : readField t .port i f = readPort (u.port i) f := congrArg (readPort · f) (hport i)
    obtain ⟨hcounters, houtage, -, -⟩ := hu.counters
    refine ⟨fun f h1 h5 => (hread f).trans (hu.reads hnodup (portRanges ht) h1 h5), hreply,
      fun r hr => (hport r).trans (hu.others r hr), ?_⟩
    rw [hport i, hflight, ← leftLocked_eq]
    exact ⟨hcounters, houtage, hu.quiet, hu.restarted⟩
  refine ⟨fun ht hl hc => portSettles ht hl (writePorts_conflict ((meets ht).mpr hc)),
    fun ht hl hc h12 h13 => ?feed, fun ht hl hc hi hv => ?idle, fun ht hl hc hi hv => ?visiting,
    fun ht hl hv => ?held, fun ht hl hv h12 h13 => ?sweep⟩
  case feed =>
    have hdone := portSettles ht hl (writePorts_feed h12 h13 (mt (meets ht).mp hc))
    have hcontext := hu.feedContext (t := answer (goodRecord (writeCode run) q) s (.done body u)) rfl
    refine ⟨_, hdone, applies ht rfl rfl rfl, hcontext.1, hcontext.2.1, hcontext.2.2, ?_⟩
    exact congrArg (fun x : State => { x with replyInHand := some (reply .done) }) hu.frame
  case idle =>
    have hdone := portSettles ht hl (writePorts_done hv (mt (meets ht).mp hc))
    have hmask := writeOnePort_choiceMask (tag := q.tag) (fields := fields) hi hv
    have hsame : u.contexts = s.contexts := (hu.feedContext rfl).2.1 (.inl (by omega))
    have hframe : u = { s with ports := u.ports, inFlight := u.inFlight } := by
      rw [← hsame]
      exact hu.frame
    have hsweep : u.sweepPort i = s.sweepPort i := by rw [hframe]; rfl
    have hport : (writeOnePort q.tag s (i, fields)).port i = u.port i := port_of_choiceMask hmask i
    have replied := congrArg (fun x : State => { x with replyInHand := some (reply .done) }) hframe
    refine ⟨_, hdone, applies ht (congrArg State.ports hmask :) (congrArg State.inFlight hmask :) rfl, fun hkept => ?kept,
      fun e rest hoff hon hh hq ha => ?chooses⟩
    case kept =>
      have hstill : v.cfg.enable = true ∨ (u.port i).cfg.enable = false ∨ (u.sweepPort i).held = true := by
        rw [← hport, hsweep]
        exact hkept
      rw [writeOnePort_settled hi hv hstill]
      exact replied
    case chooses =>
      have hqueue : u.visitQueue = e :: rest := (congrArg State.visitQueue hframe).trans hq
      have hchoice : queuedChoice u i = some e := queuedChoice_head hqueue (by rw [hframe]; exact ha)
      have hbegun : writeOnePort q.tag s (i, fields) = beginVisit i e true u := by
        rw [writeOnePort_enables hi hv hoff (hport ▸ hon)]
        refine tryChoose_queued ?_ ?_ (hport ▸ hon) hchoice
        · rw [hsweep]
          exact Option.map_eq_none_iff.mp hv
        · rw [hsweep]
          exact hh
      have hattempt : firstAttempt u i e true = ⟨e, true, .tuning 1 (.attempt (be8 (2 * (u.port i).cfg.tunerAddr) ++
          be32 (s.sweepEntry e).cfg.frequency ++ be8 (s.sweepEntry e).cfg.profile) (s.now + 2))⟩ := by
        have hentry : u.sweepEntry e = s.sweepEntry e := by rw [hframe]; rfl
        have hnow : u.now = s.now := by rw [hframe]
        rw [firstAttempt, tunerOctets, hentry, hnow]
      rw [hbegun]
      refine ⟨?sweepPort, ?queue, ?frame⟩
      case sweepPort =>
        have begun := beginVisit_sweepPort u i e true
        rw [hattempt, hsweep] at begun
        exact begun
      case queue =>
        show u.visitQueue.erase e = rest
        rw [hqueue, List.erase_cons_head]
      case frame =>
        exact congrArg (fun x : State => { x with
          replyInHand := some (reply .done), visitQueue := u.visitQueue.erase e
          sweepPorts := (beginVisit i e true u).sweepPorts }) hframe
  case visiting =>
    obtain ⟨held, hheld⟩ := holdPortWrite_sets s i fields q.tag
    have haccepted := portSettles ht hl (writePorts_held hi hv (mt (meets ht).mp hc))
    refine ⟨_, haccepted, rfl, fun hnone => ?_, ⟨held, ?_⟩, fun p hp => ?_, ?_⟩
    · exact (congrArg (State.port · i) (holdPortWrite_first hnone q.tag)).trans (State.port_setPort_same ..)
    · exact (congrArg (State.port · i) hheld).trans (State.port_setPort_same ..)
    · exact (congrArg (State.port · p) hheld).trans (State.port_setPort_other _ _ _ _ hp)
    · rw [hheld]
      rfl
  case held =>
    obtain ⟨held, hheld⟩ := holdSweepWrite_sets s i fields
    have haccepted := sweepSettles ht hl (writeSweeps_held hv)
    refine ⟨_, haccepted, rfl, ⟨held, ?_⟩, fun hnone => ?_, fun e he => ?_, ?_⟩
    · exact (congrArg (State.sweepEntry · i) hheld).trans (State.sweepEntry_setSweepEntry_same ..)
    · exact (congrArg (State.sweepEntry · i) (holdSweepWrite_first hnone)).trans (State.sweepEntry_setSweepEntry_same ..)
    · exact (congrArg (State.sweepEntry · e) hheld).trans (State.sweepEntry_setSweepEntry_other _ _ _ _ he)
    · rw [hheld]
      rfl
  case sweep =>
    have hx := applySweepWrite_written s i fields
    have hdone := sweepSettles ht hl (writeSweeps_applied hv)
    generalize applySweepWrite i fields s = x at hx hdone
    have hports : x.sweepPorts = s.sweepPorts := by rw [hx.frame]
    have held (p : Nat) (hp : (s.sweepPort p).held = true) : x.settled p :=
      .inr (.inl (by rw [State.sweepPort, hports]; exact hp))
    rw [tryBoth_settled (held 12 h12) (held 13 h13)] at hdone
    refine ⟨_, hdone, rfl, fun f h1 h6 => hx.reads hnodup (sweepRanges ht) h1 h6, ?_, hx.queue, hx.others, ?_⟩
    · show x.sweepEntry i = { s.sweepEntry i with cfg := (x.sweepEntry i).cfg }
      rw [hx.entry]
    · exact congrArg (fun y : State => { y with replyInHand := some (reply .done) }) hx.frame

end Sys2Proof.Machine
end

section
/-! PROOFS. The ends of a visit, with the writes held behind it (O41). -/

namespace Sys2Proof.Machine

/-! ### The held PORT write (R3) -/

section
variable {s : State} {p : Nat} {h : HeldPortWrite}

/-- Whether the margin lane of a held write meets a Lane Map entry, the fields then written, and what is told of it. -/
def HeldPortWrite.meets (h : HeldPortWrite) (p : Nat) (s : State) : Bool := (selectedMargin h.fields).any (marginConflict s p)

def HeldPortWrite.admitted (h : HeldPortWrite) (p : Nat) (s : State) : List (Nat × Nat) :=
  if h.meets p s then h.fields.filter fun fv => fv.1 != 2 else h.fields

def HeldPortWrite.posts (h : HeldPortWrite) (p : Nat) (s : State) : List Instr :=
  if h.meets p s then [.faultRecord (.changeFailed (h.marginTag.getD 0) 1 p),
    .noticePost (.changeFailed (h.marginTag.getD 0) 1 p .laneConflict) s.clock] else []

/-- A port with its held write taken from it. -/
def Port.released (v : Port) : Port := { v with held := none }

theorem clock_applyPortWrite (s : State) (p : Nat) (fields : List (Nat × Nat)) : (applyPortWrite p fields s).clock = s.clock := by
  rw [(applyPortWrite_written s p fields).frame]
  rfl

theorem applyHeldPortWrite_some (hh : (s.port p).held = some h) : applyHeldPortWrite p s =
    (applyPortWrite p (h.admitted p s) (s.setPort p (s.port p).released)).send (h.posts p s) := by
  unfold applyHeldPortWrite HeldPortWrite.admitted HeldPortWrite.posts HeldPortWrite.meets
  simp only [hh]
  cases selectedMargin h.fields with
  | none => exact (State.send_nil _).symm
  | some lane =>
    cases hc : marginConflict s p lane with
    | false => simp [hc, Port.released]
    | true =>
      simp only [Option.any_some, hc, if_true]
      refine (State.send_send _ _ _).trans ?_
      rw [State.raise, State.clock_send, clock_applyPortWrite]
      rfl

theorem applyHeldPortWrite_sweepPorts (s : State) (p : Nat) : (applyHeldPortWrite p s).sweepPorts = s.sweepPorts := by
  cases hh : (s.port p).held with
  | none => rw [applyHeldPortWrite_none hh]
  | some h =>
    rw [applyHeldPortWrite_some hh, (applyPortWrite_written _ p _).frame]
    rfl

theorem applyHeldSweepWrite_sweepPorts (s : State) (e : Nat) : (applyHeldSweepWrite e s).sweepPorts = s.sweepPorts := by
  cases hh : (s.sweepEntry e).held with
  | none => rw [applyHeldSweepWrite_none hh]
  | some fields =>
    rw [applyHeldSweepWrite_some hh, (applySweepWrite_written _ e fields).frame]
    rfl

/-! ### The fields of a held write -/

variable {fields : List (Nat × Nat)}

theorem selected_filter {f g : Nat} (hf : f ≠ g) : selected? (fields.filter fun fv => fv.1 != g) f = selected? fields f := by
  rw [selected?, List.find?_filter]
  refine congrArg (Option.map Prod.snd) (congrArg (List.find? · fields) (funext fun a => ?_))
  by_cases ha : a.1 = f
  · simp [ha, hf]
  · simp [ha]

theorem marginLane_foldl_write (h : ∀ fv ∈ fields, fv.1 ≠ 2) (c : PortConfig) :
    (fields.foldl PortConfig.write c).marginLane = c.marginLane := by
  induction fields generalizing c with
  | nil => rfl
  | cons fv fields ih =>
    obtain ⟨hne, h⟩ := List.forall_mem_cons.mp h
    refine (ih h _).trans ?_
    obtain ⟨g, n⟩ := fv
    dsimp only at hne
    unfold PortConfig.write
    split <;> trivial

theorem HeldPortWrite.admitted_subset : ∀ fv ∈ h.admitted p s, fv ∈ h.fields := by
  unfold HeldPortWrite.admitted
  split
  · exact fun _ hfv => List.mem_of_mem_filter hfv
  · exact fun _ hfv => hfv

theorem HeldPortWrite.admitted_nodup (hn : (h.fields.map Prod.fst).Nodup) : ((h.admitted p s).map Prod.fst).Nodup := by
  unfold HeldPortWrite.admitted
  split
  · exact hn.sublist (List.filter_sublist.map Prod.fst)
  · exact hn

theorem HeldPortWrite.selected_admitted {f : Nat} (hf : f ≠ 2) : selected? (h.admitted p s) f = selected? h.fields f := by
  unfold HeldPortWrite.admitted
  split
  · exact selected_filter hf
  · rfl

/-- A held write that meets no entry is written whole, and nothing is told. -/
theorem HeldPortWrite.free (hm : h.meets p s ≠ true) : h.admitted p s = h.fields ∧ h.posts p s = [] :=
  ⟨if_neg hm, if_neg hm⟩

theorem HeldPortWrite.posts_meets {tag : BitVec 16} (hm : h.meets p s = true) (ht : h.marginTag = some tag) :
    h.posts p s = [.faultRecord (.changeFailed tag 1 p), .noticePost (.changeFailed tag 1 p .laneConflict) s.clock] := by
  rw [HeldPortWrite.posts, if_pos hm, ht]
  rfl

/-- A margin lane that meets an entry is not among the fields written. -/
theorem HeldPortWrite.admitted_marginLane (hm : h.meets p s = true) (c : PortConfig) :
    ((h.admitted p s).foldl PortConfig.write c).marginLane = c.marginLane := by
  refine marginLane_foldl_write (fun fv hfv => ?_) c
  rw [HeldPortWrite.admitted, if_pos hm] at hfv
  simpa using (List.mem_filter.mp hfv).2

end

/-! ### What the end of a visit leaves -/

section
variable {s : State} {p e : Nat} {q : Bool} {x : VisitPhase} {how : VisitEnd}

theorem sweepPort_of_sweepPorts {t : State} (h : t.sweepPorts = s.sweepPorts) (r : Nat) : t.sweepPort r = s.sweepPort r :=
  congrArg (Table.get _ · r) h

/-- The state of a visit that ends, before the ports choose. -/
def visitLeft (p : Nat) (v : Visit) (how : VisitEnd) (s : State) : State :=
  leaveVisit p v how (applyHeldPortWrite p (applyHeldSweepWrite v.entry (closeVisit p v how s)))

theorem endVisit_chooses (s : State) (p : Nat) (v : Visit) (how : VisitEnd) :
    endVisit p v how s = tryBoth (visitLeft p v how s) := rfl

/-- The sweep ports of a visit that ends: its own is left, and the other stays. -/
theorem visitLeft_sweepPort (s : State) (p : Nat) (v : Visit) (how : VisitEnd) :
    (visitLeft p v how s).sweepPort p = (s.sweepPort p).afterVisit v how ∧
      ∀ r, r ≠ p → (visitLeft p v how s).sweepPort r = s.sweepPort r := by
  have kept : (applyHeldPortWrite p (applyHeldSweepWrite v.entry (closeVisit p v how s))).sweepPorts = s.sweepPorts := by
    rw [applyHeldPortWrite_sweepPorts, applyHeldSweepWrite_sweepPorts, (closeVisit_closed s p v how).frame]
  constructor
  · refine (State.sweepPort_setSweepPort_same ..).trans ?_
    rw [sweepPort_of_sweepPorts kept]
    rfl
  · exact fun r hr => (State.sweepPort_setSweepPort_other _ _ _ _ hr).trans (sweepPort_of_sweepPorts kept r)

/-- A held port is left as the visit leaves it, whatever writes were held behind it. -/
theorem endVisit_sweepPort {v : Visit} (hp : p = 12 ∨ p = 13) (hh : (s.sweepPort p).held = true) :
    (endVisit p v how s).sweepPort p = (s.sweepPort p).afterVisit v how := by
  have left := (visitLeft_sweepPort s p v how).1
  rw [endVisit_chooses, tryBoth_sweepPort_settled hp (.inr (.inl (by rw [left]; exact hh))), left]

/-- What an end leaves that applies the held SWEEP write of its entry, both ports held. -/
structure EndsWithSweepWrite (p : Nat) (v : Visit) (how : VisitEnd) (fields : List (Nat × Nat)) (s t : State) : Prop where
  entry : t.sweepEntry v.entry = { (s.sweepEntry v.entry).stamped how s.intervalNumber with
    cfg := fields.foldl SweepConfig.write (s.sweepEntry v.entry).cfg, held := none }
  queue : t.visitQueue = if (t.sweepEntry v.entry).cfg.state = .enabled then s.visitQueue else s.visitQueue.erase v.entry
  inFlight : t.inFlight = s.inFlight ++ visitPosts p v.entry how s.clock

theorem endVisit_withSweepWrite {v : Visit} {fields : List (Nat × Nat)} (hport : (s.port p).held = none)
    (hentry : (s.sweepEntry v.entry).held = some fields) (h12 : (s.sweepPort 12).held = true)
    (h13 : (s.sweepPort 13).held = true) : EndsWithSweepWrite p v how fields s (endVisit p v how s) := by
  have held (r : Nat) (hr : (s.sweepPort r).held = true) : (visitLeft p v how s).settled r := by
    obtain ⟨hown, hother⟩ := visitLeft_sweepPort s p v how
    by_cases hrp : r = p
    · exact .inr (.inl (by rw [hrp, hown]; exact hrp ▸ hr))
    · exact .inr (.inl (by rw [hother r hrp]; exact hr))
  have closed := closeVisit_closed s p v how
  rw [endVisit_chooses, tryBoth_settled (held 12 h12) (held 13 h13), visitLeft]
  generalize closeVisit p v how s = c at closed
  have hc : (c.sweepEntry v.entry).held = some fields := by rw [closed.entry]; exact hentry
  rw [applyHeldSweepWrite_some hc]
  have written := applySweepWrite_written (c.setSweepEntry v.entry { c.sweepEntry v.entry with held := none }) v.entry fields
  generalize applySweepWrite v.entry fields _ = a at written
  have hunheld : (a.port p).held = none := by
    rw [written.frame]
    show (c.port p).held = none
    rw [closed.port]
    exact hport
  rw [applyHeldPortWrite_none hunheld]
  refine ⟨?entry, ?queue, ?inFlight⟩
  case entry =>
    refine written.entry.trans ?_
    rw [State.sweepEntry_setSweepEntry_same, closed.entry]
    rfl
  case queue =>
    have hqueue : c.visitQueue = s.visitQueue := by rw [closed.frame]
    rw [← hqueue]
    exact written.queue
  case inFlight =>
    rw [← closed.inFlight]
    rw [written.frame]
    rfl

/-- What an end leaves that applies the held PORT write of its port. -/
structure EndsWithPortWrite (p e : Nat) (how : VisitEnd) (h : HeldPortWrite) (s t : State) : Prop where
  cfg : (t.port p).cfg = (s.port p).rewritten (h.admitted p s)
  counters : (t.port p).counters = (s.port p).counters
  released : (t.port p).held = none
  state : (s.port p).restarts (h.admitted p s) → (t.port p).state = if (t.port p).cfg.enable then .seeking else .disabled
  kept : ¬(s.port p).restarts (h.admitted p s) → t.inFlight = s.inFlight ++ visitPosts p e how s.clock ++ h.posts p s
  restarted : (s.port p).restarts (h.admitted p s) →
    t.inFlight = s.inFlight ++ visitPosts p e how s.clock ++ leftLocked p (s.port p) ++ h.posts p s

theorem endVisit_withPortWrite {v : Visit} {h : HeldPortWrite} (hentry : (s.sweepEntry v.entry).held = none)
    (hport : (s.port p).held = some h) : EndsWithPortWrite p v.entry how h s (endVisit p v how s) := by
  have closed := closeVisit_closed s p v how
  have chosen := tryBoth_choiceMask (visitLeft p v how s)
  rw [endVisit_chooses]
  generalize tryBoth (visitLeft p v how s) = t at chosen
  have hports : t.port p = (visitLeft p v how s).port p := port_of_choiceMask chosen p
  have hflight : t.inFlight = (visitLeft p v how s).inFlight := (congrArg State.inFlight chosen :)
  rw [visitLeft] at hports hflight
  generalize closeVisit p v how s = c at closed hports hflight
  have hc : (c.port p).held = some h := by rw [closed.port]; exact hport
  have hlane : c.laneMap = s.laneMap := by rw [closed.frame]
  have hmeets : h.meets p c = h.meets p s := by
    unfold HeldPortWrite.meets
    refine congrArg (Option.any · _) (funext fun lane => ?_)
    rw [marginConflict, hlane]
    rfl
  have hadmitted : h.admitted p c = h.admitted p s := by rw [HeldPortWrite.admitted, hmeets]; rfl
  have hclock : c.clock = s.clock := by rw [closed.frame]; rfl
  have hposts : h.posts p c = h.posts p s := by rw [HeldPortWrite.posts, hmeets, hclock]; rfl
  rw [applyHeldSweepWrite_none (by rw [closed.entry]; exact hentry), applyHeldPortWrite_some hc, hadmitted, hposts]
    at hports hflight
  have written := applyPortWrite_written (c.setPort p (c.port p).released) p (h.admitted p s)
  have hbefore : (c.setPort p (c.port p).released).port p = { s.port p with given := none, held := none } := by
    rw [State.port_setPort_same, closed.port]
    rfl
  have hrestarts : ((c.setPort p (c.port p).released).port p).restarts (h.admitted p s) ↔
      (s.port p).restarts (h.admitted p s) := by
    rw [hbefore]
    exact Iff.rfl
  have hsent : (c.setPort p (c.port p).released).inFlight = s.inFlight ++ visitPosts p v.entry how s.clock := closed.inFlight
  generalize c.setPort p (c.port p).released = d at written hbefore hrestarts hsent hports hflight
  generalize applyPortWrite p (h.admitted p s) d = u at written hports hflight
  have hshown : t.port p = u.port p := hports
  have htold : t.inFlight = u.inFlight ++ h.posts p s := hflight
  obtain ⟨hcounters, -, hheld, -⟩ := written.counters
  rw [hbefore] at hcounters hheld
  refine ⟨?cfg, hshown ▸ hcounters, hshown ▸ hheld, fun hr => ?state, fun hr => ?kept, fun hr => ?restarted⟩
  case cfg =>
    rw [hshown, written.cfg, hbefore]
    rfl
  case state =>
    rw [hshown]
    exact (written.restarted (written.restarts_iff.mp (hrestarts.mpr hr))).1
  case kept => rw [htold, (written.kept (mt hrestarts.mp hr)).2, hsent]
  case restarted =>
    rw [htold, (written.reopened (hrestarts.mpr hr)).2, hsent, hbefore]
    rfl

theorem EndsWithPortWrite.reads {h : HeldPortWrite} {t : State} (ends : EndsWithPortWrite p e how h s t)
    (hn : (h.fields.map Prod.fst).Nodup) (hr : ∀ fv ∈ h.fields, portRange p fv.1 fv.2 = true) {f : Nat} (h1 : 1 ≤ f)
    (h5 : f ≤ 5) : readPort (t.port p) f = (selected? (h.admitted p s) f).getD (readPort (s.port p) f) := by
  rw [readPort_field _ ⟨h1, h5⟩, readPort_field _ ⟨h1, h5⟩, ends.cfg]
  exact PortConfig.field_rewritten _ (h.admitted_nodup hn) (fun fv hfv => hr fv (h.admitted_subset fv hfv)) f

theorem EndsWithPortWrite.restarts_iff {h : HeldPortWrite} {t : State} (ends : EndsWithPortWrite p e how h s t) :
    (t.port p).cfg.enable ≠ (s.port p).cfg.enable ∨ (t.port p).cfg.marginLane ≠ (s.port p).cfg.marginLane ↔
      (s.port p).restarts (h.admitted p s) := by
  rw [ends.cfg]
  exact Iff.rfl

theorem EndsWithPortWrite.sent {h : HeldPortWrite} {t : State} (ends : EndsWithPortWrite p e how h s t) :
    t.inFlight = s.inFlight ++ visitPosts p e how s.clock ++
      (if ((t.port p).cfg.enable ≠ (s.port p).cfg.enable ∨ (t.port p).cfg.marginLane ≠ (s.port p).cfg.marginLane) ∧
        ((s.port p).state = .locked ∨ (s.port p).state = .holdover) then
        [.classifierLeftLocked p, .directoryLeftLocked p] else []) ++ h.posts p s := by
  by_cases hr : (s.port p).restarts (h.admitted p s)
  · rw [ends.restarted hr, leftLocked_eq]
    simp only [ends.restarts_iff.mpr hr, true_and]
  · rw [ends.kept hr, if_neg fun hc => hr (ends.restarts_iff.mp hc.1), List.append_nil]

/-- No discard mark of the port outlives a dwell (R73). -/
theorem endVisit_unmarks {v : Visit} (hcan : Table.wf Candidate.default s.candidates) (hport : (s.port p).held = none)
    (hentry : (s.sweepEntry v.entry).held = none) (hd : v.dwells = true) (c : Nat) :
    (endVisit p v how s).candidate c = (s.candidate c).clearDiscard p := by
  have cleared := (endVisit_ended (how := how) hport hentry).candidates.trans (if_pos hd)
  exact (congrArg (Table.get _ · c) cleared).trans (candidate_clearDiscards s hcan p c)

end

/-! ### The rows that end a visit -/

section
variable {s : State} {p e d : Nat} {q : Bool}

theorem settleExpires_ends (h : (s.sweepPort p).visit = some ⟨e, q, .settling d⟩) :
    settleExpires p s = endVisit p ⟨e, q, .settling d⟩ .noLock (s.atTime d) := by
  unfold settleExpires
  simp only [h]

theorem settleExpires_idle (h : ∀ a b x, (s.sweepPort p).visit ≠ some ⟨a, b, .settling x⟩) : settleExpires p s = s := by
  unfold settleExpires
  split
  next a b x hv => exact absurd hv (h a b x)
  next => rfl

theorem sweepOutage_ends (h : (s.sweepPort p).visit = some ⟨e, q, .dwelling d⟩) :
    sweepOutage p s = endVisit p ⟨e, q, .dwelling d⟩ .outage s := by
  unfold sweepOutage
  simp only [h]

theorem sweepOutage_idle (h : ∀ a b x, (s.sweepPort p).visit ≠ some ⟨a, b, .dwelling x⟩) : sweepOutage p s = s := by
  unfold sweepOutage
  split
  next a b x hv => exact absurd hv (h a b x)
  next => rfl

theorem gradingComplete_ends (h : (s.sweepPort p).visit = some ⟨e, q, .grading⟩) :
    gradingComplete p s = endVisit p ⟨e, q, .grading⟩ .graded s := by
  unfold gradingComplete
  simp only [h]

theorem gradingComplete_idle (h : ∀ a b, (s.sweepPort p).visit ≠ some ⟨a, b, .grading⟩) : gradingComplete p s = s := by
  unfold gradingComplete
  split
  next a b hv => exact absurd hv (h a b)
  next => rfl

variable (hr : s.phase = .running) (hp : p = 12 ∨ p = 13)
include hr hp

theorem exec_settleTimerExpiry : exec (.settleTimerExpiry p) s = .next (settleExpires p s) :=
  onSweepPort_running hp hr (settleExpires p)

theorem exec_sweepOutageArrival : exec (.sweepOutageArrival p) s =
    .next (sweepOutage p (s.take (.sweepOutageArrival p))) :=
  onSweepPort_running hp hr fun u => sweepOutage p (u.take (.sweepOutageArrival p))

theorem exec_surveyGradingComplete : exec (.surveyGradingComplete p) s =
    .next (gradingComplete p (s.take (.surveyGradingComplete p))) :=
  onSweepPort_running hp hr fun u => gradingComplete p (u.take (.surveyGradingComplete p))

end

/-- Settles O41: every end by what an end leaves, alone, with a held SWEEP write and with a held PORT write. -/
theorem visitEnds : Obligations.VisitEnds := by
  intro s p e d q hr hp m v entry left given ended sweepApplied portApplied ends unmarked
  have settles (i : Instr) (x : VisitPhase) (how : VisitEnd) (now : Nat) (hhow : how ≠ .hold)
      (hexec : exec i s = .next (endVisit p ⟨e, q, x⟩ how { s with inFlight := s.inFlight.erase i, now := now })) :
      ends i how.outcome (visitPosts p e how ({ s with now := now } : State).clock) ({ s with now := now } : State).clock := by
    have after : m.afterVisit ⟨e, q, x⟩ how = left := by
      simp [SweepPort.afterVisit, cursorAfter, hhow, left]
    refine ⟨fun hport hentry => ?ended, fun h hport hentry hn hrange h1 h2 => ?sweepApplied,
      fun h hcan hentry hport hn hrange hh => ?portApplied⟩
    case ended =>
      have hended := endVisit_ended (s := { s with inFlight := s.inFlight.erase i, now := now }) (p := p)
        (v := ⟨e, q, x⟩) (how := how) hport hentry
      exact ⟨_, hexec, hended.entry, hended.port, hended.inFlight, fun hh => (hended.sweepPort hp hh).trans after⟩
    case sweepApplied =>
      obtain ⟨h12, h13⟩ : (s.sweepPort 12).held = true ∧ (s.sweepPort 13).held = true := by
        rcases hp with rfl | rfl
        · exact ⟨h1, h2⟩
        · exact ⟨h2, h1⟩
      have hends := endVisit_withSweepWrite (s := { s with inFlight := s.inFlight.erase i, now := now }) (p := p)
        (v := ⟨e, q, x⟩) (how := how) hport hentry h12 h13
      have hleft := endVisit_sweepPort (s := { s with inFlight := s.inFlight.erase i, now := now }) (how := how)
        (v := ⟨e, q, x⟩) hp h1
      generalize endVisit p ⟨e, q, x⟩ how _ = t at hexec hends hleft
      refine ⟨t, hexec, fun f hf1 hf6 => ?_, ?_, hends.queue, hleft.trans after, hends.inFlight⟩
      · show readSweep t e f = (selected? h f).getD (readSweep s e f)
        rw [readSweep_field _ _ ⟨hf1, hf6⟩, readSweep_field _ _ ⟨hf1, hf6⟩, hends.entry]
        exact SweepConfig.field_rewritten _ hn hrange f
      · rw [hends.entry]
        rfl
    case portApplied =>
      have hends := endVisit_withPortWrite (s := { s with inFlight := s.inFlight.erase i, now := now }) (p := p)
        (v := ⟨e, q, x⟩) (how := how) hentry hport
      have hleft := endVisit_sweepPort (s := { s with inFlight := s.inFlight.erase i, now := now }) (how := how)
        (v := ⟨e, q, x⟩) hp hh
      have hmeets := selectedMargin_conflict (s := { s with inFlight := s.inFlight.erase i, now := now }) (p := p) hcan hn hrange
      simp only [if_pos hp] at hmeets
      generalize endVisit p ⟨e, q, x⟩ how _ = t at hexec hends hleft
      refine ⟨t, hexec, hends.released, hends.counters, hleft.trans after, fun f h1 h5 hf => ?reads,
        fun hr => hends.state (hends.restarts_iff.mp hr), fun hm => ⟨?margin, ?sent⟩, fun tag hm htag => ⟨?kept, ?told⟩⟩
      case reads => exact (hends.reads hn hrange h1 h5).trans (by rw [HeldPortWrite.selected_admitted hf]; rfl)
      case margin =>
        refine (hends.reads hn hrange (f := 2) (by decide) (by decide)).trans ?_
        rw [(HeldPortWrite.free (mt hmeets.mp hm)).1]
        rfl
      case sent =>
        have hnone := (HeldPortWrite.free (mt hmeets.mp hm)).2
        exact hends.sent.trans ((congrArg (_ ++ ·) hnone).trans (List.append_nil _))
      case kept =>
        rw [hends.cfg]
        exact HeldPortWrite.admitted_marginLane (hmeets.mpr hm) _
      case told =>
        exact hends.sent.trans (congrArg (_ ++ ·) (HeldPortWrite.posts_meets (hmeets.mpr hm) htag))
  have unmarks (i : Instr) (x : VisitPhase) (how : VisitEnd) (hd : (⟨e, q, x⟩ : Visit).dwells = true)
      (hexec : exec i s = .next (endVisit p ⟨e, q, x⟩ how (s.take i))) : unmarked i := by
    intro hcan hport hentry
    exact ⟨_, hexec, endVisit_unmarks (s := s.take i) (v := ⟨e, q, x⟩) hcan.2.2.2.1 hport hentry hd⟩
  refine ⟨fun hv hi => ?settle, fun hv => ?outage, fun hv => ?graded, fun hv => ?noOutage, fun hv => ?noGrading,
    fun hv => ?noSettle⟩
  case settle =>
    refine settles (.settleTimerExpiry p) (.settling d) .noLock (max s.now d) nofun ?_
    rw [exec_settleTimerExpiry hr hp, settleExpires_ends hv, List.erase_of_not_mem hi]
    rfl
  case outage =>
    have hexec : exec (.sweepOutageArrival p) s = _ :=
      (exec_sweepOutageArrival hr hp).trans (congrArg _ (sweepOutage_ends (s := s.take (.sweepOutageArrival p)) hv))
    exact ⟨settles _ (.dwelling d) .outage s.now nofun hexec, unmarks _ (.dwelling d) .outage rfl hexec⟩
  case graded =>
    have hexec : exec (.surveyGradingComplete p) s = _ := (exec_surveyGradingComplete hr hp).trans
      (congrArg _ (gradingComplete_ends (s := s.take (.surveyGradingComplete p)) hv))
    exact ⟨settles _ .grading .graded s.now nofun hexec, unmarks _ .grading .graded rfl hexec⟩
  case noOutage => rw [exec_sweepOutageArrival hr hp, sweepOutage_idle (s := s.take (.sweepOutageArrival p)) hv]
  case noGrading => rw [exec_surveyGradingComplete hr hp, gradingComplete_idle (s := s.take (.surveyGradingComplete p)) hv]
  case noSettle => rw [exec_settleTimerExpiry hr hp, settleExpires_idle hv]

end Sys2Proof.Machine
end

section
/-! PROOFS. SWEEP HOLD, SWEEP RESUME and VISIT NOW (O42). -/

namespace Sys2Proof.Machine

/-! ### The choice of one port, the other settled (R121) -/

section
variable {s : State} {p r e : Nat}

theorem tryChoose_held (s : State) (p r : Nat) : ((tryChoose p s).sweepPort r).held = (s.sweepPort r).held := by
  rcases tryChoose_cases s p with h | ⟨e, b, h⟩
  · rw [h]
  · by_cases hr : r = p
    · rw [h, hr, beginVisit_sweepPort]
    · rw [tryChoose_sweepPort_other hr]

theorem tryBoth_held (s : State) (r : Nat) : ((tryBoth s).sweepPort r).held = (s.sweepPort r).held :=
  (tryChoose_held _ 13 r).trans (tryChoose_held s 12 r)

theorem tryBoth_inFlight (s : State) : (tryBoth s).inFlight = s.inFlight := by rw [tryBoth_frame]

/-- With the other port settled, only the one port chooses. -/
theorem tryBoth_one (hp : p = 12 ∨ p = 13) (h : s.settled (25 - p)) : tryBoth s = tryChoose p s := by
  rcases hp with rfl | rfl
  · exact tryChoose_settled (settled_of_choice (tryChoose_choiceMask s 12) (tryChoose_sweepPort_other (by decide)) h)
  · exact congrArg (tryChoose 13) (tryChoose_settled h)

theorem queuedChoice_alone (hq : s.visitQueue = [e]) (ha : (s.sweepEntry e).cfg.affinity.admits p = true) :
    queuedChoice s p = some e := by
  rw [queuedChoice, hq]
  exact List.find?_cons_of_pos ha

theorem Affinity.admits_iff {a : Affinity} (p : Nat) :
    a.admits p = true ↔ a = .any ∨ (a = .sp0 ∧ p = 12) ∨ (a = .sp1 ∧ p = 13) := by
  cases a <;> simp [Affinity.admits]

/-- An idle port that may choose, alone, with one entry queued that it may visit. -/
theorem tryBoth_begins (hp : p = 12 ∨ p = 13) (hother : (s.sweepPort (25 - p)).held = true)
    (hv : (s.sweepPort p).visit = none) (hh : (s.sweepPort p).held = false) (he : (s.port p).cfg.enable = true)
    (hq : s.visitQueue = [e]) (ha : (s.sweepEntry e).cfg.affinity.admits p = true) :
    tryBoth s = beginVisit p e true s ∧ (beginVisit p e true s).visitQueue = [] ∧
      (beginVisit p e true s).sweepPort (25 - p) = s.sweepPort (25 - p) := by
  refine ⟨(tryBoth_one hp (.inr (.inl hother))).trans (tryChoose_queued hv hh he (queuedChoice_alone hq ha)), ?_,
    State.sweepPort_setSweepPort_other _ _ _ _ (by omega)⟩
  show s.visitQueue.erase e = []
  rw [hq, List.erase_cons_head]

theorem beginVisit_underVisit (hp : p = 12 ∨ p = 13) (b : Bool) : (beginVisit p e b s).underVisit e = true := by
  have visited : (beginVisit p e b s).visiting p = some e := congrArg (·.visit.map Visit.entry) (beginVisit_sweepPort s p e b)
  unfold State.underVisit
  rcases hp with rfl | rfl
  · rw [visited, beq_self_eq_true, Bool.true_or]
  · rw [visited, beq_self_eq_true, Bool.or_true]

end

/-! ### Holds (R129) -/

/-- A visit that a hold ends: it settles or dwells. -/
def SweepPort.ends (m : SweepPort) (e : Nat) (q : Bool) (x : VisitPhase) : Prop :=
  m.visit = some ⟨e, q, x⟩ ∧ ∃ d, x = .settling d ∨ x = .dwelling d

/-- A port that a hold leaves in its visit, or idle. -/
def SweepPort.stays (m : SweepPort) : Prop :=
  ∀ a b d, m.visit ≠ some ⟨a, b, .settling d⟩ ∧ m.visit ≠ some ⟨a, b, .dwelling d⟩

section
variable {s : State} {p r e : Nat} {q : Bool} {x : VisitPhase}

theorem SweepPort.stays_or_ends (m : SweepPort) : m.stays ∨ ∃ e q x, m.ends e q x := by
  by_cases h : ∃ e q x, m.ends e q x
  · exact .inr h
  · refine .inl fun a b d => ⟨fun hv => h ⟨a, b, _, hv, d, .inl rfl⟩, fun hv => h ⟨a, b, _, hv, d, .inr rfl⟩⟩

theorem holdVisit_ends (h : (s.sweepPort p).ends e q x) : holdVisit p s = endVisit p ⟨e, q, x⟩ .hold s := by
  obtain ⟨hv, d, rfl | rfl⟩ := h
  · unfold holdVisit
    simp only [hv]
  · unfold holdVisit
    simp only [hv]

theorem holdVisit_stays (h : (s.sweepPort p).stays) : holdVisit p s = s := by
  unfold holdVisit
  split
  next a b d hv => exact absurd hv (h a b d).1
  next a b d hv => exact absurd hv (h a b d).2
  next => rfl

theorem holdVisit_sweepPort_other (hr : r = 12 ∨ r = 13) (hne : r ≠ p) (hh : (s.sweepPort r).held = true) :
    (holdVisit p s).sweepPort r = s.sweepPort r := by
  rcases (s.sweepPort p).stays_or_ends with h | ⟨e, q, x, h⟩
  · rw [holdVisit_stays h]
  · have left := (visitLeft_sweepPort s p ⟨e, q, x⟩ .hold).2 r hne
    rw [holdVisit_ends h, endVisit_chooses, tryBoth_sweepPort_settled hr (.inr (.inl (by rw [left]; exact hh))), left]

/-- What a hold makes of a port named: held already, staying, or with its visit ended. -/
structure HeldAs (m n : SweepPort) : Prop where
  stays : m.stays ∨ m.held = true → n = { m with held := true }
  ends : ∀ e q x, m.ends e q x → m.held = false → n = ({ m with held := true } : SweepPort).afterVisit ⟨e, q, x⟩ .hold

theorem HeldAs.of_held {m : SweepPort} (h : m.held = true) : HeldAs m m where
  stays _ := by rw [← h]
  ends _ _ _ _ hh := nomatch h.symm.trans hh

theorem setHeld_sweepPort_same (s : State) (p : Nat) (b : Bool) :
    (setHeld p b s).sweepPort p = { s.sweepPort p with held := b } := State.sweepPort_setSweepPort_same ..

theorem setHeld_sweepPort_other (hne : r ≠ p) (b : Bool) : (setHeld p b s).sweepPort r = s.sweepPort r :=
  State.sweepPort_setSweepPort_other _ _ _ _ hne

theorem setHeld_both (s : State) (hr : r = 12 ∨ r = 13) (b : Bool) :
    (setHeld 13 b (setHeld 12 b s)).sweepPort r = { s.sweepPort r with held := b } := by
  rcases hr with rfl | rfl
  · exact (setHeld_sweepPort_other (by decide) b).trans (setHeld_sweepPort_same s 12 b)
  · refine (setHeld_sweepPort_same (setHeld 12 b s) 13 b).trans ?_
    rw [setHeld_sweepPort_other (by decide) b]

/-- A port whose flag is set has its visit ended or left. -/
theorem holdVisit_heldAs {m : SweepPort} (hp : p = 12 ∨ p = 13) (hm : m.held = false)
    (hs : s.sweepPort p = { m with held := true }) : HeldAs m ((holdVisit p s).sweepPort p) where
  stays h := by
    have hstays : (s.sweepPort p).stays := by
      rw [hs]
      exact h.resolve_right fun hh => nomatch hh.symm.trans hm
    rw [holdVisit_stays hstays, hs]
  ends e q x h _ := by
    have hends : (s.sweepPort p).ends e q x := by
      rw [hs]
      exact h
    rw [holdVisit_ends hends, endVisit_sweepPort hp (by rw [hs]), hs]

theorem holdPorts_one_held (h : (s.sweepPort p).held = true) : holdPorts [p] s = s := by
  simp [holdPorts, h]

theorem holdPorts_one (h : (s.sweepPort p).held = false) : holdPorts [p] s = holdVisit p (setHeld p true s) := by
  simp [holdPorts, h]

theorem HeldAs.held {m n : SweepPort} (h : HeldAs m n) : n.held = true := by
  by_cases hm : m.stays ∨ m.held = true
  · rw [h.stays hm]
  · obtain ⟨hstays, hh⟩ := not_or.mp hm
    obtain ⟨e, q, x, hx⟩ := m.stays_or_ends.resolve_left hstays
    rw [h.ends e q x hx (Bool.eq_false_iff.mpr hh)]
    rfl

/-- A hold that finds one port held already. -/
theorem holdVisit_both_one (hp : p = 12 ∨ p = 13) (hr : r = 12 ∨ r = 13) (h : (s.sweepPort p).held = false)
    (hother : ∀ o, o = 12 ∨ o = 13 → o ≠ p → (s.sweepPort o).held = true) :
    HeldAs (s.sweepPort r) ((holdVisit p (setHeld p true s)).sweepPort r) := by
  by_cases hrp : r = p
  · rw [hrp]
    exact holdVisit_heldAs hp h (setHeld_sweepPort_same s p true)
  · have hkept : (setHeld p true s).sweepPort r = s.sweepPort r := setHeld_sweepPort_other hrp true
    rw [holdVisit_sweepPort_other hr hrp (by rw [hkept]; exact hother r hr hrp), hkept]
    exact .of_held (hother r hr hrp)

/-- A hold that finds neither port held: both flags are set before the first visit ends. -/
theorem holdVisit_both (hr : r = 12 ∨ r = 13) (h12 : (s.sweepPort 12).held = false) (h13 : (s.sweepPort 13).held = false) :
    HeldAs (s.sweepPort r) ((holdVisit 13 (holdVisit 12 (setHeld 13 true (setHeld 12 true s)))).sweepPort r) := by
  have hsecond := setHeld_both s (.inr rfl) true
  have hheld := holdVisit_heldAs (.inl rfl) h12 (setHeld_both s (.inl rfl) true)
  have hkept := (holdVisit_sweepPort_other (p := 12) (.inr rfl) (by decide) (by rw [hsecond])).trans hsecond
  rcases hr with rfl | rfl
  · rw [holdVisit_sweepPort_other (.inl rfl) (by decide) hheld.held]
    exact hheld
  · exact holdVisit_heldAs (.inr rfl) h13 hkept

/-- A hold on both ports: the flags first, then the visits. -/
theorem holdPorts_both (hr : r = 12 ∨ r = 13) : HeldAs (s.sweepPort r) ((holdPorts [12, 13] s).sweepPort r) := by
  have alone {p : Nat} (hp : p = 12 ∨ p = 13) (h : (s.sweepPort (25 - p)).held = true) (o : Nat) (ho : o = 12 ∨ o = 13)
      (hne : o ≠ p) : (s.sweepPort o).held = true := by
    obtain rfl : o = 25 - p := by omega
    exact h
  cases h12 : (s.sweepPort 12).held with
  | true =>
    cases h13 : (s.sweepPort 13).held with
    | true =>
      have hnone : holdPorts [12, 13] s = s := by simp [holdPorts, h12, h13]
      rw [hnone]
      rcases hr with rfl | rfl
      · exact .of_held h12
      · exact .of_held h13
    | false =>
      have hone : holdPorts [12, 13] s = holdVisit 13 (setHeld 13 true s) := by simp [holdPorts, h12, h13]
      rw [hone]
      exact holdVisit_both_one (.inr rfl) hr h13 (alone (.inr rfl) h12)
  | false =>
    cases h13 : (s.sweepPort 13).held with
    | true =>
      have hone : holdPorts [12, 13] s = holdVisit 12 (setHeld 12 true s) := by simp [holdPorts, h12, h13]
      rw [hone]
      exact holdVisit_both_one (.inl rfl) hr h12 (alone (.inl rfl) h13)
    | false =>
      have htwo : holdPorts [12, 13] s = holdVisit 13 (holdVisit 12 (setHeld 13 true (setHeld 12 true s))) := by
        simp [holdPorts, h12, h13]
      rw [htwo]
      exact holdVisit_both hr h12 h13

end

/-! ### The commands -/

section
variable {s : State} {p e : Nat} {b : List Byte} {l : List Nat}

theorem octetAt_be8_alone {n : Nat} (hn : n < 256) : octetAt (be8 n) 0 = n := octetAt_be8 hn []

/-- A body of one octet is that octet. -/
theorem eq_be8_of_length (h : b.length = 1) : b = be8 (octetAt b 0) := by
  obtain ⟨x, rfl⟩ := List.length_eq_one_iff.mp h
  simp [octetAt, be8]

theorem holdCommand_named (h : namedPorts (octetAt b 0) = some l) :
    holdCommand b s = .done (sweepReply (holdPorts l s)) (holdPorts l s) := by
  unfold holdCommand
  simp only [h]

theorem resumeCommand_named (h : namedPorts (octetAt b 0) = some l) :
    resumeCommand b s = .done (sweepReply (resumePorts l s)) (resumePorts l s) := by
  unfold resumeCommand
  simp only [h]

theorem commands_unnamed (h : namedPorts (octetAt b 0) = none) :
    holdCommand b s = .refused .range ∧ resumeCommand b s = .refused .range := by
  unfold holdCommand resumeCommand
  simp only [h, and_self]

theorem namedPorts_none {n : Nat} (h : 3 ≤ n) : namedPorts n = none := by
  match n, h with
  | n + 3, _ => rfl

theorem namedPorts_some {n : Nat} (h : n < 3) : ∃ l, namedPorts n = some l := by
  match n, h with
  | 0, _ => exact ⟨_, rfl⟩
  | 1, _ => exact ⟨_, rfl⟩
  | 2, _ => exact ⟨_, rfl⟩

theorem namedPorts_port (hp : p = 12 ∨ p = 13) : namedPorts (p - 12) = some [p] := by
  rcases hp with rfl | rfl <;> rfl

/-! ### VISIT NOW (R120) -/

section
variable (he : octetAt b 0 = e)
include he

theorem visitNowCommand_range (h : 64 ≤ e) : visitNowCommand b s = .refused .range := if_pos (he ▸ h)

section
variable (hlt : e < 64)
include hlt

theorem visitNowCommand_state (h : (s.sweepEntry e).cfg.state ≠ .enabled) : visitNowCommand b s = .refused .state := by
  simp [visitNowCommand, he, Nat.not_le.mpr hlt, h]

variable (hs : (s.sweepEntry e).cfg.state = .enabled)
include hs

theorem visitNowCommand_told (h : e ∈ s.visitQueue ∨ s.underVisit e = true) :
    visitNowCommand b s = .done (visitReply s e) s := by
  simp [visitNowCommand, he, Nat.not_le.mpr hlt, hs, h]

variable (hq : e ∉ s.visitQueue) (hu : s.underVisit e = false)
include hq hu

theorem visitNowCommand_full (h : 8 ≤ s.visitQueue.length) : visitNowCommand b s = .refused .full := by
  simp [visitNowCommand, he, Nat.not_le.mpr hlt, hs, hq, hu, h]

theorem visitNowCommand_queues (h : s.visitQueue.length < 8) : visitNowCommand b s =
    .done (visitReply (tryBoth { s with visitQueue := s.visitQueue ++ [e] }) e)
      (tryBoth { s with visitQueue := s.visitQueue ++ [e] }) := by
  simp [visitNowCommand, he, Nat.not_le.mpr hlt, hs, hq, hu, Nat.not_le.mpr h]

end
end

theorem visitReply_visited (h : s.underVisit e = true) : visitReply s e = [0xFF] := if_pos h

theorem visitReply_queued (h : s.underVisit e = false) (hq : e ∈ s.visitQueue) :
    visitReply s e = be8 (s.visitQueue.idxOf e + 1) := by
  simp [visitReply, h, queuePosition, hq]

end

/-- Settles O42: each command by its verdict, and the verdict by what a hold, a resumption and a choice leave. -/
theorem holdResumeVisit : Obligations.HoldResumeVisit := by
  intro s c p e h hp m other begun admitted names shows stays
  have hhold (hl : s.admitsLevel c.level 1) (hb : c.body.length = 1) :
      exec (.sweepHold c) s = .next (answer (goodRecord 0x20 c) s (holdCommand c.body s)) :=
    exec_checked h hb hl 0x20 (holdCommand c.body)
  have hresume (hl : s.admitsLevel c.level 1) (hb : c.body.length = 1) :
      exec (.sweepResume c) s = .next (answer (goodRecord 0x21 c) s (resumeCommand c.body s)) :=
    exec_checked h hb hl 0x21 (resumeCommand c.body)
  have hvisit (hl : s.admitsLevel c.level 2) (hb : c.body.length = 1) :
      exec (.visitNow c) s = .next (answer (goodRecord 0x22 c) s (visitNowCommand c.body s)) :=
    exec_checked h hb hl 0x22 (visitNowCommand c.body)
  have octet {n : Nat} (hn : n < 256) (hb : c.body = be8 n) : c.body.length = 1 ∧ octetAt c.body 0 = n := by
    rw [hb]
    exact ⟨rfl, octetAt_be8_alone hn⟩
  have holds {n : Nat} {l : List Nat} (hl : s.admitsLevel c.level 1) (hb : c.body = be8 n) (hn : namedPorts n = some l)
      (hlt : n < 256) : exec (.sweepHold c) s =
        .next (answer (goodRecord 0x20 c) s (.done (sweepReply (holdPorts l s)) (holdPorts l s))) := by
    obtain ⟨hlength, hoctet⟩ := octet hlt hb
    rw [hhold hl hlength, holdCommand_named (hoctet.symm ▸ hn)]
  have resumes {n : Nat} {l : List Nat} (hl : s.admitsLevel c.level 1) (hb : c.body = be8 n) (hn : namedPorts n = some l)
      (hlt : n < 256) : exec (.sweepResume c) s =
        .next (answer (goodRecord 0x21 c) s (.done (sweepReply (resumePorts l s)) (resumePorts l s))) := by
    obtain ⟨hlength, hoctet⟩ := octet hlt hb
    rw [hresume hl hlength, resumeCommand_named (hoctet.symm ▸ hn)]
  have hplt : p - 12 < 256 := by omega
  have shown (r : SweepPort) : be8 (visitCode r.visit) ++ flag8 r.held = shows r := by
    obtain ⟨visit, cursor, held⟩ := r
    match visit with
    | none => rfl
    | some ⟨_, _, .tuning _ _⟩ => rfl
    | some ⟨_, _, .settling _⟩ => rfl
    | some ⟨_, _, .dwelling _⟩ => rfl
    | some ⟨_, _, .grading⟩ => rfl
  have replied (u : State) : sweepReply u = shows (u.sweepPort 12) ++ shows (u.sweepPort 13) := by
    rw [← shown, ← shown, sweepReply]
    simp only [List.append_assoc]
  have admits (ha : admitted) : (s.sweepEntry e).cfg.affinity.admits p = true := (Affinity.admits_iff p).mpr ha
  refine ⟨fun n hn hl hb => ?replies, fun hl hb hs => ?stays, fun x d phase hl hb hv hphase hh hport hentry => ?ends,
    fun hl hb => ?holdBoth, fun hl hb => ?resumeBoth, fun hl hb hv => ?resumeVisiting, fun hl hb hlength => ?range,
    fun hl hb hv hh hon ho hq ha => ?resumeIdle, fun hl hb hlt hs => ?notEnabled, fun hl hb h64 hlt => ?notEntry,
    fun hl hb hlt hs hq hu => ?queued, fun hl hb hlt hs hu => ?underVisit, fun hl hb hlt hs hq hu hfull => ?full,
    fun hl hb hlt hs hq hu hroom hh ho => ?queues, fun hl hb hlt hs hq hu hv hh hon ho ha => ?visits⟩
  case replies =>
    obtain ⟨l, hl'⟩ := namedPorts_some hn
    refine ⟨⟨_, holds hl hb hl' (by omega), ?_⟩, ⟨_, resumes hl hb hl' (by omega), ?_⟩⟩
    · exact congrArg (fun body => some (⟨c.tag, 0x20, .done, .none, body⟩ : Reply)) (replied (holdPorts l s))
    · exact congrArg (fun body => some (⟨c.tag, 0x21, .done, .none, body⟩ : Reply)) (replied (resumePorts l s))
  case stays =>
    have hexec := holds hl hb (namedPorts_port hp) hplt
    cases hh : m.held with
    | true =>
      rw [holdPorts_one_held hh] at hexec
      refine ⟨_, hexec, ?_, rfl, rfl, fun _ => rfl, rfl⟩
      exact congrArg (fun b => ({ m with held := b } : SweepPort)) hh
    | false =>
      have hstays : ((setHeld p true s).sweepPort p).stays := by
        rw [setHeld_sweepPort_same]
        exact hs.resolve_right fun hc => nomatch hc.symm.trans hh
      rw [holdPorts_one hh, holdVisit_stays hstays] at hexec
      exact ⟨_, hexec, setHeld_sweepPort_same s p true, setHeld_sweepPort_other (by omega) true, rfl, nofun, rfl⟩
  case ends =>
    have hends : ((setHeld p true s).sweepPort p).ends e x phase := by
      rw [setHeld_sweepPort_same]
      exact ⟨hv, d, hphase⟩
    have hexec := holds hl hb (namedPorts_port hp) hplt
    rw [holdPorts_one hh, holdVisit_ends hends] at hexec
    have hended := endVisit_ended (s := setHeld p true s) (p := p) (v := ⟨e, x, phase⟩) (how := .hold) hport hentry
    have hleft := hended.sweepPort hp (by rw [setHeld_sweepPort_same])
    rw [setHeld_sweepPort_same] at hleft
    have hunmarked (hd : (⟨e, x, phase⟩ : Visit).dwells = true) (hcan : s.canonical) :=
      endVisit_unmarks (s := setHeld p true s) (v := ⟨e, x, phase⟩) (how := .hold) hcan.2.2.2.1 hport hentry hd
    generalize endVisit p ⟨e, x, phase⟩ .hold (setHeld p true s) = u at hexec hended hleft hunmarked
    refine ⟨_, hexec, hleft, hended.entry, hended.port, hended.inFlight.trans (List.append_nil _), hended.laneMap, ?_, ?_⟩
    · rintro rfl
      exact ⟨hended.candidates, hended.contexts rfl⟩
    · rintro rfl
      exact ⟨hended.context rfl rfl, hunmarked rfl⟩
  case holdBoth =>
    refine ⟨_, holds hl hb rfl (by decide), fun r hr => ?_⟩
    have hheld := holdPorts_both (s := s) hr
    exact ⟨hheld.stays, fun a x d phase hv hphase hh => hheld.ends a x phase ⟨hv, d, hphase⟩ hh⟩
  case resumeBoth =>
    have hset {r : Nat} (hr : r = 12 ∨ r = 13) := setHeld_both s hr false
    have hresumed : resumePorts [12, 13] s = tryBoth (setHeld 13 false (setHeld 12 false s)) := rfl
    have hexec := resumes hl hb (l := [12, 13]) rfl (by decide)
    rw [hresumed] at hexec
    generalize setHeld 13 false (setHeld 12 false s) = u at hset hexec
    have hheld (r : Nat) (hr : r = 12 ∨ r = 13) : ((tryBoth u).sweepPort r).held = false := by
      rw [tryBoth_held, hset hr]
    have hstill (r : Nat) (hr : r = 12 ∨ r = 13) (hv : (s.sweepPort r).visit.isSome = true) :
        (tryBoth u).sweepPort r = { s.sweepPort r with held := false } := by
      rw [tryBoth_sweepPort_settled hr (.inl (by rw [hset hr]; exact hv)), hset hr]
    exact ⟨_, hexec, fun r hr => ⟨hheld r hr, hstill r hr⟩⟩
  case resumeVisiting =>
    have hset := setHeld_sweepPort_same s p false
    have hstill : (tryBoth (setHeld p false s)).sweepPort p = { m with held := false } :=
      (tryBoth_sweepPort_settled hp (.inl (by rw [hset]; exact hv))).trans hset
    have hflight : (tryBoth (setHeld p false s)).inFlight = s.inFlight := tryBoth_inFlight _
    have hresumed : resumePorts [p] s = tryBoth (setHeld p false s) := rfl
    have hexec := resumes hl hb (namedPorts_port hp) hplt
    rw [hresumed] at hexec
    generalize tryBoth (setHeld p false s) = u at hexec hstill hflight
    exact ⟨_, hexec, hstill, hflight⟩
  case range =>
    have hnamed : namedPorts (octetAt c.body 0) = none := by
      refine namedPorts_none (Nat.le_of_not_lt fun hlt => hb _ hlt (eq_be8_of_length hlength))
    obtain ⟨hno, hno'⟩ := commands_unnamed (s := s) hnamed
    rw [hhold hl hlength, hresume hl hlength, hno, hno']
    exact ⟨rfl, rfl⟩
  case resumeIdle =>
    have hset := setHeld_sweepPort_same s p false
    have hothers : (setHeld p false s).sweepPort (25 - p) = s.sweepPort other := setHeld_sweepPort_other (by omega) false
    obtain ⟨hbegins, hqueue, hkept⟩ := tryBoth_begins (s := setHeld p false s) hp (by rw [hothers]; exact ho)
      (by rw [hset]; exact hv) (by rw [hset]) hon hq (admits ha)
    have hexec := resumes hl hb (namedPorts_port hp) hplt
    have hresumed : resumePorts [p] s = beginVisit p e true (setHeld p false s) := hbegins
    have hport := beginVisit_sweepPort (setHeld p false s) p e true
    rw [hset] at hport
    rw [hresumed] at hexec
    exact ⟨_, hexec, hqueue, hport, hkept.trans hothers⟩
  case notEnabled =>
    obtain ⟨hlength, hoctet⟩ := octet (by omega) hb
    rw [hvisit hl hlength, visitNowCommand_state hoctet hlt hs]
    rfl
  case notEntry =>
    obtain ⟨hlength, hoctet⟩ := octet hlt hb
    rw [hvisit hl hlength, visitNowCommand_range hoctet h64]
    rfl
  case queued =>
    obtain ⟨hlength, hoctet⟩ := octet (by omega) hb
    rw [hvisit hl hlength, visitNowCommand_told hoctet hlt hs (.inl hq), visitReply_queued hu hq]
    rfl
  case underVisit =>
    obtain ⟨hlength, hoctet⟩ := octet (by omega) hb
    rw [hvisit hl hlength, visitNowCommand_told hoctet hlt hs (.inr hu), visitReply_visited hu]
    rfl
  case full =>
    obtain ⟨hlength, hoctet⟩ := octet (by omega) hb
    rw [hvisit hl hlength, visitNowCommand_full hoctet hlt hs hq hu hfull]
    rfl
  case queues =>
    obtain ⟨hlength, hoctet⟩ := octet (by omega) hb
    obtain ⟨h12, h13⟩ : (s.sweepPort 12).held = true ∧ (s.sweepPort 13).held = true := by
      rcases hp with rfl | rfl
      · exact ⟨hh, ho⟩
      · exact ⟨ho, hh⟩
    have hsettled : tryBoth { s with visitQueue := s.visitQueue ++ [e] } = { s with visitQueue := s.visitQueue ++ [e] } :=
      tryBoth_settled (.inr (.inl h12)) (.inr (.inl h13))
    have hreply : visitReply { s with visitQueue := s.visitQueue ++ [e] } e = be8 (s.visitQueue.length + 1) := by
      have hposition : (s.visitQueue ++ [e]).idxOf e = s.visitQueue.length := by
        rw [List.idxOf_append_of_notMem hq, List.idxOf_cons_self, Nat.add_zero]
      have hmem : e ∈ s.visitQueue ++ [e] := List.mem_append_right _ (List.mem_singleton_self e)
      refine (visitReply_queued (s := { s with visitQueue := s.visitQueue ++ [e] }) hu hmem).trans ?_
      rw [hposition]
    rw [hvisit hl hlength, visitNowCommand_queues hoctet hlt hs hq hu hroom, hsettled, hreply]
    rfl
  case visits =>
    obtain ⟨hlength, hoctet⟩ := octet (by omega) hb
    have hempty : e ∉ s.visitQueue := by rw [hq]; exact List.not_mem_nil
    have hroom : s.visitQueue.length < 8 := by rw [hq]; decide
    obtain ⟨hbegins, hqueue, -⟩ := tryBoth_begins (s := { s with visitQueue := s.visitQueue ++ [e] }) hp ho hv hh hon
      (by rw [hq]; rfl) (admits ha)
    have hunder := beginVisit_underVisit (s := { s with visitQueue := s.visitQueue ++ [e] }) (e := e) hp true
    have hport := beginVisit_sweepPort { s with visitQueue := s.visitQueue ++ [e] } p e true
    have hexec := hvisit hl hlength
    rw [visitNowCommand_queues hoctet hlt hs hempty hu hroom, hbegins, visitReply_visited hunder] at hexec
    exact ⟨_, hexec, hqueue, hport, hunder, rfl⟩

end Sys2Proof.Machine
end

section
/-! PROOFS. What a read returns, and the answers of PROBE ACCESS (O55). -/

namespace Sys2Proof.Machine

/-! ### READ ENTRY (R163) -/

section
variable {s : State} {c : Cmd} {r : TableRead} {t : TableId}

theorem inRange_of_named (ht : tableOf r.table = some t) : r.inRange = true ↔
    t.holds r.index = true ∧ (1 ≤ r.fields.length ∧ r.fields.length ≤ 34) ∧ ∀ f ∈ r.fields, t.hasField r.index f = true := by
  unfold TableRead.inRange
  simp only [ht, between, Bool.and_eq_true, decide_eq_true_eq, List.all_eq_true, and_assoc]

theorem inRange_of_unnamed (ht : tableOf r.table = none) : r.inRange = false := by
  unfold TableRead.inRange
  simp only [ht]

theorem readReply_named (ht : tableOf r.table = some t) : readReply s r =
    be8 r.table ++ be16 r.index ++ flag8 (changePending s t r.index) ++ be8 r.fields.length ++
      r.fields.flatMap fun f => be8 f ++ be32 (readField s t r.index f) := by
  unfold readReply
  simp only [ht]

theorem readEntry_badLength (hb : readEntryBody c.body = none) : readEntry c s = .refused .badLength := by
  unfold readEntry
  simp only [hb]

theorem readEntry_body (hb : readEntryBody c.body = some r) (hl : s.admitsLevel c.level 3) :
    readEntry c s = if r.inRange then .done (readReply s r) s else .refused .range := by
  unfold readEntry
  simp only [hb, hl.1, decide_true, checked_admits (withinCeiling_of_admits hl)]

theorem exec_readEntry (h : s.takesCommand) :
    exec (.readEntry c) s = .next (answer (goodRecord 0x02 c) s (readEntry c s)) := by
  have hexec : exec (.readEntry c) s = whenRunning s (manage (goodRecord 0x02 c) (readEntry c)) := rfl
  rw [hexec, whenRunning_taken (h.takes _)]

end

/-! ### The fields of the tables (R23, R31, R32, R34, R69, R140) -/

section
variable (s : State) (i : Nat)

theorem val32_rankPosition : val32 (rankPosition s i) =
    match (s.candidate i).cfg.owner with
    | some k => if i ∈ (s.service k).rank then (s.service k).rank.idxOf i + 1 else 0xFFFFFFFF
    | none => 0xFFFFFFFF := by
  unfold rankPosition
  cases (s.candidate i).cfg.owner with
  | none => rfl
  | some k =>
    by_cases hmem : i ∈ (s.service k).rank
    · simp [hmem, val32]
    · simp [hmem, val32, absent32]

theorem directorySource_eq : directorySource s i = if i = 12 ∨ i = 13 then (s.port i).given.map (64 + ·) else some i := by
  unfold directorySource
  by_cases hi : i = 12 ∨ i = 13
  · rw [if_pos (isSweepPort_of hi), if_pos hi, sourceOfPort_sweep hi]
  · obtain ⟨h12, h13⟩ := not_or.mp hi
    rw [isSweepPort_of_ne h12 h13, if_neg hi]
    rfl

theorem toNat_decide (p : Prop) [Decidable p] : (decide p).toNat = if p then 1 else 0 := by
  by_cases h : p <;> simp [h]

/-- An entry of a snapshot, by the field of its service number and by that of its lane (R140). -/
theorem readDirectory_entry (n : Nat) : readDirectory s i (n + 16) =
    match ((directorySource s i).bind s.snapshot).bind fun w => w.entries[n / 2]? with
    | some e => if n % 2 = 0 then e.1 else e.2
    | none => absent32 := by
  have hindex : (n + 16 - 16) / 2 = n / 2 := by omega
  have hparity : (n + 16) % 2 = n % 2 := by omega
  have hread : readDirectory s i (n + 16) =
      match ((directorySource s i).bind s.snapshot).bind fun w => w.entries[(n + 16 - 16) / 2]? with
      | some e => if (n + 16) % 2 = 0 then e.1 else e.2
      | none => absent32 := rfl
  rw [hread, hindex, hparity]

section
variable {s i} {w : Snapshot}

theorem readDirectory_absent (h : (directorySource s i).bind s.snapshot = none) :
    (List.range' 1 9).map (readDirectory s i) =
      [0, val32 (directorySource s i), absent32, absent32, 0, 0, 0, absent32, 0] ∧
    ∀ k, readDirectory s i (16 + 2 * k) = absent32 ∧ readDirectory s i (17 + 2 * k) = absent32 := by
  have entry (n : Nat) : readDirectory s i (n + 16) = absent32 := by
    rw [readDirectory_entry, h]
    rfl
  refine ⟨?_, fun k => ⟨Nat.add_comm .. ▸ entry (2 * k), ?_⟩⟩
  · unfold readDirectory
    simp only [h]
    rfl
  · rw [show 17 + 2 * k = 2 * k + 1 + 16 by omega]
    exact entry _

theorem readDirectory_present (h : (directorySource s i).bind s.snapshot = some w) :
    (List.range' 1 9).map (readDirectory s i) = [1, val32 (directorySource s i), w.stream, w.version, w.entries.length,
      if 64 < w.offered then 1 else 0, w.offered, w.interval.toNat, w.completions.toNat] ∧
    ∀ k, readDirectory s i (16 + 2 * k) = val32 (w.entries[k]?.map Prod.fst) ∧
      readDirectory s i (17 + 2 * k) = val32 (w.entries[k]?.map Prod.snd) := by
  refine ⟨?_, fun k => ⟨?_, ?_⟩⟩
  · rw [← toNat_decide]
    unfold readDirectory
    simp only [h]
    rfl
  · rw [show 16 + 2 * k = 2 * k + 16 by omega, readDirectory_entry, h]
    have hindex : 2 * k / 2 = k := by omega
    have hparity : 2 * k % 2 = 0 := by omega
    simp only [hindex, hparity, if_true, Option.bind_some]
    cases w.entries[k]? <;> rfl
  · rw [show 17 + 2 * k = 2 * k + 1 + 16 by omega, readDirectory_entry, h]
    have hindex : (2 * k + 1) / 2 = k := by omega
    have hparity : (2 * k + 1) % 2 = 1 := by omega
    simp only [hindex, hparity, Option.bind_some]
    cases w.entries[k]? <;> rfl

end
end

/-! ### PROBE ACCESS (R165) -/

section
variable {s : State} {b : List Byte} {k level kind : Nat}

/-- The octets of a probe of a SERVICE entry. -/
theorem probe_octets (hk : k < 65536) (hl : level < 256) (hkind : kind < 256)
    (hb : b = be8 4 ++ be16 k ++ be8 level ++ be8 kind) :
    b.length = 5 ∧ octetAt b 0 = 4 ∧ beAt b 1 2 = k ∧ octetAt b 3 = level ∧ octetAt b 4 = kind := by
  subst hb
  refine ⟨rfl, rfl, ?_, octetAt_be8 hl (be8 kind), octetAt_be8_alone hkind⟩
  exact (beAt_append (be8 4) (be16 k ++ (be8 level ++ be8 kind)) 0 2).trans (beAt_be16 hk _)

theorem probeAccess_range (h : 3 < octetAt b 3 ∨ 1 < octetAt b 4) : probeAccess b s = .refused .range := if_pos h

/-- The verdicts on a read and on a write of a SERVICE entry from a level that passes the ceiling. -/
theorem probeRead_service (hc : withinCeiling s level = true) (hk : k < 512) : probeRead s 4 k level = .none := by
  simp [probeRead, hc, hk, tableOf, TableId.holds]

theorem probeWrite_service (hc : withinCeiling s level = true) (hk : k < 512) : probeWrite s 4 k level =
    if 2 < level ∨ s.guardOf k < level then .level else if 32 ≤ s.changes.length then .full else .none := by
  have holds : TableId.service.holds k = true := decide_eq_true hk
  have hmay : mayWrite s level 4 k [] = true ↔ level ≤ 2 ∧ level ≤ s.guardOf k :=
    mayWrite_iff.trans (and_congr_right fun _ => ⟨fun h => h .service rfl holds, fun h t ht _ => by cases ht; exact h⟩)
  unfold probeWrite
  by_cases hrefused : 2 < level ∨ s.guardOf k < level
  · have hno : mayWrite s level 4 k [] = false := Bool.eq_false_iff.mpr fun h => by have hle := hmay.mp h; omega
    rw [if_pos hrefused, hno, hc]
    rfl
  · have hyes : mayWrite s level 4 k [] = true := hmay.mpr (by omega)
    rw [if_neg hrefused, hyes, hc]
    simp only [tableOf, holds, TableId.writable, probeFull]
    by_cases hfull : 32 ≤ s.changes.length <;> simp [hfull]

theorem changePending_service : changePending s .service k = true ↔ ∃ h ∈ s.changes, h.service = true ∧ h.index = k := by
  show (changesPending s true k != 0) = true ↔ _
  rw [bne_iff_ne, changesPending, Ne, List.length_eq_zero_iff, List.filter_eq_nil_iff]
  simp

/-- The answer about a SERVICE entry. -/
theorem probeAccess_service (hc : withinCeiling s level = true) (hlevel : level ≤ 3) (hkind : kind ≤ 1) (hk : k < 512)
    (h0 : octetAt b 0 = 4) (h1 : beAt b 1 2 = k) (h3 : octetAt b 3 = level) (h4 : octetAt b 4 = kind) :
    probeAccess b s = .done ([1, 1] ++ flag8 (probeWrite s 4 k level == .none) ++ flag8 (changePending s .service k) ++
      be8 (reasonCode (if kind = 0 then .none else probeWrite s 4 k level))) s := by
  have hpresent : ((tableOf 4).any fun t => t.holds k) = true := decide_eq_true hk
  unfold probeAccess
  rw [h0, h1, h3, h4, if_neg (by omega), probeRead_service hc hk, hpresent]
  rfl

end

/-- Settles O55: READ ENTRY by its form, each table by its fields, and PROBE ACCESS by the verdicts it would give. -/
theorem readAndProbe : Obligations.ReadAndProbe := by
  refine ⟨fun s c r t h hl => ⟨fun hb ht hi h1 h34 hf => ?read, fun hb hbad => ?range, fun hb => ?badLength⟩,
    fun s i => ?fields, fun s c k level kind h hl hk hlevel hkind hb => ?probe⟩
  case read =>
    have hin : r.inRange = true := (inRange_of_named ht).mpr ⟨hi, ⟨h1, h34⟩, hf⟩
    rw [exec_readEntry h, readEntry_body hb hl, if_pos hin, readReply_named ht]
    rfl
  case range =>
    have hout : r.inRange ≠ true := by
      intro hin
      cases hid : tableOf r.table with
      | none => exact nomatch hin.symm.trans (inRange_of_unnamed hid)
      | some t' =>
        obtain ⟨hholds, ⟨h1, h34⟩, hfields⟩ := (inRange_of_named hid).mp hin
        rcases hbad with hno | ⟨ht, hi⟩ | hnil | hlong | ⟨ht, f, hf, hno⟩
        · exact nomatch hno.symm.trans hid
        · cases hid.symm.trans ht
          exact nomatch hi.symm.trans hholds
        · rw [hnil] at h1
          exact absurd h1 (by decide)
        · omega
        · cases hid.symm.trans ht
          exact nomatch hno.symm.trans (hfields f hf)
    rw [exec_readEntry h, readEntry_body hb hl, if_neg hout]
    rfl
  case badLength =>
    rw [exec_readEntry h, readEntry_badLength hb]
    rfl
  case fields =>
    intro reads opt pending
    refine ⟨rfl, ?candidate, ?grades, ?laneMap, ?directory⟩
    case candidate =>
      exact congrArg (fun n => (List.range' 1 21).map (readCandidate s i) ++ [n, changesPending s false i])
        (val32_rankPosition s i)
    case grades =>
      show (List.range' 1 18).map (readGrades (s.candidate i).grade) = _
      cases (s.candidate i).grade with
      | none => rfl
      | some g => rfl
    case laneMap =>
      show (List.range' 1 7).map (readLanePlace s i) = _
      unfold readLanePlace
      cases s.lanePlace i with
      | none => rfl
      | some e => rfl
    case directory =>
      intro source
      have hsource : directorySource s i = source := directorySource_eq s i
      cases hw : source.bind s.snapshot with
      | none =>
        have habsent := readDirectory_absent (s := s) (i := i) (hsource ▸ hw)
        rw [hsource] at habsent
        exact habsent
      | some w =>
        have hpresent := readDirectory_present (s := s) (i := i) (hsource ▸ hw)
        rw [hsource] at hpresent
        exact hpresent
  case probe =>
    intro guard ceiling answers waits
    obtain ⟨hlength, h0, h1, h3, h4⟩ := probe_octets hk hlevel hkind hb
    have hexec : exec (.probeAccess c) s = .next (answer (goodRecord 0x05 c) s (probeAccess c.body s)) :=
      exec_checked h hlength hl 0x05 (probeAccess c.body)
    have hwaits : (changePending s .service k).toNat = waits := by
      by_cases hw : ∃ h ∈ s.changes, h.service = true ∧ h.index = k
      · rw [changePending_service.mpr hw]
        exact (if_pos hw).symm
      · rw [Bool.eq_false_iff.mpr (mt changePending_service.mp hw)]
        exact (if_neg hw).symm
    have answered {why : Reason} (hle : level ≤ 3) (hkind : kind ≤ 1) (hlt : k < 512) (hc : ceiling)
        (hw : probeWrite s 4 k level = why) : exec (.probeAccess c) s = .next (s.replies c 0x05 .done
          ([1, 1] ++ flag8 (why == .none) ++ be8 waits ++ be8 (reasonCode (if kind = 0 then .none else why)))) := by
      rw [hexec, probeAccess_service (withinCeiling_of_admits (m := 3) ⟨hle, hle, hc⟩) hle hkind hlt h0 h1 h3 h4, hw, ← hwaits]
      rfl
    have verdict (hle : level ≤ 3) (hlt : k < 512) (hc : ceiling) :=
      probeWrite_service (s := s) (withinCeiling_of_admits (m := 3) ⟨hle, hle, hc⟩) hlt
    refine ⟨fun hbad => ?refused, fun hle hkind hlt hc hno => ?read, fun hle hkind hlt hc hno => ?level,
      fun hle hkind hlt hc hguard hroom => ?writable, fun hle hkind hlt hc hguard hfull => ?full⟩
    case refused =>
      rw [hexec, probeAccess_range (by rw [h3, h4]; exact hbad)]
      rfl
    case read =>
      subst hkind
      exact answered hle (by decide) hlt hc ((verdict hle hlt hc).trans (if_pos hno))
    case level =>
      subst hkind
      exact answered hle (by decide) hlt hc ((verdict hle hlt hc).trans (if_pos hno))
    case writable =>
      subst hkind
      have hno : ¬(2 < level ∨ s.guardOf k < level) := not_or.mpr ⟨Nat.not_lt.mpr hle, Nat.not_lt.mpr hguard⟩
      exact answered (by omega) (by decide) hlt hc
        ((verdict (by omega) hlt hc).trans ((if_neg hno).trans (if_neg (Nat.not_le.mpr hroom))))
    case full =>
      subst hkind
      have hno : ¬(2 < level ∨ s.guardOf k < level) := not_or.mpr ⟨Nat.not_lt.mpr hle, Nat.not_lt.mpr hguard⟩
      exact answered (by omega) (by decide) hlt hc ((verdict (by omega) hlt hc).trans ((if_neg hno).trans (if_pos hfull)))

end Sys2Proof.Machine
end

section
/-! PROOFS. Starts: the image loaded (O9) and the restart in its slot (O10). -/

namespace Sys2Proof.Machine

/-! ### The Lane Map rebuilt, place by place (R23, R30) -/

section
variable {s : State} {l : List LaneEntry}

/-- The Lane Map holds a list of entries, from place 0 upward. -/
def State.LanesAre (s : State) (l : List LaneEntry) : Prop := s.lanesWf ∧ ∀ j, s.lanePlace j = l[j]?

theorem State.LanesAre.of_laneMap {t : State} (h : s.LanesAre l) (ht : t.laneMap = s.laneMap) : t.LanesAre l := by
  unfold State.LanesAre State.lanesWf State.lanePlace
  rw [ht]
  exact h

theorem freePlace_range' (i n : Nat) : freePlace i (List.range' i n) = i + n := by
  induction n generalizing i with
  | zero => rfl
  | succ n ih =>
    rw [List.range'_succ, freePlace, if_pos rfl, ih]
    omega

theorem mem_keys_lanes (h : s.lanesWf) (j : Nat) : j ∈ Table.keys s.laneMap ↔ s.lanePlace j ≠ none := by
  constructor
  · intro hj
    obtain ⟨e, he, rfl⟩ := List.mem_map.mp hj
    have hread : s.lanePlace e.1 = e.2 := Table.get_of_mem h.1 he
    rw [hread]
    exact h.2 e he
  · exact fun hj => List.mem_map_of_mem (Table.mem_of_get_ne (d := fun _ => (none : Option LaneEntry)) hj)

theorem State.LanesAre.keys (h : s.LanesAre l) : Table.keys s.laneMap = List.range' 0 l.length := by
  refine h.1.1.eq_of_mem_iff List.pairwise_lt_range' fun j => ?_
  rw [← Table.keys, mem_keys_lanes h.1, h.2]
  simp

theorem State.LanesAre.addLane (h : s.LanesAre l) (v : LaneEntry) : (addLane s v).LanesAre (l ++ [v]) := by
  refine ⟨addLane_wf h.1 v, fun j => ?_⟩
  have hfree : freePlace 0 (Table.keys s.laneMap) = l.length := by
    rw [h.keys, freePlace_range', Nat.zero_add]
  rw [Machine.addLane, hfree, State.lanePlace_setLanePlace, h.2]
  by_cases hj : j = l.length
  · simp [hj]
  · rw [if_neg hj]
    simp only [List.getElem?_append, List.getElem?_singleton]
    split
    next => rfl
    next hlt =>
      rw [List.getElem?_eq_none (Nat.le_of_not_lt hlt), if_neg (by omega)]

theorem State.LanesAre.foldl (h : s.LanesAre l) (m : List LaneEntry) : (m.foldl Machine.addLane s).LanesAre (l ++ m) := by
  induction m generalizing s l with
  | nil => rwa [List.append_nil]
  | cons v m ih =>
    have hrest := ih (h.addLane v)
    rwa [List.append_assoc] at hrest

theorem foldl_addCandidateLanes_places (t : Table CandidateConfig) (h : s.LanesAre l) :
    (t.foldl (fun t e => addCandidateLanes e.1 e.2 t) s).LanesAre (l ++ t.flatMap fun e => laneEntries e.1 e.2) := by
  induction t generalizing s l with
  | nil => exact (List.append_nil l).symm ▸ h
  | cons e t ih =>
    have hrest := ih (h.foldl (laneEntries e.1 e.2))
    rwa [List.append_assoc] at hrest

theorem rebuildLaneMap_places (i : Image) (s : State) :
    (rebuildLaneMap i s).LanesAre (i.candidates.flatMap fun e => laneEntries e.1 e.2) :=
  foldl_addCandidateLanes_places (s := { s with laneMap := [] }) (l := []) i.candidates ⟨Table.wf_nil _, fun _ => rfl⟩

theorem foldl_addLane_frame (m : List LaneEntry) (s : State) :
    m.foldl addLane s = { s with laneMap := (m.foldl addLane s).laneMap } := by
  induction m generalizing s with
  | nil => rfl
  | cons v m ih => exact ih (addLane s v)

theorem rebuildLaneMap_frame (i : Image) (s : State) :
    rebuildLaneMap i s = { s with laneMap := (rebuildLaneMap i s).laneMap } := by
  have all (l : Table CandidateConfig) (t : State) : l.foldl (fun t e => addCandidateLanes e.1 e.2 t) t =
      { t with laneMap := (l.foldl (fun t e => addCandidateLanes e.1 e.2 t) t).laneMap } := by
    induction l generalizing t with
    | nil => rfl
    | cons e l ih =>
      rw [List.foldl_cons, ih, addCandidateLanes, foldl_addLane_frame]
  exact all i.candidates { s with laneMap := [] }

theorem laneEntries_eq (c : Nat) (cfg : CandidateConfig) : laneEntries c cfg =
    cfg.source.toList.flatMap fun x => cfg.lanes.zipIdx.map fun l => LaneEntry.mk x l.1 c l.2 none := by
  unfold laneEntries
  cases cfg.source with
  | none => rfl
  | some x => simp

end

/-! ### A start, taken (R170, R171) -/

/-- The state with only the reports of the Report Unit moved. -/
def State.Reported (s t : State) : Prop := t = { s with
  noticeQueue := t.noticeQueue, noticeLoss := t.noticeLoss, faultSummary := t.faultSummary, faultRecord := t.faultRecord }

section
variable {s : State}

theorem takeNotice_reported (r : NoticeRecord) (s : State) : s.Reported (takeNotice r s) := by
  unfold takeNotice recordOverflow overflowNotice
  dsimp only
  (repeat' split) <;> rfl

theorem recordFault_reported (f : FaultReport) (s : State) : s.Reported (recordFault f s) := by
  unfold recordFault
  dsimp only
  split
  · rfl
  · split
    · unfold overflowNotice
      dsimp only
      (repeat' split) <;> rfl
    · exact takeNotice_reported _ (enterFault f s)

end

/-- What a start leaves: the loaded image with its Lane Map, and what the Report Unit says of the image. -/
structure StartTaken (kind : RestartKind) (s t : State) : Prop where
  loaded : t = { loadImage kind (startImage s) s with
    laneMap := t.laneMap, noticeQueue := t.noticeQueue, noticeLoss := t.noticeLoss, faultSummary := t.faultSummary
    faultRecord := t.faultRecord }
  places : t.LanesAre ((startImage s).candidates.flatMap fun e => laneEntries e.1 e.2)
  valid : s.store.valid = true → t.noticeQueue = [] ∧ t.noticeLoss = (loadImage kind (startImage s) s).noticeLoss ∧
    t.faultSummary = (loadImage kind (startImage s) s).faultSummary ∧
    t.faultRecord = (loadImage kind (startImage s) s).faultRecord
  invalid : s.store.valid = false → kind = .hard → t.noticeQueue = [⟨.fault 6, ⟨0, 0⟩⟩] ∧ t.noticeLoss = 0 ∧
    t.faultSummary = 0x40 ∧ t.faultRecord = ⟨true, false, some ⟨.storeInvalid, 0⟩⟩

theorem takeStart_taken (s : State) (kind : RestartKind) : StartTaken kind s (takeStart kind s) := by
  have frame := rebuildLaneMap_frame (startImage s) (loadImage kind (startImage s) s)
  have places := rebuildLaneMap_places (startImage s) (loadImage kind (startImage s) s)
  cases hv : s.store.valid with
  | true =>
    have htaken : takeStart kind s = rebuildLaneMap (startImage s) (loadImage kind (startImage s) s) := if_pos hv
    rw [htaken]
    generalize rebuildLaneMap (startImage s) (loadImage kind (startImage s) s) = r at frame places
    refine ⟨?_, places, fun _ => ?_, fun h => nomatch hv.symm.trans h⟩
    · rw [frame]
    · rw [frame]
      exact ⟨rfl, rfl, rfl, rfl⟩
  | false =>
    have htaken : takeStart kind s =
        recordFault .storeInvalid (rebuildLaneMap (startImage s) (loadImage kind (startImage s) s)) :=
      if_neg (Bool.eq_false_iff.mp hv)
    have hdefaults : startImage s = Image.defaults := if_neg (Bool.eq_false_iff.mp hv)
    rw [htaken]
    generalize rebuildLaneMap (startImage s) (loadImage kind (startImage s) s) = r at frame places
    have reported := recordFault_reported .storeInvalid r
    have hlane : (recordFault .storeInvalid r).laneMap = r.laneMap := by rw [reported]
    refine ⟨?loaded, places.of_laneMap hlane, (fun h => nomatch hv.symm.trans h), fun _ hkind => ?invalid⟩
    case loaded =>
      generalize recordFault .storeInvalid r = t at reported hlane
      rw [hlane]
      rw [State.Reported, frame] at reported
      exact reported
    case invalid =>
      subst hkind
      have hnone : r.faultSummary = 0 := by rw [frame]; rfl
      have hqueue : r.noticeQueue = [] := by rw [frame]; rfl
      have henabled : r.settings.noticeEnable.getLsbD 15 = true := by
        have hsettings : r.settings = Settings.default := by rw [frame, hdefaults]; rfl
        rw [hsettings]
        rfl
      have hclock : r.clock = ⟨0, 0⟩ := by
        rw [frame]
        show (⟨0, min (s.now - s.now) _⟩ : IntervalStamp) = ⟨0, 0⟩
        rw [Nat.sub_self, Nat.zero_min]
      rw [recordFault_queued (f := .storeInvalid) (by rw [hnone]; rfl) henabled (by rw [hqueue]; decide), hqueue, hclock]
      refine ⟨rfl, ?loss, ?summary, ?record⟩
      case loss =>
        show r.noticeLoss = 0
        rw [frame]
        rfl
      case summary =>
        show r.faultSummary ||| (1 <<< 6) = 0x40
        rw [hnone]
        rfl
      case record =>
        have hrecord : r.faultRecord = ⟨false, false, none⟩ := by rw [frame]; rfl
        have hnumber : r.intervalNumber = 0 := by rw [frame]; rfl
        show (if r.faultRecord.locked = true then { r.faultRecord with lost := true }
          else ⟨true, false, some ⟨.storeInvalid, r.intervalNumber⟩⟩) = _
        rw [hrecord, hnumber]
        rfl

/-! ### The loaded tables, read -/

section
variable {i : Image}

theorem loadedPorts_get {p : Nat} (hp : p < 15) : Table.get Port.default (loadedPorts i) p =
    { Port.started (Table.get PortConfig.default i.ports p) with state := .disabled } :=
  Table.get_of_mem (loadedPorts_wf i).1 (List.mem_map.mpr ⟨p, List.mem_range.mpr hp, rfl⟩)

theorem loadedRank_sorted (hw : Table.wf (fun _ => CandidateConfig.free) i.candidates) (k : Nat) :
    (loadedRank i k).Pairwise (· < ·) := hw.1.sublist (List.filter_sublist.map Prod.fst)

/-- A loaded service, but for its rank order, which is sorted. -/
theorem loadedServices_read (hi : i.canonical) (k : Nat) : ∃ rank, rank.Pairwise (· < ·) ∧
    Table.get Service.default (loadedServices i) k =
      Service.started (Table.get ServiceSaved.default i.services k).cfg rank (Table.get ServiceSaved.default i.services k).pinned := by
  rcases loadedServices_get hi.2.2.2.1 k with h | ⟨-, h⟩
  · exact ⟨_, loadedRank_sorted hi.2.2.2.2 k, h⟩
  · exact ⟨[], List.Pairwise.nil, h⟩

theorem loadedCandidates_read (hw : Table.wf (fun _ => CandidateConfig.free) i.candidates) (t c : Nat) : ∃ n,
    Table.get Candidate.default (loadedCandidates i t) c =
        Candidate.fresh (Table.get (fun _ => CandidateConfig.free) i.candidates c) n ∧
      ((Table.get (fun _ => CandidateConfig.free) i.candidates c).state ≠ .free → n = t) := by
  rcases Table.get_remap_cases (fun _ => CandidateConfig.free) Candidate.default (fun _ cfg => Candidate.fresh cfg t) hw.1 c
    with h | ⟨hfree, h⟩
  · exact ⟨t, h, fun _ => rfl⟩
  · refine ⟨0, ?_, fun hne => absurd (congrArg CandidateConfig.state hfree) hne⟩
    rw [hfree]
    exact h

theorem loadedSweep_get (hw : Table.wf SweepConfig.default i.sweep) (e : Nat) :
    Table.get SweepEntry.default (loadedSweep i) e = SweepEntry.started (Table.get SweepConfig.default i.sweep e) :=
  Table.get_remap SweepConfig.default SweepEntry.default (fun _ v => SweepEntry.started v) i.sweep hw.1 e rfl

theorem idleContexts_get (p : Nat) : Table.get DirContext.default idleContexts p = DirContext.empty none := by
  by_cases hp : p < 12
  · exact Table.get_of_mem idleContexts_wf.1 (List.mem_map.mpr ⟨p, List.mem_range.mpr hp, rfl⟩)
  · refine (Classical.byContradiction fun hne => ?_ : Table.get DirContext.default idleContexts p = DirContext.default p).trans
      (congrArg DirContext.empty (if_neg hp))
    obtain ⟨q, hq, he⟩ := List.mem_map.mp (Table.mem_of_get_ne hne)
    obtain rfl : q = p := congrArg Prod.fst he
    exact hp (List.mem_range.mp hq)

end

/-- Settles O9: the loaded tables read back, and the reports of an invalid image. -/
theorem startLoadsImage : Obligations.StartLoadsImage := by
  intro s hcan
  have taken := takeStart_taken s .hard
  refine ⟨takeStart .hard s, rfl, fun hp => congrArg Host.Outcome.next (if_neg hp), ?_⟩
  generalize takeStart .hard s = t at taken
  intro i lanes
  have hi : startImage s = i := rfl
  have himage : i.canonical := startImage_canonical hcan
  obtain ⟨loaded, places, valid, invalid⟩ := taken
  rw [hi] at loaded places valid
  have port (p : Nat) (hp : p < 15) :
      t.port p = { Port.started (Table.get PortConfig.default i.ports p) with state := .disabled } := by
    rw [loaded]
    exact loadedPorts_get hp
  have service (k : Nat) : t.service k = Table.get Service.default (loadedServices i) k := by rw [loaded]; rfl
  have candidate (c : Nat) : t.candidate c = Table.get Candidate.default (loadedCandidates i s.now) c := by rw [loaded]; rfl
  have sweep (e : Nat) : t.sweepEntry e = SweepEntry.started (Table.get SweepConfig.default i.sweep e) := by
    rw [loaded]
    exact loadedSweep_get himage.2.2.1 e
  have context (p : Nat) : t.dirContext p = DirContext.empty none := by
    rw [loaded]
    exact idleContexts_get p
  have hlanes : (i.candidates.flatMap fun e => laneEntries e.1 e.2) = lanes :=
    congrArg (List.flatMap · i.candidates) (funext fun e => laneEntries_eq e.1 e.2)
  have hgeneration : t.generation = if s.store.valid then s.store.image.generation else 0 := by
    rw [loaded]
    exact apply_ite Image.generation _ _ _
  have rest : t.phase = .starting ∧ t.store = s.store ∧ t.save = none ∧ t.settings = i.settings ∧ t.weights = i.weights := by
    rw [loaded]
    exact ⟨rfl, rfl, rfl, rfl, rfl⟩
  have cleared : t.changes = [] ∧ t.headHeld = false ∧ t.visitQueue = [] ∧ t.sweepPorts = [] ∧ t.snapshots = [] ∧
      t.discoveries = [] ∧ t.discoveryOverflow = 0 ∧ t.forwardQueue = [] ∧ t.insertQueue = [] ∧ t.reportCounter = 0 ∧
      t.tapCounter = 0 ∧ t.commandQueue = [] ∧ t.replyInHand = none ∧ t.restart = none ∧ t.inFlight = [] ∧
      t.gradingTimer = none ∧ t.tap = ⟨false, 0, none, 1, 0, 0⟩ ∧ t.malformedControl = 0 ∧ t.commandOverflow = 0 := by
    rw [loaded]
    exact ⟨rfl, rfl, rfl, rfl, rfl, rfl, rfl, rfl, rfl, rfl, rfl, rfl, rfl, rfl, rfl, rfl, rfl, rfl, rfl⟩
  obtain ⟨hphase, hstore, hsave, hsettings, hweights⟩ := rest
  obtain ⟨c1, c2, c3, c4, c5, c6, c7, c8, c9, c10, c11, c12, c13, c14, c15, c16, c17, c18, c19⟩ := cleared
  have hloss : t.noticeLoss = 0 := by
    cases hv : s.store.valid with
    | true => exact (valid hv).2.1
    | false => exact (invalid hv rfl).2.1
  refine ⟨hphase, hstore, hsave, hsettings, hgeneration, hweights, fun p hp => ?ports, fun k => ?services, fun c => ?candidates,
    fun e => ?sweep, fun j => ?lanes, context, c1, c2, c3, c4, c5, c6, c7, c8, c9, c10, c11, c12, c13, c14, c15, c16, c17, c18,
    c19, hloss, fun hv => ?valid, fun hv => ?invalid⟩
  case ports =>
    rw [port p hp]
    exact ⟨rfl, rfl, rfl, rfl, rfl, rfl, rfl, rfl, rfl, rfl, rfl, rfl, rfl⟩
  case services =>
    obtain ⟨rank, hsorted, hread⟩ := loadedServices_read himage k
    rw [← service k] at hread
    rw [hread]
    refine ⟨rfl, rfl, rfl, rfl, rfl, rfl, rfl, rfl, rfl, rfl, rfl, rfl, rfl, rfl, hsorted, fun hplaced c => ?_⟩
    have hrank : rank = loadedRank i k :=
      congrArg Service.rank (hread.symm.trans ((service k).trans (loadedServices_placed himage hplaced k)))
    rw [candidate c, loadedCandidates_cfg himage.2.2.2.2, ← mem_loadedRank himage.2.2.2.2, ← hrank]
    exact Iff.rfl
  case candidates =>
    obtain ⟨n, hread, hn⟩ := loadedCandidates_read himage.2.2.2.2 s.now c
    rw [← candidate c] at hread
    refine ⟨n, hread, fun hne => hn ?_⟩
    rw [hread] at hne
    exact hne
  case sweep =>
    rw [sweep e]
    exact ⟨rfl, rfl, rfl, rfl⟩
  case lanes => rw [← hlanes, places.2]
  case valid => exact ⟨(valid hv).1, (valid hv).2.2⟩
  case invalid =>
    obtain ⟨hqueue, -, hsummary, hrecord⟩ := invalid hv rfl
    exact ⟨hqueue, hsummary, hrecord⟩

/-! ### The restart in its slot (R170, R171) -/

section
variable {s : State} {i : Insert} {rest : List Insert} {kind : RestartKind}

theorem runningSlot_restarts (h : choose s = .insert i rest) (hi : i.kind = .restartReply) (hk : s.restart = some kind) :
    runningSlot s = takeStart kind { s with outputLink := i.packet, insertQueue := ageInserts rest } := by
  have hchosen : choosesRestartReply s = true := (choosesRestartReply_insert h).trans (beq_iff_eq.mpr hi)
  rw [runningSlot, hchosen, if_pos rfl, hk, sendChoice, h]
  rfl

theorem exec_restartTakesEffect (hr : s.phase = .running) (h : choosesRestartReply s = true) (time : Nat) :
    exec (.restartTakesEffect time) s = .next (runningSlot (s.atTime time)) := by
  have dispatch : exec (.restartTakesEffect time) s = execRestartTakesEffect time s := rfl
  rw [dispatch, execRestartTakesEffect, whenRunning_next hr, h, if_pos rfl]

end

/-- Settles O10: the start taken after the reply has left, with what each kind of restart keeps. -/
theorem restartAtItsReply : Obligations.RestartAtItsReply := by
  intro s i rest kind time hr hq hi hc hk
  have hchoice : choose s = .insert i rest := choose_insert hq hc
  have hchosen : choosesRestartReply s = true := (choosesRestartReply_insert hchoice).trans (beq_iff_eq.mpr hi)
  have restarts : runningSlot (s.atTime time) = _ := runningSlot_restarts (choose_insert hq hc) hi hk
  have taken := takeStart_taken { s.atTime time with outputLink := i.packet, insertQueue := ageInserts rest } kind
  refine ⟨_, exec_outputSlot_running hr time, exec_restartTakesEffect hr hchosen time, ?_⟩
  rw [restarts]
  generalize takeStart kind _ = t at taken
  have kept : t.outputLink = i.packet ∧ t.phase = .starting ∧ t.insertQueue = [] ∧ t.forwardQueue = [] ∧
      t.commandQueue = [] ∧ t.restart = none ∧ t.malformedControl = 0 := by
    rw [taken.loaded]
    exact ⟨rfl, rfl, rfl, rfl, rfl, rfl, rfl⟩
  obtain ⟨hlink, hphase, hinserts, hforward, hcommands, hrestart, hmalformed⟩ := kept
  refine ⟨hlink, hphase, hinserts, hforward, hcommands, hrestart, hmalformed, ?soft, ?hard⟩
  case soft =>
    rintro rfl
    have stays : t.discoveries = s.discoveries ∧ t.discoveryOverflow = s.discoveryOverflow ∧
        t.commandOverflow = s.commandOverflow := by
      rw [taken.loaded]
      exact ⟨rfl, rfl, rfl⟩
    obtain ⟨hlog, hmissed, hoverflow⟩ := stays
    refine ⟨hlog, hmissed, hoverflow, fun hv => ?_⟩
    obtain ⟨hqueue, hloss, hsummary, hrecord⟩ := taken.valid hv
    exact ⟨hsummary, hrecord, hloss, hqueue⟩
  case hard =>
    rintro rfl
    have empties : t.discoveries = [] ∧ t.discoveryOverflow = 0 ∧ t.commandOverflow = 0 := by
      rw [taken.loaded]
      exact ⟨rfl, rfl, rfl⟩
    obtain ⟨hlog, hmissed, hoverflow⟩ := empties
    have hloss : t.noticeLoss = 0 := by
      cases hv : s.store.valid with
      | true => exact (taken.valid hv).2.1
      | false => exact (taken.invalid hv rfl).2.1
    exact ⟨hlog, hmissed, hoverflow, hloss, fun hv => (taken.valid hv).2.2⟩

end Sys2Proof.Machine
end

section
/-! PROOFS. The completion of a start (O11). -/

namespace Sys2Proof.Machine

/-! ### Pinned services taken up (R113) -/

section
variable {s u : State} {k : Nat}

/-- A service once it is taken up, if it is to be. -/
def Service.takenUp (v : Service) (fit : Nat → Bool) (now : Nat) : Service :=
  if v.cfg.state = .active ∧ v.armed = none ∧ v.selected = none then
    match v.pinned with
    | none => v
    | some c => if fit c then v.armedTo c .pin (now + v.cfg.cleanWait) 0 else { v with pinned := none }
  else v

theorem takeUpPinned_takenUp (s : State) (k : Nat) :
    (takeUpPinned k s).service k = (s.service k).takenUp (s.pinFit k) s.now := by
  unfold takeUpPinned Service.takenUp
  dsimp only
  split
  next =>
    cases (s.service k).pinned with
    | none => rfl
    | some c =>
      dsimp only
      split
      next => exact State.service_setService_same ..
      next => exact State.service_setService_same ..
  next => rfl

theorem takeUpPinned_frame (s : State) (k : Nat) : takeUpPinned k s = { s with services := (takeUpPinned k s).services } := by
  unfold takeUpPinned
  dsimp only
  split
  · split
    · rfl
    · split <;> rfl
  · rfl

theorem takeUpPinned_service_other (h : u.service k = s.service k) {j : Nat} (hj : k ≠ j) :
    (takeUpPinned j u).service k = s.service k := by
  unfold takeUpPinned
  dsimp only
  split
  · split
    · exact h
    · split
      · exact (State.service_setService_other _ _ _ _ hj).trans h
      · exact (State.service_setService_other _ _ _ _ hj).trans h
  · exact h

/-- What a service is taken up as depends on the state but for the other services. -/
theorem takeUpPinned_congr (hu : u = { s with services := u.services }) (h : u.service k = s.service k) :
    (takeUpPinned k u).service k = (takeUpPinned k s).service k := by
  have hnow : u.now = s.now := by rw [hu]
  have hfit : u.pinFit k = s.pinFit k := by
    have hready (c : Nat) : u.isReady c = s.isReady c := by rw [hu]; rfl
    have houtage (c : Nat) : u.inOutage c = s.inOutage c := by rw [hu]; rfl
    funext c
    rw [State.pinFit, State.pinFit, h, hready, houtage]
  rw [takeUpPinned_takenUp, takeUpPinned_takenUp, h, hnow, hfit]

theorem foldl_takeUpPinned_frame (l : List Nat) (s : State) : l.foldl (fun u k => takeUpPinned k u) s =
    { s with services := (l.foldl (fun u k => takeUpPinned k u) s).services } := by
  induction l generalizing s with
  | nil => rfl
  | cons k l ih =>
    rw [List.foldl_cons, ih, takeUpPinned_frame]

theorem foldl_takeUpPinned_service {l : List Nat} (hl : l.Nodup) (s : State) (k : Nat) :
    (l.foldl (fun u k => takeUpPinned k u) s).service k =
      if k ∈ l then (takeUpPinned k s).service k else s.service k := by
  induction l generalizing s with
  | nil => rfl
  | cons j l ih =>
    obtain ⟨hj, hl⟩ := List.nodup_cons.mp hl
    rw [List.foldl_cons, ih hl]
    by_cases hk : k = j
    · subst hk
      rw [if_neg hj, if_pos (List.mem_cons_self ..)]
    · have hkept := takeUpPinned_service_other (u := s) rfl hk
      simp only [List.mem_cons, hk, false_or]
      split
      next => exact takeUpPinned_congr (takeUpPinned_frame s j) hkept
      next => exact hkept

end

/-! ### The part opened (R16, R59, R77, R145) -/

section
variable {s : State}

/-- The started part before its sweep ports choose. -/
def openedPart (s : State) : State := openContexts (openPorts (beginMeasuring { s with phase := .running }))

/-- A port and a candidate of the part opened. -/
def Port.opened (v : Port) : Port := { v with state := if v.cfg.enable then .seeking else .disabled }
def Candidate.openedAt (x : Candidate) (now : Nat) : Candidate :=
  if x.cfg.state = .free then x else { x with measured := .opened now }

theorem openedPart_port (h : s.canonical) (p : Nat) : (openedPart s).port p = (s.port p).opened :=
  Table.get_remap Port.default Port.default (fun _ v => v.opened) s.ports h.1.1 p rfl

theorem openedPart_candidate (h : s.canonical) (c : Nat) : (openedPart s).candidate c = (s.candidate c).openedAt s.now :=
  Table.get_remap Candidate.default Candidate.default (fun _ x => x.openedAt s.now) s.candidates h.2.2.2.1.1 c (if_pos rfl)

/-- The contexts that stay closed, listed. -/
theorem get_closedContexts (f : Nat → Bool) {p : Nat} (hp : p < 12) :
    Table.get DirContext.default (((List.range 12).filter f).map fun r => (r, DirContext.empty none)) p =
      if f p then DirContext.empty none else DirContext.default p := by
  have hsorted : ((((List.range 12).filter f).map fun r => (r, DirContext.empty none)).map Prod.fst).Pairwise (· < ·) := by
    rw [List.map_map]
    exact (List.map_id ((List.range 12).filter f)).symm ▸ List.pairwise_lt_range.sublist List.filter_sublist
  split
  next hf =>
    exact Table.get_of_mem hsorted (List.mem_map.mpr ⟨p, List.mem_filter.mpr ⟨List.mem_range.mpr hp, hf⟩, rfl⟩)
  next hf =>
    refine Classical.byContradiction fun hne => hf ?_
    obtain ⟨r, hr, he⟩ := List.mem_map.mp (Table.mem_of_get_ne hne)
    obtain rfl : r = p := congrArg Prod.fst he
    exact (List.mem_filter.mp hr).2

theorem openedPart_dirContext (h : s.canonical) {p : Nat} (hp : p < 12) :
    (openedPart s).dirContext p = DirContext.empty (if (s.port p).cfg.dirCheck then some p else none) := by
  have hport : (openPorts (beginMeasuring { s with phase := .running })).port p = (s.port p).opened := openedPart_port h p
  refine (get_closedContexts (fun r => !((openPorts (beginMeasuring { s with phase := .running })).port r).cfg.dirCheck)
    hp).trans ?_
  rw [hport, Port.opened]
  cases (s.port p).cfg.dirCheck with
  | false => rfl
  | true => exact congrArg DirContext.empty (if_pos hp)

theorem openedPart_ready (h : s.canonical) (c : Nat) :
    (openedPart s).isReady c = s.isReady c ∧ (openedPart s).inOutage c = s.inOutage c := by
  have hcandidate : ((openedPart s).candidate c).cfg = (s.candidate c).cfg ∧
      ((openedPart s).candidate c).quarantine = (s.candidate c).quarantine := by
    rw [openedPart_candidate h, Candidate.openedAt]
    split <;> exact ⟨rfl, rfl⟩
  obtain ⟨hcfg, hquarantine⟩ := hcandidate
  constructor
  · rw [State.isReady, hcfg, hquarantine]
    rfl
  · unfold State.inOutage
    rw [hcfg]
    cases (s.candidate c).cfg.source with
    | none => rfl
    | some x =>
      show ((openedPart s).port x).outage = _
      rw [openedPart_port h]
      rfl

end

/-! ### The first choices (R122, R133) -/

section
variable {s : State} {p e : Nat}

/-- An entry that the round robin may offer a port. -/
def State.offers (s : State) (p e : Nat) : Bool :=
  (s.sweepEntry e).cfg.state == .enabled && (s.sweepEntry e).cfg.affinity.admits p && !s.underVisit e

theorem roundRobinChoice_fromZero (hc : (s.sweepPort p).cursor = 0) :
    roundRobinChoice s p = (List.range 64).find? (s.offers p) := by
  have hrange : ((List.range 64).map fun i => (0 + i) % 64) = List.range 64 := by decide
  rw [roundRobinChoice, hc, hrange]
  rfl

theorem find?_range_first {n : Nat} {f : Nat → Bool} (he : e < n) (hf : f e = true) (hd : ∀ d < e, f d = false) :
    (List.range n).find? f = some e := by
  refine List.find?_eq_some_iff_getElem.mpr ⟨hf, e, by rwa [List.length_range], List.getElem_range .., fun j hj => ?_⟩
  rw [List.getElem_range, hd j hj]
  rfl

theorem find?_range_none {n : Nat} {f : Nat → Bool} (h : ∀ e < n, f e = false) : (List.range n).find? f = none :=
  List.find?_eq_none.mpr fun e he => Bool.eq_false_iff.mp (h e (List.mem_range.mp he))

section
variable (hv : (s.sweepPort p).visit = none) (hh : (s.sweepPort p).held = false) (hc : (s.sweepPort p).cursor = 0)
  (hq : s.visitQueue = [])
include hv hh hc hq

theorem tryChoose_first (hon : (s.port p).cfg.enable = true) (he : e < 64) (hf : s.offers p e = true)
    (hd : ∀ d < e, s.offers p d = false) : tryChoose p s = beginVisit p e false s :=
  tryChoose_robin hv hh hon (by rw [queuedChoice, hq]; rfl)
    ((roundRobinChoice_fromZero hc).trans (find?_range_first he hf hd))

theorem tryChoose_none (h : (s.port p).cfg.enable = false ∨ ∀ e < 64, s.offers p e = false) : tryChoose p s = s := by
  cases hon : (s.port p).cfg.enable with
  | false => exact tryChoose_settled (.inr (.inr hon))
  | true =>
    have hnone := h.resolve_left fun hoff => nomatch hon.symm.trans hoff
    exact tryChoose_nothing hv hh hon (by rw [queuedChoice, hq]; rfl)
      ((roundRobinChoice_fromZero hc).trans (find?_range_none hnone))

end

theorem State.offers_iff : s.offers p e = true ↔
    (s.sweepEntry e).cfg.state = .enabled ∧ (s.sweepEntry e).cfg.affinity.admits p = true ∧ s.underVisit e = false := by
  simp [State.offers, and_assoc]

/-- The first choice of a port at rest, the Visit Queue empty. -/
theorem firstChoice (hm : s.sweepPort p = ⟨none, 0, false⟩) (hq : s.visitQueue = []) :
    (∀ e, (s.port p).cfg.enable = true → e < 64 → s.offers p e = true → (∀ d < e, s.offers p d = false) →
      (tryChoose p s).sweepPort p = ⟨some (firstAttempt s p e false), 0, false⟩) ∧
    ((s.port p).cfg.enable = false ∨ (∀ e < 64, s.offers p e = false) → (tryChoose p s).sweepPort p = ⟨none, 0, false⟩) := by
  have hv : (s.sweepPort p).visit = none := congrArg SweepPort.visit hm
  have hh : (s.sweepPort p).held = false := congrArg SweepPort.held hm
  have hc : (s.sweepPort p).cursor = 0 := congrArg SweepPort.cursor hm
  refine ⟨fun e hon he hf hd => ?_, fun h => ?_⟩
  · rw [tryChoose_first hv hh hc hq hon he hf hd, beginVisit_sweepPort, hm]
  · rw [tryChoose_none hv hh hc hq h, hm]

theorem tryChoose_visitQueue_nil (hq : s.visitQueue = []) : (tryChoose p s).visitQueue = [] := by
  rcases tryChoose_cases s p with h | ⟨e, b, h⟩
  · rw [h, hq]
  · rw [h]
    show s.visitQueue.erase e = []
    rw [hq]
    rfl

theorem sweepEntry_of_choiceMask {t : State} (h : choiceMask t = choiceMask s) (e : Nat) : t.sweepEntry e = s.sweepEntry e :=
  have he : (choiceMask t).sweepEntry e = (choiceMask s).sweepEntry e := by rw [h]
  he

end

/-! ### The part started -/

section
variable {s : State} {k : Nat}

theorem Service.takenUp_keeps (v : Service) (fit : Nat → Bool) (now : Nat) :
    (v.takenUp fit now).cfg = v.cfg ∧ (v.takenUp fit now).selected = v.selected ∧ (v.takenUp fit now).rank = v.rank := by
  unfold Service.takenUp
  split
  · cases v.pinned with
    | none => exact ⟨rfl, rfl, rfl⟩
    | some c =>
      dsimp only
      split <;> exact ⟨rfl, rfl, rfl⟩
  · exact ⟨rfl, rfl, rfl⟩

/-- Every service is taken up, those without a pin with no effect. -/
theorem pinnedServices_service (hn : s.serviceIndices.Nodup) (k : Nat) :
    ((pinnedServices s).foldl (fun u k => takeUpPinned k u) s).service k = (takeUpPinned k s).service k := by
  have hpins : (pinnedServices s).Nodup := hn.sublist List.filter_sublist
  rw [foldl_takeUpPinned_service hpins]
  split
  next => rfl
  next hk =>
    have hpin : (s.service k).pinned = none := by
      refine Classical.byContradiction fun hne => hk (List.mem_filter.mpr ⟨?_, Option.isSome_iff_ne_none.mpr hne⟩)
      exact mem_serviceIndices fun hd => hne (by rw [hd]; rfl)
    rw [takeUpPinned_idle (.inr (.inr (.inr hpin)))]

end

/-- What the completion of a start leaves, over the part opened. -/
structure StartCompleted (s t : State) : Prop where
  frame : ∃ services queue ports,
    t = { openedPart s with services := services, visitQueue := queue, sweepPorts := ports }
  service : ∀ k, t.service k = (takeUpPinned k (tryBoth (openedPart s))).service k
  sweepPorts : t.sweepPorts = (tryBoth (openedPart s)).sweepPorts

theorem completeStart_completed (h : s.canonical) : StartCompleted s (completeStart s) := by
  have chosen := tryBoth_frame (openedPart s)
  have hindices : (tryBoth (openedPart s)).serviceIndices = s.serviceIndices := by rw [chosen]; rfl
  have hnodup : (tryBoth (openedPart s)).serviceIndices.Nodup := by
    rw [hindices]
    exact serviceIndices_nodup h
  have taken := pinnedServices_service hnodup
  have framed := foldl_takeUpPinned_frame (pinnedServices (tryBoth (openedPart s))) (tryBoth (openedPart s))
  have hdone : completeStart s =
      (pinnedServices (tryBoth (openedPart s))).foldl (fun u k => takeUpPinned k u) (tryBoth (openedPart s)) := rfl
  rw [← hdone] at taken framed
  refine ⟨⟨(completeStart s).services, (tryBoth (openedPart s)).visitQueue, (tryBoth (openedPart s)).sweepPorts,
    framed.trans ?_⟩, taken, by rw [framed]⟩
  exact congrArg (fun x : State => { x with services := (completeStart s).services }) chosen

/-- The first choices of both ports, SP0 first (R133). -/
theorem firstChoices {t : State} (hcan : s.canonical) (hsweep : s.sweepPorts = []) (hqueue : s.visitQueue = [])
    (ht : t.sweepPorts = (tryBoth (openedPart s)).sweepPorts) :
    let offered (p e : Nat) : Prop := e < 64 ∧ (s.sweepEntry e).cfg.state = .enabled ∧
      ((s.sweepEntry e).cfg.affinity = .any ∨ ((s.sweepEntry e).cfg.affinity = .sp0 ∧ p = 12) ∨
        ((s.sweepEntry e).cfg.affinity = .sp1 ∧ p = 13))
    let begun (p e : Nat) : SweepPort := ⟨some ⟨e, false, .tuning 1 (.attempt (tunerOctets (s.port p).cfg.tunerAddr
      (s.sweepEntry e).cfg) (s.now + 2))⟩, 0, false⟩
    (∀ e, (s.port 12).cfg.enable = true → offered 12 e → (∀ d < e, ¬offered 12 d) → t.sweepPort 12 = begun 12 e) ∧
    ((s.port 12).cfg.enable = false ∨ (∀ e, ¬offered 12 e) → t.sweepPort 12 = ⟨none, 0, false⟩) ∧
    (∀ e, (s.port 13).cfg.enable = true → offered 13 e → t.visiting 12 ≠ some e →
      (∀ d < e, offered 13 d → t.visiting 12 = some d) → t.sweepPort 13 = begun 13 e) ∧
    ((s.port 13).cfg.enable = false ∨ (∀ e, offered 13 e → t.visiting 12 = some e) →
      t.sweepPort 13 = ⟨none, 0, false⟩) := by
  intro offered begun
  have rest (p : Nat) : (openedPart s).sweepPort p = ⟨none, 0, false⟩ := by
    show Table.get SweepPort.default s.sweepPorts p = _
    rw [hsweep]
    rfl
  have mask := tryChoose_choiceMask (openedPart s) 12
  have first13 : (tryChoose 12 (openedPart s)).sweepPort 13 = ⟨none, 0, false⟩ :=
    (tryChoose_sweepPort_other (by decide)).trans (rest 13)
  have emptied : (tryChoose 12 (openedPart s)).visitQueue = [] := tryChoose_visitQueue_nil hqueue
  have left12 : t.sweepPort 12 = (tryChoose 12 (openedPart s)).sweepPort 12 :=
    (sweepPort_of_sweepPorts ht 12).trans (tryChoose_sweepPort_other (by decide))
  have left13 : t.sweepPort 13 = (tryChoose 13 (tryChoose 12 (openedPart s))).sweepPort 13 := sweepPort_of_sweepPorts ht 13
  have visits12 : (tryChoose 12 (openedPart s)).visiting 12 = t.visiting 12 := by
    rw [State.visiting, State.visiting, left12]
  obtain ⟨chooses12, rests12⟩ := firstChoice (rest 12) hqueue
  obtain ⟨chooses13, rests13⟩ := firstChoice first13 emptied
  have attempt {x : State} (hx : choiceMask x = choiceMask (openedPart s)) (p e : Nat) : firstAttempt x p e false =
      ⟨e, false, .tuning 1 (.attempt (tunerOctets (s.port p).cfg.tunerAddr (s.sweepEntry e).cfg) (s.now + 2))⟩ := by
    have hnow : x.now = s.now := (congrArg State.now hx :)
    rw [firstAttempt, port_of_choiceMask hx, sweepEntry_of_choiceMask hx, openedPart_port hcan, hnow]
    rfl
  have offers12 (e : Nat) : (openedPart s).offers 12 e = true ↔ (s.sweepEntry e).cfg.state = .enabled ∧
      ((s.sweepEntry e).cfg.affinity = .any ∨ ((s.sweepEntry e).cfg.affinity = .sp0 ∧ 12 = 12) ∨
        ((s.sweepEntry e).cfg.affinity = .sp1 ∧ 12 = 13)) := by
    have hfree : (openedPart s).underVisit e = false := by
      rw [State.underVisit, State.visiting, State.visiting, rest, rest]
      rfl
    rw [State.offers_iff, hfree, Affinity.admits_iff]
    simp only [and_true]
    exact Iff.rfl
  have offers13 (e : Nat) : (tryChoose 12 (openedPart s)).offers 13 e = true ↔
      ((s.sweepEntry e).cfg.state = .enabled ∧
        ((s.sweepEntry e).cfg.affinity = .any ∨ ((s.sweepEntry e).cfg.affinity = .sp0 ∧ 13 = 12) ∨
          ((s.sweepEntry e).cfg.affinity = .sp1 ∧ 13 = 13))) ∧ t.visiting 12 ≠ some e := by
    have hfree : (tryChoose 12 (openedPart s)).underVisit e = false ↔ t.visiting 12 ≠ some e := by
      have none13 : (tryChoose 12 (openedPart s)).visiting 13 = none := congrArg (·.visit.map Visit.entry) first13
      rw [State.underVisit, visits12, none13]
      simp
    rw [State.offers_iff, hfree, Affinity.admits_iff, sweepEntry_of_choiceMask mask, ← and_assoc]
    exact Iff.rfl
  have hport (p : Nat) : ((openedPart s).port p).cfg = (s.port p).cfg := by rw [openedPart_port hcan]; rfl
  have hport13 : ((tryChoose 12 (openedPart s)).port 13).cfg = (s.port 13).cfg := by
    rw [port_of_choiceMask mask]
    exact hport 13
  rw [hport] at rests12
  rw [hport13] at rests13
  rw [left12, left13]
  refine ⟨fun e hon he hd => ?first, fun h => ?none, fun e hon he hne hd => ?second, fun h => ?nothing⟩
  case first =>
    obtain ⟨hlt, ho⟩ := he
    refine (chooses12 e (by rwa [hport]) hlt ((offers12 e).mpr ho) fun d hde => ?_).trans (by rw [attempt rfl])
    exact Bool.eq_false_iff.mpr fun hod => hd d hde ⟨by omega, (offers12 d).mp hod⟩
  case none =>
    refine rests12 (h.imp_right fun hno e hlt => Bool.eq_false_iff.mpr fun ho => hno e ⟨hlt, (offers12 e).mp ho⟩)
  case second =>
    obtain ⟨hlt, ho⟩ := he
    refine (chooses13 e (by rwa [hport13]) hlt ((offers13 e).mpr ⟨ho, hne⟩) fun d hde => ?_).trans (by rw [attempt mask])
    refine Bool.eq_false_iff.mpr fun hod => ?_
    obtain ⟨hoffer, hfree⟩ := (offers13 d).mp hod
    exact hfree (hd d hde ⟨by omega, hoffer⟩)
  case nothing =>
    refine rests13 (h.imp_right fun hno e hlt => Bool.eq_false_iff.mpr fun ho => ?_)
    obtain ⟨hoffer, hfree⟩ := (offers13 e).mp ho
    exact hfree (hno e ⟨hlt, hoffer⟩)

/-- Settles O11: the part opened, then the choices, then the pins. -/
theorem startCompletes : Obligations.StartCompletes := by
  intro s hphase hcan
  have completed := completeStart_completed hcan
  have hexec : exec .startCompletion s = .next (completeStart s) := congrArg Host.Outcome.next (if_pos hphase)
  generalize completeStart s = t at completed hexec
  obtain ⟨⟨services, queue, ports, frame⟩, service, sweepPorts⟩ := completed
  have chosen := tryBoth_frame (openedPart s)
  have hservice (k : Nat) : (tryBoth (openedPart s)).service k = s.service k := by rw [chosen]; rfl
  have hfit (k c : Nat) : (tryBoth (openedPart s)).pinFit k c = s.pinFit k c := by
    have hready := openedPart_ready hcan c
    have hsame : (tryBoth (openedPart s)).pinFit k c = (openedPart s).pinFit k c := by rw [chosen]; rfl
    rw [hsame, State.pinFit, State.pinFit, hready.1, hready.2]
    rfl
  have hnow : (tryBoth (openedPart s)).now = s.now := by rw [chosen]; rfl
  have port (p : Nat) : t.port p = (s.port p).opened := by
    rw [frame]
    exact openedPart_port hcan p
  have candidate (c : Nat) : t.candidate c = (s.candidate c).openedAt s.now := by
    rw [frame]
    exact openedPart_candidate hcan c
  have context (p : Nat) (hp : p < 12) : t.dirContext p = DirContext.empty (if (s.port p).cfg.dirCheck then some p else none) := by
    rw [frame]
    exact openedPart_dirContext hcan hp
  have fixed : t.phase = .running ∧ t.now = s.now ∧ t.intervalNumber = 0 ∧ t.intervalStart = s.now ∧
      t.intervalLength = s.settings.gradingInterval ∧ t.gradingTimer = some (s.now + s.settings.gradingInterval) ∧
      t.settings = s.settings ∧ t.store = s.store ∧ t.noticeQueue = s.noticeQueue ∧ t.faultSummary = s.faultSummary ∧
      t.inFlight = s.inFlight := by
    rw [frame]
    exact ⟨rfl, rfl, rfl, rfl, rfl, rfl, rfl, rfl, rfl, rfl, rfl⟩
  obtain ⟨f1, f2, f3, f4, f5, f6, f7, f8, f9, f10, f11⟩ := fixed
  refine ⟨t, hexec, f1, f2, f3, f4, f5, f6, port, context, fun c hc => (candidate c).trans (if_neg hc), fun k => ?kept,
    fun k c hs ha hn hp => ⟨fun hf => ?fit, fun hf => ?unfit⟩, fun k h => ?idle, fun hsweep hqueue => ?choices, f7, f8, f9, f10,
    f11⟩
  case kept =>
    rw [service k, takeUpPinned_takenUp, hservice]
    exact (s.service k).takenUp_keeps _ _
  case fit =>
    have hfits : (tryBoth (openedPart s)).pinFit k c = true := (hfit k c).trans (pinFit_iff.mpr hf)
    rw [← hservice k] at hs ha hn hp
    rw [service k, takeUpPinned_fit hs ha hn hp hfits, armSwitch_pin, State.service_setService_same, hnow, hservice]
    rfl
  case unfit =>
    have hfits : (tryBoth (openedPart s)).pinFit k c = false := (hfit k c).trans (Bool.eq_false_iff.mpr (mt pinFit_iff.mp hf))
    rw [← hservice k] at hs ha hn hp
    rw [service k, takeUpPinned_unfit hs ha hn hp hfits, State.service_setService_same, hservice]
  case idle =>
    have hidle : (s.service k).cfg.state ≠ .active ∨ (s.service k).armed ≠ none ∨ (s.service k).selected ≠ none ∨
        (s.service k).pinned = none := by
      rcases h with h | h | h | h
      · exact .inl h
      · exact .inr (.inr (.inr h))
      · exact .inr (.inl h)
      · exact .inr (.inr (.inl h))
    rw [← hservice k] at hidle
    rw [service k, takeUpPinned_idle hidle, hservice]
  case choices =>
    intro offered begun
    exact firstChoices hcan hsweep hqueue sweepPorts

end Sys2Proof.Machine
end

section
/-! PROOFS. The checks of a CANDIDATE change, and the Lane Map it leaves. -/

namespace Sys2Proof.Machine

/-! ### Entries in the lowest free places (R23, R24) -/

section
variable {s : State} {c : Nat}

theorem mem_of_lt_freePlace {i a : Nat} {l : List Nat} (hi : i ≤ a) (ha : a < freePlace i l) : a ∈ l := by
  induction l generalizing i with
  | nil => exact absurd (hi.trans_lt ha) (Nat.lt_irrefl i)
  | cons j l ih =>
    unfold freePlace at ha
    split at ha
    next hj =>
      rcases Nat.eq_or_lt_of_le hi with rfl | hlt
      · exact hj ▸ List.mem_cons_self ..
      · exact List.mem_cons_of_mem _ (ih hlt ha)
    next => exact absurd (hi.trans_lt ha) (Nat.lt_irrefl i)

/-- An entry is added at the lowest free place. -/
theorem addLane_lowest (h : s.lanesWf) (v : LaneEntry) : ∃ i, s.lanePlace i = none ∧ (∀ a < i, s.lanePlace a ≠ none) ∧
    addLane s v = s.setLanePlace i (some v) := by
  refine ⟨freePlace 0 (Table.keys s.laneMap), ?_, fun a ha => ?_, rfl⟩
  · have hfree := freePlace_not_mem 0 (Table.keys s.laneMap) h.1 fun _ _ => Nat.zero_le _
    exact Classical.byContradiction fun hne => hfree ((mem_keys_lanes h _).mpr hne)
  · exact (mem_keys_lanes h a).mp (mem_of_lt_freePlace (Nat.zero_le a) ha)

/-- A list of entries added to a Lane Map, in rising places. -/
structure LanesAdded (l : List LaneEntry) (s t : State) (places : List Nat) : Prop where
  length : places.length = l.length
  sorted : places.Pairwise (· < ·)
  placed : ∀ (m i : Nat), places[m]? = some i → t.lanePlace i = l[m]?
  kept : ∀ i, i ∉ places → t.lanePlace i = s.lanePlace i
  lowest : ∀ i ∈ places, s.lanePlace i = none ∧ ∀ a < i, t.lanePlace a ≠ none

theorem foldl_addLane_added (l : List LaneEntry) (h : s.lanesWf) : ∃ places, LanesAdded l s (l.foldl addLane s) places := by
  induction l generalizing s with
  | nil => exact ⟨[], rfl, List.Pairwise.nil, (fun m i hm => nomatch hm), fun _ _ => rfl, fun i hi => nomatch hi⟩
  | cons v l ih =>
    obtain ⟨i, hfree, hbelow, hadded⟩ := addLane_lowest h v
    have hwf : (addLane s v).lanesWf := addLane_wf h v
    obtain ⟨places, rest⟩ := ih hwf
    rw [List.foldl_cons]
    rw [hadded] at rest ⊢
    have hown : (s.setLanePlace i (some v)).lanePlace i = some v := State.lanePlace_setLanePlace_same ..
    have hothers (j : Nat) (hj : j ≠ i) : (s.setLanePlace i (some v)).lanePlace j = s.lanePlace j :=
      State.lanePlace_setLanePlace_other _ _ _ _ hj
    have habove (j : Nat) (hj : j ∈ places) : i < j := by
      have hnone := (rest.lowest j hj).1
      rcases Nat.lt_trichotomy i j with hlt | rfl | hlt
      · exact hlt
      · exact nomatch hnone.symm.trans hown
      · exact absurd ((hothers j hlt.ne).symm.trans hnone) (hbelow j hlt)
    have hout : i ∉ places := fun hi => Nat.lt_irrefl i (habove i hi)
    refine ⟨i :: places, ?length, List.pairwise_cons.mpr ⟨habove, rest.sorted⟩, fun m j hm => ?placed, fun j hj => ?kept,
      fun j hj => ?lowest⟩
    case length => rw [List.length_cons, List.length_cons, rest.length]
    case placed =>
      cases m with
      | zero =>
        cases hm
        exact (rest.kept i hout).trans hown
      | succ m => exact rest.placed m j hm
    case kept =>
      obtain ⟨hne, hrest⟩ := not_or.mp (mt List.mem_cons.mpr hj)
      exact (rest.kept j hrest).trans (hothers j hne)
    case lowest =>
      rcases List.mem_cons.mp hj with rfl | hj
      · refine ⟨hfree, fun a ha => ?_⟩
        rw [rest.kept a fun hm => absurd (habove a hm) (Nat.not_lt.mpr ha.le), hothers a ha.ne]
        exact hbelow a ha
      · obtain ⟨hnone, hfull⟩ := rest.lowest j hj
        exact ⟨(hothers j (habove j hj).ne').symm.trans hnone, hfull⟩

/-- The Lane Map without the entries of a candidate. -/
theorem lanePlace_removeCandidateLanes (h : s.lanesWf) (c i : Nat) : (removeCandidateLanes c s).lanePlace i =
    (s.lanePlace i).bind fun e => if e.candidate = c then none else some e := by
  have hwf : (removeCandidateLanes c s).lanesWf := Table.wf_filter _ _ _ h
  cases hplace : s.lanePlace i with
  | none =>
    refine Classical.byContradiction fun hne => ?_
    have hmem := List.mem_filter.mp (Table.mem_of_get_ne (d := fun _ => (none : Option LaneEntry)) hne)
    exact hne ((Table.get_of_mem h.1 hmem.1).symm.trans hplace)
  | some e =>
    have hmem : (i, some e) ∈ s.laneMap := by
      have hlisted := Table.mem_of_get_ne (d := fun _ => (none : Option LaneEntry)) (t := s.laneMap) (k := i)
        (fun hnone => nomatch hplace.symm.trans hnone)
      rwa [show Table.get (fun _ => none) s.laneMap i = some e from hplace] at hlisted
    by_cases hc : e.candidate = c
    · rw [Option.bind_some, if_pos hc]
      refine Classical.byContradiction fun hne => ?_
      obtain ⟨hin, hkept⟩ := List.mem_filter.mp (Table.mem_of_get_ne (d := fun _ => (none : Option LaneEntry)) hne)
      have hvalue := (Table.get_of_mem h.1 hin).symm.trans hplace
      rw [hvalue] at hkept
      simp [placeOf, hc] at hkept
    · rw [Option.bind_some, if_neg hc]
      exact Table.get_of_mem hwf.1 (List.mem_filter.mpr ⟨hmem, by simp [placeOf, hc]⟩)

end

/-! ### The checks (R42) -/

section
variable {s : State} {c j y : Nat} {r : CandidateConfig}

theorem stateSuits_iff (hs : r.state ≠ .free) (ho : r.owner = some j) (hy : r.source = some y) : stateSuits r = true ↔
    r.lanes ≠ [] ∧ r.lanes.length ≤ 8 ∧ (r.state = .ready → y < 12 ∨ y = 14) ∧ (r.state = .survey → 64 ≤ y) := by
  unfold stateSuits
  cases hst : r.state with
  | free => exact absurd hst hs
  | ready => simp [ho, hy, isFeedSource, and_assoc]
  | survey => simp [ho, hy, and_assoc]
  | barred => simp [ho, hy]

theorem laneConflicts_iff (h : s.canonical) {a : Nat} : laneConflicts s c y a = true ↔
    (∃ i e, s.lanePlace i = some e ∧ e.source = y ∧ e.lane = a ∧ e.candidate ≠ c) ∨
      (y < 12 ∧ (s.port y).cfg.marginLane = some a) ∨
      (64 ≤ y ∧ ((s.port 12).cfg.marginLane = some a ∨ (s.port 13).cfg.marginLane = some a)) ∨
      (y = 14 ∧ s.settings.controlLane = a) := by
  have hmap := laneMap_any h fun v => v.source == y && v.lane == a && v.candidate != c
  have hports : ((State.portsOfSource y).any fun p => (s.port p).cfg.marginLane == some a) = true ↔
      (y < 12 ∧ (s.port y).cfg.marginLane = some a) ∨
        (64 ≤ y ∧ ((s.port 12).cfg.marginLane = some a ∨ (s.port 13).cfg.marginLane = some a)) := by
    unfold State.portsOfSource
    split
    next h64 => simp [h64, show ¬y < 12 by omega]
    next h64 =>
      split
      next h12 => simp [h64, h12]
      next h12 => simp [h64, h12]
  unfold laneConflicts
  rw [Bool.or_eq_true, Bool.or_eq_true, hmap, hports]
  simp only [Bool.and_eq_true, beq_iff_eq, bne_iff_ne, and_assoc, or_assoc]

theorem placesOfOthers_add (s : State) (c : Nat) : placesOfOthers s c + (placesOf c s.laneMap).length = s.laneMap.length := by
  have hparts := List.length_eq_length_filter_add (l := s.laneMap) fun e => placeOf c e.2
  rw [placesOfOthers, placesOf]
  omega

/-- The five checks, in their order. -/
structure Checks (s : State) (c j y : Nat) (r : CandidateConfig) : Prop where
  state : r.state ≠ .free
  owner : r.owner = some j
  source : r.source = some y

namespace Checks
variable (h : Checks s c j y r)
include h

theorem noOwner (hu : (s.service j).cfg.state = .unused) : checkCandidate s c r = some .noOwner := by
  refine if_pos ⟨h.state, ?_⟩
  rw [h.owner, Option.any_some, hu]
  rfl

variable (hu : (s.service j).cfg.state ≠ .unused)
include hu

theorem past_owner : checkCandidate s c r =
    if !stateSuits r then some .stateMismatch
    else if joins (s.candidate c).cfg r = true ∧ 6 ≤ (s.service j).rank.length then some .listFull
    else if r.lanes.any (laneConflicts s c y) then some .laneConflict
    else if 4096 < placesOfOthers s c + r.lanes.length then some .mapFull else none := by
  have hused : ((s.service j).cfg.state == ServiceState.unused) = false := beq_false_of_ne hu
  unfold checkCandidate
  simp only [h.owner, h.source, Option.any_some, hused, Bool.false_eq_true, and_false, if_false, decide_eq_true_eq]

theorem stateMismatch (hs : ¬stateSuits r = true) : checkCandidate s c r = some .stateMismatch := by
  rw [h.past_owner hu, if_pos (by simpa using hs)]

variable (hs : stateSuits r = true)
include hs

theorem listFull (hf : joins (s.candidate c).cfg r = true ∧ 6 ≤ (s.service j).rank.length) :
    checkCandidate s c r = some .listFull := by
  rw [h.past_owner hu, hs, if_neg (by decide), if_pos hf]

variable (hf : ¬(joins (s.candidate c).cfg r = true ∧ 6 ≤ (s.service j).rank.length))
include hf

theorem laneConflict (hl : r.lanes.any (laneConflicts s c y) = true) : checkCandidate s c r = some .laneConflict := by
  rw [h.past_owner hu, hs, if_neg (by decide), if_neg hf, if_pos hl]

variable (hl : ¬r.lanes.any (laneConflicts s c y) = true)
include hl

theorem mapFull (hm : 4096 < placesOfOthers s c + r.lanes.length) : checkCandidate s c r = some .mapFull := by
  rw [h.past_owner hu, hs, if_neg (by decide), if_neg hf, if_neg hl, if_pos hm]

theorem passes (hm : ¬4096 < placesOfOthers s c + r.lanes.length) : checkCandidate s c r = none := by
  rw [h.past_owner hu, hs, if_neg (by decide), if_neg hf, if_neg hl, if_neg hm]

end Checks

end

/-! ### Performing the change -/

section
variable {s : State} {h : Change}

theorem performChange_candidate (hs : h.service = false) {why : FailReason}
    (hc : checkCandidate s h.index (formCandidate (s.candidate h.index).cfg h.fields) = some why) :
    performChange h s = (s.raise (.changeFailed h.tag 5 h.index)).post (.changeFailed h.tag 5 h.index why) := by
  unfold performChange
  simp only [hs, Bool.false_eq_true, if_false, hc]
  unfold failChange Change.tableCode
  simp only [hs, Bool.false_eq_true, if_false]

theorem performChange_candidate_applied (hs : h.service = false)
    (hc : checkCandidate s h.index (formCandidate (s.candidate h.index).cfg h.fields) = none) :
    performChange h s = applyCandidate h.index (formCandidate (s.candidate h.index).cfg h.fields) s := by
  unfold performChange
  simp only [hs, Bool.false_eq_true, if_false, hc]

end

end Sys2Proof.Machine
end

section
/-! PROOFS. What an applied CANDIDATE change leaves (O37). -/

namespace Sys2Proof.Machine

/-! ### A service after a change of one of its candidates (R46 to R48, R50) -/

section
variable {c : Nat} {old new : CandidateConfig}

theorem Service.dropAdvisory_eq (c : Nat) (v : Service) : v.dropAdvisory c =
    { v with advisory := if v.advisory = some c then none else v.advisory } := by
  unfold Service.dropAdvisory
  split <;> rfl

theorem Service.dropChallenger_eq (c : Nat) (v : Service) : v.dropChallenger c = { v with
    challenger := if v.challenger = some c then none else v.challenger
    streak := if v.challenger = some c then 0 else v.streak
    attempts := if v.challenger = some c then 0 else v.attempts } := by
  unfold Service.dropChallenger
  split <;> rfl

/-- The candidate is out of the order and of the advisory where it leaves. -/
def Service.leftBy (v : Service) (c : Nat) (leaves : Bool) : Service := { v with
  rank := if leaves then v.rank.erase c else v.rank
  advisory := if leaves && decide (v.advisory = some c) then none else v.advisory }

/-- The challenge is dropped, and the pin and the selection are taken away, each where it is the candidate's. -/
def Service.stripped (v : Service) (c : Nat) (challenge pin selection : Bool) : Service := { v with
  challenger := if challenge && decide (v.challenger = some c) then none else v.challenger
  streak := if challenge && decide (v.challenger = some c) then 0 else v.streak
  attempts := if challenge && decide (v.challenger = some c) then 0 else v.attempts
  pinned := if pin && decide (v.pinned = some c) then none else v.pinned
  selected := if selection && decide (v.selected = some c) then none else v.selected }

theorem Service.afterChange_eq (c : Nat) (old new : CandidateConfig) (v : Service) : v.afterChange c old new =
    (v.leftBy c (leaves old new)).stripped c (losesChallenge old new) (losesPin old new) (losesSelection old new) := by
  have first (b : Bool) : (if b then { v with rank := v.rank.erase c }.dropAdvisory c else v) = v.leftBy c b := by
    cases b with
    | false => rfl
    | true => exact (Service.dropAdvisory_eq c _).trans (by simp [Service.leftBy])
  have second (b : Bool) (w : Service) : (if b then w.dropChallenger c else w) = w.stripped c b false false := by
    cases b with
    | false => rfl
    | true => exact (Service.dropChallenger_eq c w).trans (by simp [Service.stripped])
  have third (b d : Bool) (w : Service) : (if (w.stripped c b false false).pinned = some c ∧ d = true
      then { w.stripped c b false false with pinned := none } else w.stripped c b false false) = w.stripped c b d false := by
    cases d <;> by_cases hp : w.pinned = some c <;> simp [Service.stripped, hp]
  have fourth (b d f : Bool) (w : Service) : (if (w.stripped c b d false).selected = some c ∧ f = true
      then { w.stripped c b d false with selected := none } else w.stripped c b d false) = w.stripped c b d f := by
    cases f <;> by_cases hs : w.selected = some c <;> simp [Service.stripped, hs]
  unfold Service.afterChange
  dsimp only
  rw [first, second, third, fourth]

end

/-! ### The parts of the application -/

section
variable {s : State} {c : Nat} {new : CandidateConfig}

theorem changeLanes_frame (c : Nat) (old new : CandidateConfig) (s : State) :
    changeLanes c old new s = { s with laneMap := (changeLanes c old new s).laneMap } := by
  unfold changeLanes
  split
  · rw [addCandidateLanes, foldl_addLane_frame]
    rfl
  · rfl

theorem changeOwners_frame (c : Nat) (old new : CandidateConfig) (s : State) : joinOwner c old new (changeOldOwner c old new s) =
    { s with services := (joinOwner c old new (changeOldOwner c old new s)).services } := by
  have left : changeOldOwner c old new s = { s with services := (changeOldOwner c old new s).services } := by
    unfold changeOldOwner
    split <;> rfl
  generalize changeOldOwner c old new s = t at left
  have joined : joinOwner c old new t = { t with services := (joinOwner c old new t).services } := by
    unfold joinOwner
    split
    · rfl
    · split <;> rfl
  exact joined.trans (congrArg (fun u : State => { u with services := (joinOwner c old new t).services }) left)

/-- The tables of an applied change, before its sends. -/
def changedTables (c : Nat) (new : CandidateConfig) (s : State) : State :=
  joinOwner c (s.candidate c).cfg new (changeOldOwner c (s.candidate c).cfg new
    (changeLanes c (s.candidate c).cfg new (s.setCandidate c ((s.candidate c).afterChange s new))))

theorem applyCandidate_eq (c : Nat) (new : CandidateConfig) (s : State) : applyCandidate c new s =
    (changedTables c new s).send (candidateSends s (changedTables c new s) c (s.candidate c).cfg new) := rfl

theorem changedTables_frame (c : Nat) (new : CandidateConfig) (s : State) : changedTables c new s = { s with
    candidates := (changedTables c new s).candidates, services := (changedTables c new s).services
    laneMap := (changedTables c new s).laneMap } := by
  unfold changedTables
  rw [changeOwners_frame, changeLanes_frame]
  rfl

theorem applyCandidate_frame (c : Nat) (new : CandidateConfig) (s : State) : applyCandidate c new s = { s with
    candidates := (applyCandidate c new s).candidates, services := (applyCandidate c new s).services
    laneMap := (applyCandidate c new s).laneMap, inFlight := (applyCandidate c new s).inFlight } := by
  rw [applyCandidate_eq]
  exact congrArg (fun u : State => { u with
    inFlight := ((changedTables c new s).send (candidateSends s (changedTables c new s) c (s.candidate c).cfg new)).inFlight })
    (changedTables_frame c new s)

theorem applyCandidate_inFlight (c : Nat) (new : CandidateConfig) (s : State) : (applyCandidate c new s).inFlight =
    s.inFlight ++ candidateSends s (applyCandidate c new s) c (s.candidate c).cfg new := by
  have hflight : (changedTables c new s).inFlight = s.inFlight := by rw [changedTables_frame]
  have hsends (l : List Instr) : candidateSends s ((changedTables c new s).send l) c (s.candidate c).cfg new =
      candidateSends s (changedTables c new s) c (s.candidate c).cfg new := rfl
  rw [applyCandidate_eq, hsends, ← hflight]
  rfl

theorem applyCandidate_firstEligible (order : List Nat) :
    (applyCandidate c new s).firstEligible order [c] = s.firstEligible order [c] := by
  obtain ⟨candidates, services, -⟩ := applyCandidate_tables c new s
  have frame := applyCandidate_frame c new s
  generalize applyCandidate c new s = t at candidates services frame
  have hport (p : Nat) : t.port p = s.port p := by rw [frame]; rfl
  have hmin (k : Nat) : (t.service k).cfg.minGrade = (s.service k).cfg.minGrade := by
    rw [services, ((s.service k).changed_fields c _ new k).2.1]
  refine congrArg (List.find? · order) (funext fun d => ?_)
  by_cases hd : d = c
  · simp [hd]
  · have heligible : t.eligible d = s.eligible d := by
      unfold State.eligible State.isReady State.gradePasses State.inOutage State.minimumGrade
      simp only [(candidates d).trans (if_neg hd), hport, hmin]
    rw [heligible]

/-- What the loss of the selection sends: nothing from a service that does not run, a fit pin first, then the search. -/
theorem applyCandidate_sends {k : Nat} (ho : (s.candidate c).cfg.owner = some k) :
    candidateSends s (applyCandidate c new s) c (s.candidate c).cfg new =
      if (s.service k).selected = some c ∧ losesSelection (s.candidate c).cfg new = true ∧ (s.service k).cfg.state = .active then
        [if ((applyCandidate c new s).service k).pinned.isSome then .pinnedWithoutSelection k
          else match s.firstEligible ((applyCandidate c new s).service k).rank [c] with
            | some e => .switchRequest k e .urgent
            | none => .darkArrival k]
      else [] := by
  have hstate : ((applyCandidate c new s).service k).cfg = (s.service k).cfg := by
    rw [(applyCandidate_tables c new s).2.1]
    exact ((s.service k).changed_fields c _ new k).2.1
  unfold candidateSends selectionLost
  simp only [ho, hstate, applyCandidate_firstEligible]
  by_cases hs : (s.service k).selected = some c
  · by_cases hl : losesSelection (s.candidate c).cfg new = true
    · by_cases ha : (s.service k).cfg.state = .active
      · simp only [hs, hl, ha, and_self, if_true, ne_eq, not_true_eq_false, if_false]
        split
        · rfl
        · cases s.firstEligible ((applyCandidate c new s).service k).rank [c] <;> rfl
      · simp [ha]
    · simp [hl]
  · simp [hs]

/-- The Lane Map after a change that renews the candidate's entries. -/
theorem applyCandidate_lanes (h : s.canonical) (hr : resetsRecord (s.candidate c).cfg new = true) :
    ∃ places, LanesAdded (laneEntries c new) (removeCandidateLanes c s) (applyCandidate c new s) places := by
  obtain ⟨-, -, lanes⟩ := applyCandidate_tables c new s
  have hwf : (removeCandidateLanes c (s.setCandidate c ((s.candidate c).afterChange s new))).lanesWf :=
    Table.wf_filter _ _ _ h.2.1
  obtain ⟨places, added⟩ := foldl_addLane_added (laneEntries c new) hwf
  have hlanes : (applyCandidate c new s).laneMap = ((laneEntries c new).foldl addLane
      (removeCandidateLanes c (s.setCandidate c ((s.candidate c).afterChange s new)))).laneMap :=
    lanes.trans (congrArg State.laneMap (if_pos hr))
  have hplace (i : Nat) : (applyCandidate c new s).lanePlace i = ((laneEntries c new).foldl addLane
      (removeCandidateLanes c (s.setCandidate c ((s.candidate c).afterChange s new)))).lanePlace i :=
    congrArg (Table.get _ · i) hlanes
  refine ⟨places, added.length, added.sorted, fun m i hm => (hplace i).trans (added.placed m i hm),
    fun i hi => (hplace i).trans (added.kept i hi), fun i hi => ⟨(added.lowest i hi).1, fun a ha => ?_⟩⟩
  rw [hplace]
  exact (added.lowest i hi).2 a ha

theorem applyCandidate_sameLanes (hr : resetsRecord (s.candidate c).cfg new = false) :
    (applyCandidate c new s).laneMap = s.laneMap :=
  (applyCandidate_tables c new s).2.2.trans (congrArg State.laneMap (a₂ := s.setCandidate c ((s.candidate c).afterChange s new))
    (if_neg (Bool.eq_false_iff.mp hr)))

end

/-! ### A FREE candidate that joins, and one that becomes FREE -/

section
variable {s : State} {c k p lane : Nat}

/-- The record of a candidate that joins service `k` with one lane. -/
def joinedConfig (k p lane : Nat) : CandidateConfig := ⟨.ready, some k, some p, [lane], none, 0⟩

theorem formCandidate_joins (k p lane : Nat) : formCandidate .free [(1, 1), (2, k), (3, p), (4, 1), (5, lane)] =
    joinedConfig k p lane := rfl

theorem isHeld_candidate_false {h : Change} (hs : h.service = false)
    (hb : ∀ k, (s.candidate h.index).cfg.owner = some k → (s.service k).armed = none)
    (ha : ∀ k, ownerAfter s h.index h.fields = some k → (s.service k).armed = none) : isHeld s h = false := by
  refine Bool.eq_false_iff.mpr fun hheld => ?_
  rcases (isHeld_candidate hs).mp hheld with ⟨k, ho, harmed⟩ | ⟨k, ho, harmed⟩
  · rw [hb k ho] at harmed
    exact nomatch harmed
  · rw [ha k ho] at harmed
    exact nomatch harmed

theorem dwellsOn_iff {x : Nat} : s.dwellsOn p x = true ↔ ∃ e q, x = 64 + e ∧
    ((∃ d, (s.sweepPort p).visit = some ⟨e, q, .dwelling d⟩) ∨ (s.sweepPort p).visit = some ⟨e, q, .grading⟩) := by
  unfold State.dwellsOn
  split
  next e q d hv =>
    rw [hv, beq_iff_eq]
    constructor
    · exact fun hx => ⟨e, q, hx, .inl ⟨d, rfl⟩⟩
    · rintro ⟨e', q', hx, ⟨d', hd⟩ | hd⟩
      · cases hd
        exact hx
      · exact nomatch hd
  next e q hv =>
    rw [hv, beq_iff_eq]
    constructor
    · exact fun hx => ⟨e, q, hx, .inr rfl⟩
    · rintro ⟨e', q', hx, ⟨d', hd⟩ | hd⟩
      · exact nomatch hd
      · cases hd
        exact hx
  next hdwell hgrading =>
    refine ⟨nofun, ?_⟩
    rintro ⟨e, q, -, ⟨d, hd⟩ | hd⟩
    · exact absurd hd (hdwell e q d)
    · exact absurd hd (hgrading e q)

theorem dwellsOn_feed {x : Nat} (h : x < 64) : s.dwellsOn p x = false := by
  refine Bool.eq_false_iff.mpr fun hd => ?_
  obtain ⟨e, -, hx, -⟩ := dwellsOn_iff.mp hd
  omega

theorem Candidate.afterChange_used {new : CandidateConfig} (hs : new.state ≠ .free) (x : Candidate) : x.afterChange s new =
    { x with
      cfg := new
      flaps := if joins x.cfg new then 0 else x.flaps
      decay := if joins x.cfg new then 0 else x.decay
      demoted := if joins x.cfg new then false else x.demoted
      quarantine := if new.state = .barred then none else x.quarantine
      directory := if joins x.cfg new || x.cfg.source != new.source || x.cfg.expected != new.expected then .unchecked
        else x.directory
      misses := if joins x.cfg new || x.cfg.source != new.source || x.cfg.expected != new.expected then 0 else x.misses
      measured := if joins x.cfg new || resetsRecord x.cfg new then .opened s.now else x.measured
      grade := if joins x.cfg new || resetsRecord x.cfg new then none else x.grade
      discard12 := x.discard12 || (resetsRecord x.cfg new && dwellTouched s 12 x.cfg new)
      discard13 := x.discard13 || (resetsRecord x.cfg new && dwellTouched s 13 x.cfg new) } := if_neg hs

/-- The record of a candidate that joins: its measurement begins. -/
theorem afterChange_joins (hp : p < 64) : (Candidate.default c).afterChange s (joinedConfig k p lane) =
    { Candidate.default c with cfg := joinedConfig k p lane, measured := .opened s.now } := by
  have undiscarded (r : Nat) : dwellTouched s r (Candidate.default c).cfg (joinedConfig k p lane) = false := by
    show (false || s.dwellsOn r p) = false
    rw [dwellsOn_feed hp]
    rfl
  have hused : (joinedConfig k p lane).state ≠ .free := by simp [joinedConfig]
  rw [Candidate.afterChange_used hused, undiscarded, undiscarded]
  rfl

end

/-! ### The services and the places of a joining -/

section
variable {s : State} {c k : Nat} {old new : CandidateConfig}

theorem Service.changed_neither (w : Service) (ho : old.owner ≠ some k)
    (hn : ¬(new.owner = some k ∧ joins old new = true)) : w.changed c old new k = w := by
  rw [Service.changed, if_neg ho, if_neg hn]

theorem Service.changed_joined (w : Service) (ho : old.owner ≠ some k) (hn : new.owner = some k)
    (hj : joins old new = true) : w.changed c old new k = { w with rank := w.rank ++ [c] } := by
  rw [Service.changed, if_neg ho, if_pos ⟨hn, hj⟩]

theorem Service.changed_left (w : Service) (ho : old.owner = some k)
    (hn : ¬(new.owner = some k ∧ joins old new = true)) : w.changed c old new k = w.afterChange c old new := by
  rw [Service.changed, if_pos ho, if_neg hn]

theorem placesOfOthers_all (hwf : s.lanesWf) (h : ∀ i e, s.lanePlace i = some e → e.candidate ≠ c) :
    placesOfOthers s c = s.laneMap.length := by
  have hnone : placesOf c s.laneMap = [] := by
    refine List.filter_eq_nil_iff.mpr fun e he hplace => ?_
    have hread : s.lanePlace e.1 = e.2 := Table.get_of_mem hwf.1 he
    obtain ⟨x, hx, hc⟩ := (Option.any_eq_true _ _).mp hplace
    exact h e.1 x (hread.trans hx) (beq_iff_eq.mp hc)
  rw [← placesOfOthers_add s c, hnone]
  rfl

theorem removeCandidateLanes_absent (hwf : s.lanesWf) (h : ∀ i e, s.lanePlace i = some e → e.candidate ≠ c) (i : Nat) :
    (removeCandidateLanes c s).lanePlace i = s.lanePlace i := by
  rw [lanePlace_removeCandidateLanes hwf]
  cases hplace : s.lanePlace i with
  | none => rfl
  | some e => exact if_neg (h i e hplace)

theorem candidateSends_unowned {t : State} (ho : old.owner = none) : candidateSends s t c old new = [] := by
  unfold candidateSends
  simp only [ho]

/-- One entry added stands in the lowest free place. -/
theorem LanesAdded.lone {v : LaneEntry} {t : State} {places : List Nat} {i : Nat} (h : LanesAdded [v] s t places)
    (hfree : s.lanePlace i = none) (hbelow : ∀ j < i, s.lanePlace j ≠ none) :
    t.lanePlace i = some v ∧ ∀ j, j ≠ i → t.lanePlace j = s.lanePlace j := by
  obtain ⟨a, rfl⟩ := List.length_eq_one_iff.mp h.length
  obtain ⟨hnone, hfull⟩ := h.lowest a (List.mem_singleton_self a)
  have hkept (j : Nat) (hj : j ≠ a) : t.lanePlace j = s.lanePlace j := h.kept j (mt List.mem_singleton.mp hj)
  obtain rfl : a = i := by
    rcases Nat.lt_trichotomy a i with hlt | heq | hlt
    · exact absurd hnone (hbelow a hlt)
    · exact heq
    · exact absurd ((hkept i hlt.ne).trans hfree) (hfull i hlt)
  exact ⟨h.placed 0 a rfl, hkept⟩

end

/-! ### A candidate that becomes FREE -/

section
variable {s : State} {c k : Nat} {old : CandidateConfig}

theorem checkCandidate_free (hmap : s.laneMap.length ≤ 4096) : checkCandidate s c .free = none := by
  have hplaces := placesOfOthers_add s c
  have hroom : ¬4096 < placesOfOthers s c + CandidateConfig.free.lanes.length := by
    show ¬4096 < placesOfOthers s c + 0
    omega
  have hchecks : checkCandidate s c .free =
      if 4096 < placesOfOthers s c + CandidateConfig.free.lanes.length then some .mapFull else none := rfl
  rw [hchecks, if_neg hroom]

/-- What a service keeps of a candidate that becomes FREE. -/
theorem Service.changed_free (w : Service) (hs : old.state ≠ .free) (ho : old.owner = some k) :
    w.changed c old .free k = (w.leftBy c true).stripped c true true true := by
  have hleaves : leaves old .free = true := by simp [leaves, hs, CandidateConfig.free]
  have hchallenge : losesChallenge old .free = true := by rw [losesChallenge, hleaves, Bool.true_or]
  have hpin : losesPin old .free = true := rfl
  have hselection : losesSelection old .free = true := rfl
  have hstays : ¬(CandidateConfig.free.owner = some k ∧ joins old .free = true) := fun h => nomatch h.1
  rw [Service.changed_left _ ho hstays, Service.afterChange_eq, hleaves, hchallenge, hpin, hselection]

end

/-! ### A candidate that stays in use -/

section
variable {s : State} {c k j y : Nat} {old new : CandidateConfig} {fields : List (Nat × Nat)}

/-- The resulting record of a candidate that stays in use (R41). -/
def resultingRecord (old : CandidateConfig) (fields : List (Nat × Nat)) : CandidateConfig where
  state := match selected? fields 1 with
    | none => old.state
    | some a => if a = 1 then .ready else if a = 2 then .survey else if a = 4 then .barred else .free
  owner := match selected? fields 2 with | none => old.owner | some a => some a
  source := match selected? fields 3 with | none => old.source | some a => some a
  lanes := match selected? fields 4 with
    | none => old.lanes
    | some n => (List.range n).map fun i => (selected? fields (5 + i)).getD 0xFFFFFFFF
  expected := match selected? fields 13 with
    | none => old.expected
    | some a => if a = 0xFFFFFFFF then none else some a
  weightSet := (selected? fields 14).getD old.weightSet

theorem resultingRecord_parts {owner source expected : Option Nat} (ho : owner = (resultingRecord old fields).owner)
    (hs : source = (resultingRecord old fields).source) (he : expected = (resultingRecord old fields).expected) :
    (⟨(resultingRecord old fields).state, owner, source, (resultingRecord old fields).lanes, expected,
      (selected? fields 14).getD old.weightSet⟩ : CandidateConfig) = resultingRecord old fields := by
  subst ho hs he
  rfl

theorem formCandidate_used (h : (resultingRecord old fields).state ≠ .free) :
    formCandidate old fields = resultingRecord old fields := by
  have hstate : (resultingRecord old fields).state = (selectedState fields).getD old.state := by
    unfold resultingRecord selectedState
    cases selected? fields 1 <;> rfl
  have hlanes : (resultingRecord old fields).lanes = (selectedLanes fields).getD old.lanes := by
    unfold resultingRecord selectedLanes
    cases selected? fields 4 <;> rfl
  have hfree : selectedState fields ≠ some .free := fun hf => h (by rw [hstate, hf]; rfl)
  unfold formCandidate
  rw [if_neg hfree]
  dsimp only
  rw [← hstate, ← hlanes, if_neg fun hc => h hc.1]
  refine resultingRecord_parts ?_ ?_ ?_
  · unfold resultingRecord
    cases selected? fields 2 <;> rfl
  · unfold resultingRecord
    cases selected? fields 3 <;> rfl
  · unfold resultingRecord
    cases selected? fields 13 <;> rfl

/-- What a write names as the owner after it is not ARMED, where the owner before and the resulting owner are not. -/
theorem ownerAfter_resulting (hr : (resultingRecord (s.candidate c).cfg fields).owner = some j)
    (ho : (s.candidate c).cfg.owner = some k) {i : Nat} (hi : ownerAfter s c fields = some i) : i = j ∨ i = k := by
  unfold ownerAfter at hi
  split at hi
  · exact nomatch hi
  · unfold resultingRecord at hr
    cases hsel : selected? fields 2 with
    | none =>
      simp only [hsel] at hi
      exact .inr (Option.some.inj (hi.symm.trans ho))
    | some a =>
      simp only [hsel] at hi hr
      split at hi
      · exact .inl ((Option.some.inj hi).symm.trans (Option.some.inj hr))
      · exact nomatch hi

/-- The record before and after a change of a candidate that stays in use. -/
structure StaysInUse (old new : CandidateConfig) (k j y : Nat) : Prop where
  before : old.state ≠ .free
  owned : old.owner = some k
  after : new.state ≠ .free
  owner : new.owner = some j
  source : new.source = some y

namespace StaysInUse
variable (h : StaysInUse old new k j y)
include h

theorem joins_eq : joins old new = decide (old.owner ≠ new.owner) := by
  have h1 : (new.state != .free) = true := bne_iff_ne.mpr h.after
  have h2 : (old.state == .free) = false := beq_false_of_ne h.before
  rw [joins, h1, h2, Bool.true_and, Bool.false_or, Bool.eq_iff_iff, bne_iff_ne, decide_eq_true_iff]

theorem leaves_eq : leaves old new = decide (old.owner ≠ new.owner) := by
  have h1 : (old.state != .free) = true := bne_iff_ne.mpr h.before
  have h2 : (new.state == .free) = false := beq_false_of_ne h.after
  rw [leaves, h1, h2, Bool.true_and, Bool.false_or, Bool.eq_iff_iff, bne_iff_ne, decide_eq_true_iff]

theorem losesChallenge_eq : losesChallenge old new =
    (decide (old.owner ≠ new.owner) || decide (new.state = .barred ∧ old.state ≠ .barred)) := by
  rw [losesChallenge, h.leaves_eq, Bool.eq_iff_iff]
  simp only [Bool.or_eq_true, Bool.and_eq_true, decide_eq_true_iff, beq_iff_eq, bne_iff_ne]

theorem losesPin_eq : losesPin old new =
    ((decide (old.owner ≠ new.owner) || decide (new.state = .barred ∧ old.state ≠ .barred)) || decide (64 ≤ y)) := by
  have h2 : (new.state == .free) = false := beq_false_of_ne h.after
  rw [losesPin, h2, h.source, Bool.eq_iff_iff]
  simp only [Bool.or_eq_true, Bool.and_eq_true, decide_eq_true_iff, beq_iff_eq, bne_iff_ne, Option.any_some, Bool.false_eq_true]
  tauto

theorem losesSelection_eq : losesSelection old new =
    ((decide (old.owner ≠ new.owner) || decide (new.state = .barred ∧ old.state ≠ .barred)) ||
      decide (old.source ≠ new.source) || decide (old.lanes.head? ≠ new.lanes.head?)) := by
  have h2 : (new.state == .free) = false := beq_false_of_ne h.after
  rw [losesSelection, h2, Bool.eq_iff_iff]
  simp only [Bool.or_eq_true, Bool.and_eq_true, decide_eq_true_iff, beq_iff_eq, bne_iff_ne, Bool.false_eq_true]
  tauto

end StaysInUse

theorem resetsRecord_eq : resetsRecord old new = (decide (old.source ≠ new.source) || decide (old.lanes ≠ new.lanes)) := by
  rw [resetsRecord, Bool.eq_iff_iff]
  simp only [Bool.or_eq_true, decide_eq_true_iff, bne_iff_ne]

end

end Sys2Proof.Machine
end

section
/-! PROOFS. An applied CANDIDATE change of a candidate in use, and O37. -/

namespace Sys2Proof.Machine

/-! ### The parts of a change of a candidate that stays in use -/

section
variable {s : State} {c k j y : Nat} {old new : CandidateConfig}

theorem bne_eq_decide_ne (a b : Option Nat) : (a != b) = decide (a ≠ b) := by
  rw [Bool.eq_iff_iff, bne_iff_ne, decide_eq_true_iff]

theorem Checks.meets_iff (h : s.canonical) : new.lanes.any (laneConflicts s c y) = true ↔
    ∃ a ∈ new.lanes, (∃ i e, s.lanePlace i = some e ∧ e.source = y ∧ e.lane = a ∧ e.candidate ≠ c) ∨
      (y < 12 ∧ (s.port y).cfg.marginLane = some a) ∨
      (64 ≤ y ∧ ((s.port 12).cfg.marginLane = some a ∨ (s.port 13).cfg.marginLane = some a)) ∨
      (y = 14 ∧ s.settings.controlLane = a) := by
  rw [List.any_eq_true]
  exact exists_congr fun a => and_congr_right fun _ => laneConflicts_iff h

theorem Checks.crowded_iff (h : s.laneMapLaw) : 4096 < placesOfOthers s c + new.lanes.length ↔
    4096 + (s.candidate c).cfg.lanes.length < s.laneMap.length + new.lanes.length := by
  have hparts := placesOfOthers_add s c
  have hown : (placesOf c s.laneMap).length = (s.candidate c).cfg.lanes.length := h.2 c
  omega

theorem dwellTouched_iff {p : Nat} (hy : new.source = some y) : dwellTouched s p old new = true ↔
    ∃ e q, (old.source = some (64 + e) ∨ y = 64 + e) ∧
      ((∃ d, (s.sweepPort p).visit = some ⟨e, q, .dwelling d⟩) ∨ (s.sweepPort p).visit = some ⟨e, q, .grading⟩) := by
  rw [dwellTouched, hy, Option.any_some, Bool.or_eq_true, Option.any_eq_true]
  constructor
  · rintro (⟨x, hx, hd⟩ | hd)
    · obtain ⟨e, q, rfl, hvisit⟩ := dwellsOn_iff.mp hd
      exact ⟨e, q, .inl hx, hvisit⟩
    · obtain ⟨e, q, rfl, hvisit⟩ := dwellsOn_iff.mp hd
      exact ⟨e, q, .inr rfl, hvisit⟩
  · rintro ⟨e, q, hx | rfl, hvisit⟩
    · exact .inl ⟨_, hx, dwellsOn_iff.mpr ⟨e, q, rfl, hvisit⟩⟩
    · exact .inr (dwellsOn_iff.mpr ⟨e, q, rfl, hvisit⟩)

theorem laneEntries_getElem? (hy : new.source = some y) (m : Nat) :
    (laneEntries c new)[m]? = new.lanes[m]?.map fun a => ⟨y, a, c, m, none⟩ := by
  unfold laneEntries
  simp only [hy, List.getElem?_map, List.getElem?_zipIdx, Option.map_map, Nat.zero_add]
  rfl

namespace StaysInUse
variable (h : StaysInUse old new k j y)
include h

theorem full_iff : (joins old new = true ∧ 6 ≤ (s.service j).rank.length) ↔
    (decide (old.owner ≠ new.owner) = true ∧ 6 ≤ (s.service j).rank.length) := by
  rw [h.joins_eq]

/-- The record: kept but where the candidate joins, its source or lanes change, or it is barred. -/
theorem record {x : Candidate} (hx : x.cfg = old) : x.afterChange s new = { x with
    cfg := new
    flaps := if decide (old.owner ≠ new.owner) then 0 else x.flaps
    decay := if decide (old.owner ≠ new.owner) then 0 else x.decay
    demoted := if decide (old.owner ≠ new.owner) then false else x.demoted
    quarantine := if new.state = .barred then none else x.quarantine
    directory := if decide (old.owner ≠ new.owner) || decide (old.source ≠ new.source) ||
      decide (old.expected ≠ new.expected) then .unchecked else x.directory
    misses := if decide (old.owner ≠ new.owner) || decide (old.source ≠ new.source) ||
      decide (old.expected ≠ new.expected) then 0 else x.misses
    measured := if decide (old.owner ≠ new.owner) || (decide (old.source ≠ new.source) || decide (old.lanes ≠ new.lanes))
      then .opened s.now else x.measured
    grade := if decide (old.owner ≠ new.owner) || (decide (old.source ≠ new.source) || decide (old.lanes ≠ new.lanes))
      then none else x.grade
    discard12 := (x.afterChange s new).discard12
    discard13 := (x.afterChange s new).discard13 } := by
  subst hx
  rw [Candidate.afterChange_used h.after, h.joins_eq, resetsRecord_eq, bne_eq_decide_ne, bne_eq_decide_ne]

theorem discards {x : Candidate} (hx : x.cfg = old) :
    ((x.afterChange s new).discard12 = true ↔ x.discard12 = true ∨ resetsRecord old new = true ∧ dwellTouched s 12 old new = true) ∧
    ((x.afterChange s new).discard13 = true ↔ x.discard13 = true ∨ resetsRecord old new = true ∧ dwellTouched s 13 old new = true) := by
  subst hx
  rw [Candidate.afterChange_used h.after]
  simp only [Bool.or_eq_true, Bool.and_eq_true, and_self]

/-- A candidate does not join the service it was in. -/
theorem not_joined : ¬(new.owner = some k ∧ joins old new = true) := by
  rintro ⟨ho, hj⟩
  rw [h.joins_eq, decide_eq_true_iff] at hj
  exact hj (h.owned.trans ho.symm)

/-- The fields of the old owner. -/
theorem oldOwner (w : Service) : w.changed c old new k =
    (w.leftBy c (decide (old.owner ≠ new.owner))).stripped c
      (decide (old.owner ≠ new.owner) || decide (new.state = .barred ∧ old.state ≠ .barred))
      ((decide (old.owner ≠ new.owner) || decide (new.state = .barred ∧ old.state ≠ .barred)) || decide (64 ≤ y))
      ((decide (old.owner ≠ new.owner) || decide (new.state = .barred ∧ old.state ≠ .barred)) ||
        decide (old.source ≠ new.source) || decide (old.lanes.head? ≠ new.lanes.head?)) := by
  rw [Service.changed_left w h.owned h.not_joined, Service.afterChange_eq, h.leaves_eq, h.losesChallenge_eq, h.losesPin_eq,
    h.losesSelection_eq]

/-- The rank order of the new owner. -/
theorem newOwner (w : Service) (hj : j ≠ k) : w.changed c old new j = { w with rank := w.rank ++ [c] } := by
  have hne : old.owner ≠ some j := fun ho => hj (Option.some.inj (ho.symm.trans h.owned))
  refine Service.changed_joined w hne h.owner ?_
  rw [h.joins_eq, decide_eq_true_iff, h.owner]
  exact hne

theorem otherOwner (w : Service) {i : Nat} (hk : i ≠ k) (hj : i ≠ j) : w.changed c old new i = w :=
  Service.changed_neither w (fun ho => hk (Option.some.inj (ho.symm.trans h.owned)))
    fun hn => hj (Option.some.inj (hn.1.symm.trans h.owner))

end StaysInUse

/-- The candidate's entries, renewed in the lowest free places, in slot order. -/
theorem LanesAdded.renewed {t : State} {places : List Nat} (hwf : s.lanesWf) (hy : new.source = some y)
    (h : LanesAdded (laneEntries c new) (removeCandidateLanes c s) t places) :
    places.length = new.lanes.length ∧ places.Pairwise (· < ·) ∧
      (∀ m i, places[m]? = some i → t.lanePlace i = new.lanes[m]?.map fun a => ⟨y, a, c, m, none⟩) ∧
      (∀ i, i ∉ places → t.lanePlace i = (s.lanePlace i).bind fun e => if e.candidate = c then none else some e) ∧
      (∀ i ∈ places, (∀ e, s.lanePlace i = some e → e.candidate = c) ∧ ∀ a < i, t.lanePlace a ≠ none) := by
  refine ⟨?length, h.sorted, fun m i hm => (h.placed m i hm).trans (laneEntries_getElem? hy m),
    fun i hi => (h.kept i hi).trans (lanePlace_removeCandidateLanes hwf c i),
    fun i hi => ⟨fun e he => ?freed, (h.lowest i hi).2⟩⟩
  case length =>
    rw [h.length, laneEntries]
    simp only [hy, List.length_map, List.length_zipIdx]
  case freed =>
    have hnone := (h.lowest i hi).1
    rw [lanePlace_removeCandidateLanes hwf, he, Option.bind_some] at hnone
    by_contra hne
    rw [if_neg hne] at hnone
    exact nomatch hnone

end

/-- Settles O37: the checks in their order; then the tables of the application, entry by entry. -/
theorem candidateChange : Obligations.CandidateChange := by
  intro s c k p lane tag level fields rest hr hcan hmap hk hh hc x v u failed joining taken
  have performs (hheld : isHeld s ⟨tag, level, false, c, fields⟩ = false) :
      exec .applyChange s = .next (performChange ⟨tag, level, false, c, fields⟩ u) := by
    rw [exec_applyChange hr, takeHead_performs hc hh hheld]
  have fails {r : CandidateConfig} {why : FailReason} (hheld : isHeld s ⟨tag, level, false, c, fields⟩ = false)
      (hform : formCandidate x.cfg fields = r) (hcheck : checkCandidate s c r = some why) :
      exec .applyChange s = .next (failed why) := by
    subst hform
    rw [performs hheld]
    exact congrArg _ (performChange_candidate (s := u) rfl hcheck)
  have applies {r : CandidateConfig} (hheld : isHeld s ⟨tag, level, false, c, fields⟩ = false)
      (hform : formCandidate x.cfg fields = r) (hcheck : checkCandidate s c r = none) :
      exec .applyChange s = .next (applyCandidate c r u) := by
    subst hform
    rw [performs hheld]
    exact congrArg _ (performChange_candidate_applied (s := u) rfl hcheck)
  have joinedHeld (h : joining) : isHeld s ⟨tag, level, false, c, fields⟩ = false := by
    obtain ⟨rfl, hx, harmed, -⟩ := h
    refine isHeld_candidate_false rfl (fun j ho => ?_) fun j ho => ?_
    · rw [show (s.candidate c).cfg = (Candidate.default c).cfg from congrArg Candidate.cfg hx] at ho
      exact nomatch ho
    · have hj : ownerAfter s c [(1, 1), (2, k), (3, p), (4, 1), (5, lane)] = some k := if_pos hk
      cases hj.symm.trans ho
      exact harmed
  have joinedForm (h : joining) : formCandidate x.cfg fields = joinedConfig k p lane := by
    obtain ⟨rfl, hx, -, -⟩ := h
    rw [hx]
    exact formCandidate_joins k p lane
  have checks : Checks s c k p (joinedConfig k p lane) := ⟨nofun, rfl, rfl⟩
  have suits : stateSuits (joinedConfig k p lane) = true ↔ p < 12 ∨ p = 14 := by
    rw [stateSuits_iff checks.state checks.owner checks.source]
    simp [joinedConfig]
  have joins (h : joining) : Machine.joins x.cfg (joinedConfig k p lane) = true := by
    rw [h.2.1]
    rfl
  have conflicts (h : joining) (hp : p < 12 ∨ p = 14) :
      (joinedConfig k p lane).lanes.any (laneConflicts s c p) = true ↔ taken := by
    have hsingle : (joinedConfig k p lane).lanes.any (laneConflicts s c p) = laneConflicts s c p lane := Bool.or_false _
    rw [hsingle, laneConflicts_iff hcan]
    have h64 : ¬64 ≤ p := by omega
    simp only [h64, false_and, false_or]
    refine or_congr (exists_congr fun i => exists_congr fun e => and_congr_right fun he => ?_) Iff.rfl
    simp only [h.2.2.2 i e he, ne_eq, not_false_eq_true, and_true]
  have others (h : joining) : placesOfOthers s c = s.laneMap.length := placesOfOthers_all hcan.2.1 h.2.2.2
  refine ⟨fun h hu => fails (joinedHeld h) (joinedForm h) (checks.noOwner hu),
    fun h hu hp => fails (joinedHeld h) (joinedForm h) (checks.stateMismatch hu (mt suits.mp (by omega))),
    fun h hu hp hfull => fails (joinedHeld h) (joinedForm h) (checks.listFull hu (suits.mpr hp) ⟨joins h, hfull⟩),
    fun h hu hp hroom ht => fails (joinedHeld h) (joinedForm h) (checks.laneConflict hu (suits.mpr hp)
      (fun hf => absurd hf.2 (Nat.not_le.mpr hroom)) ((conflicts h hp).mpr ht)),
    fun h hu hp hroom ht hm => fails (joinedHeld h) (joinedForm h) (checks.mapFull hu (suits.mpr hp)
      (fun hf => absurd hf.2 (Nat.not_le.mpr hroom)) (mt (conflicts h hp).mp ht) ?mapFull),
    fun i h hu hp hroom ht hm hfree hbelow => ?joined, fun hf hst hso ho harmed => ?freed, ?changed⟩
  case mapFull =>
    rw [others h]
    exact Nat.lt_succ_of_le hm
  case joined =>
    have hx : x = Candidate.default c := h.2.1
    have hnone : (u.candidate c).cfg.owner = none := by
      rw [show (u.candidate c).cfg = (Candidate.default c).cfg from congrArg Candidate.cfg hx]
      rfl
    have hold (j : Nat) : (u.candidate c).cfg.owner ≠ some j := hnone ▸ nofun
    have hexec := applies (joinedHeld h) (joinedForm h) (checks.passes hu (suits.mpr hp)
      (fun hf => absurd hf.2 (Nat.not_le.mpr hroom)) (mt (conflicts h hp).mp ht)
      (by rw [others h]; exact Nat.not_lt.mpr (Nat.succ_le_of_lt hm)))
    have hresets : resetsRecord (u.candidate c).cfg (joinedConfig k p lane) = true := by
      rw [show (u.candidate c).cfg = (Candidate.default c).cfg from congrArg Candidate.cfg hx]
      rfl
    obtain ⟨candidates, services, -⟩ := applyCandidate_tables c (joinedConfig k p lane) u
    obtain ⟨places, added⟩ := applyCandidate_lanes (s := u) (new := joinedConfig k p lane) hcan hresets
    have removed := removeCandidateLanes_absent (s := u) hcan.2.1 h.2.2.2
    have hsent : (applyCandidate c (joinedConfig k p lane) u).inFlight = s.inFlight := by
      rw [applyCandidate_inFlight, candidateSends_unowned hnone, List.append_nil]
    have frame := applyCandidate_frame c (joinedConfig k p lane) u
    rw [hsent] at frame
    generalize applyCandidate c (joinedConfig k p lane) u = t at hexec candidates services added frame
    obtain ⟨hplace, hkept⟩ := added.lone ((removed i).trans hfree) fun j hj => (removed j).symm ▸ hbelow j hj
    refine ⟨t, hexec, ?record, ?service, hplace, fun d hd => (candidates d).trans (if_neg hd), fun j hj => ?others,
      fun j hj => (hkept j hj).trans (removed j), frame⟩
    case record =>
      have hchanged : x.afterChange u (joinedConfig k p lane) = { x with
          cfg := joinedConfig k p lane, measured := .opened s.now } := by
        rw [hx]
        exact afterChange_joins (by omega)
      exact ((candidates c).trans (if_pos rfl)).trans hchanged
    case service => exact (services k).trans (Service.changed_joined _ (hold k) rfl (joins h))
    case others =>
      exact (services j).trans (Service.changed_neither _ (hold j) fun hn => hj (Option.some.inj hn.1).symm)
  case freed =>
    subst hf
    have hheld : isHeld s ⟨tag, level, false, c, [(1, 0)]⟩ = false :=
      isHeld_candidate_false rfl (fun j hj => Option.some.inj (ho.symm.trans hj) ▸ harmed) nofun
    have hexec := applies hheld (if_pos rfl) (checkCandidate_free hmap)
    have hresets : resetsRecord (u.candidate c).cfg .free = true :=
      Bool.or_eq_true_iff.mpr (.inl (bne_iff_ne.mpr hso))
    obtain ⟨candidates, services, -⟩ := applyCandidate_tables c .free u
    obtain ⟨places, added⟩ := applyCandidate_lanes (s := u) (new := .free) hcan hresets
    have hservice := (services k).trans (Service.changed_free (v : Service) hst ho)
    have hsent := (applyCandidate_inFlight c .free u).trans (congrArg _ (applyCandidate_sends (s := u) ho))
    have frame := applyCandidate_frame c .free u
    rw [hservice] at hsent
    generalize applyCandidate c .free u = t at hexec candidates services added hservice hsent frame
    obtain rfl := List.length_eq_zero_iff.mp added.length
    refine ⟨t, hexec, (candidates c).trans (if_pos rfl), fun d hd => (candidates d).trans (if_neg hd),
      fun i => (added.kept i List.not_mem_nil).trans (lanePlace_removeCandidateLanes (s := u) hcan.2.1 c i), ?_⟩
    rw [hservice]
    have strip (o : Option Nat) : (if true && decide (o = some c) then none else o) = if o = some c then none else o := by
      simp
    refine ⟨rfl, rfl, strip v.selected, strip v.pinned, strip v.challenger, strip v.advisory, fun j hj => ?others,
      fun hsel => ?silent, fun hsel hactive hpin => ?sends, frame⟩
    case others =>
      exact (services j).trans (Service.changed_neither _ (fun hc => hj (Option.some.inj (hc.symm.trans ho)))
        fun h => nomatch h.1)
    case silent =>
      rw [hsent, if_neg fun h => hsel h.1]
      exact List.append_nil _
    case sends =>
      have hnopin : ((v.leftBy c true).stripped c true true true).pinned = none := by
        refine (strip v.pinned).trans ?_
        rcases hpin with hpin | hpin
        · rw [hpin]
          rfl
        · exact if_pos hpin
      rw [hsent, if_pos ⟨hsel, rfl, hactive⟩, hnopin]
      show s.inFlight ++ [match s.firstEligible (v.rank.erase c) [c] with
        | some e => Instr.switchRequest k e .urgent
        | none => .darkArrival k] = _
      cases s.firstEligible (v.rank.erase c) [c] <;> rfl
  case changed =>
    intro old given r changes joined moved reset barredNow suits full meets crowded
    have stays {j y : Nat} (hch : changes j y) : StaysInUse x.cfg r k j y := by
      obtain ⟨hbefore, howned, -, hafter, howner, -, hsource, -⟩ := hch
      exact ⟨hbefore, howned, hafter, howner, hsource⟩
    have formed {j y : Nat} (hch : changes j y) : formCandidate x.cfg fields = r := formCandidate_used (stays hch).after
    have free {j y : Nat} (hch : changes j y) : isHeld s ⟨tag, level, false, c, fields⟩ = false := by
      obtain ⟨-, howned, harmed, -, howner, hnew, -, -⟩ := hch
      refine isHeld_candidate_false rfl (fun i hi => ?_) fun i hi => ?_
      · exact Option.some.inj (howned.symm.trans hi) ▸ harmed
      · rcases ownerAfter_resulting howner howned hi with rfl | rfl
        · exact hnew
        · exact harmed
    have checks {j y : Nat} (hch : changes j y) : Checks s c j y r :=
      ⟨(stays hch).after, (stays hch).owner, (stays hch).source⟩
    have suited {j y : Nat} (hch : changes j y) : stateSuits r = true ↔ suits y :=
      stateSuits_iff (stays hch).after (stays hch).owner (stays hch).source
    have notFull {j y : Nat} (hch : changes j y) (hf : ¬full j) :
        ¬(Machine.joins x.cfg r = true ∧ 6 ≤ (s.service j).rank.length) := mt (stays hch).full_iff.mp hf
    have met {y : Nat} : r.lanes.any (laneConflicts s c y) = true ↔ meets y := Checks.meets_iff hcan
    have overfull {j y : Nat} (hch : changes j y) : 4096 < placesOfOthers s c + r.lanes.length ↔ crowded := by
      obtain ⟨-, -, -, -, -, -, -, hlaw⟩ := hch
      exact Checks.crowded_iff hlaw
    refine ⟨fun j y hch hu => fails (free hch) (formed hch) ((checks hch).noOwner hu), fun j y hch hu =>
      ⟨fun hs => fails (free hch) (formed hch) ((checks hch).stateMismatch hu (mt (suited hch).mp hs)),
      fun hs hf => fails (free hch) (formed hch) ((checks hch).listFull hu ((suited hch).mpr hs)
        ((stays hch).full_iff.mpr hf)),
      fun hs hf hm => fails (free hch) (formed hch) ((checks hch).laneConflict hu ((suited hch).mpr hs) (notFull hch hf)
        (met.mpr hm)),
      fun hs hf hm hcr => fails (free hch) (formed hch) ((checks hch).mapFull hu ((suited hch).mpr hs) (notFull hch hf)
        (mt met.mp hm) ((overfull hch).mpr hcr)),
      fun hs hf hm hcr => ?applied⟩⟩
    have hexec := applies (free hch) (formed hch) ((checks hch).passes hu ((suited hch).mpr hs) (notFull hch hf)
      (mt met.mp hm) (mt (overfull hch).mp hcr))
    have hin := stays hch
    obtain ⟨candidates, services, -⟩ := applyCandidate_tables c r u
    have hrecord := (candidates c).trans (if_pos rfl)
    have hreset : resetsRecord (u.candidate c).cfg r = reset := resetsRecord_eq
    have kept (hno : reset = false) := applyCandidate_sameLanes (s := u) (hreset.trans hno)
    have renewed (hyes : reset = true) := applyCandidate_lanes (s := u) (new := r) hcan (hreset.trans hyes)
    have hservice := (services k).trans (hin.oldOwner v)
    have hlost := hin.losesSelection_eq
    have hsent := (applyCandidate_inFlight c r u).trans (congrArg _ (applyCandidate_sends (s := u) hin.owned))
    have frame := applyCandidate_frame c r u
    rw [hservice, show losesSelection (u.candidate c).cfg r = _ from hlost] at hsent
    generalize applyCandidate c r u = t at hexec candidates services hrecord kept renewed hservice hsent frame
    refine ⟨t, hexec, ?record, ?discards, fun d hd => (candidates d).trans (if_neg hd), kept, fun hyes => ?lanes, ⟨hservice,
      fun hj => (services j).trans (hin.newOwner _ hj), fun i hk hj => (services i).trans (hin.otherOwner _ hk hj),
      fun hsilent => ?silent, fun hsel hlost hactive => ?sends⟩, frame⟩
    case record =>
      rw [hrecord]
      exact hin.record rfl
    case discards =>
      obtain ⟨h12, h13⟩ := hin.discards (s := u) (x := x) rfl
      rw [hrecord]
      refine ⟨h12.trans ?_, h13.trans ?_⟩
      · exact or_congr_right (and_congr (hreset ▸ Iff.rfl) (dwellTouched_iff hin.source))
      · exact or_congr_right (and_congr (hreset ▸ Iff.rfl) (dwellTouched_iff hin.source))
    case lanes =>
      obtain ⟨places, added⟩ := renewed hyes
      exact ⟨places, added.renewed (s := u) hcan.2.1 hin.source⟩
    case silent =>
      rw [hsent, if_neg ?_]
      · exact List.append_nil _
      · rintro ⟨hsel, hl, hactive⟩
        rcases hsilent with hno | hno | hno
        · exact hno hsel
        · exact nomatch hl.symm.trans hno
        · exact hno hactive
    case sends =>
      rw [hsent, if_pos ⟨hsel, hlost, hactive⟩]
      rfl

end Sys2Proof.Machine
end

section
/-! PROOFS. Steps 4 to 6 of a ranking: the dark flag, the decision on the selection, and the advisory check (O26). -/

namespace Sys2Proof.Machine

/-! ### States that differ in one candidate and one service -/

namespace Rewritten
variable {s t u : State} {c k : Nat} {y y' : Candidate} {w w' : Service} {l l' : List Instr}

theorem refl (s : State) (c k : Nat) : Rewritten s s c k (s.candidate c) (s.service k) [] :=
  ⟨rfl, fun _ _ => rfl, rfl, fun _ _ => rfl, (List.append_nil _).symm, rfl, rfl⟩

theorem trans (h : Rewritten s t c k y w l) (h' : Rewritten t u c k y' w' l') : Rewritten s u c k y' w' (l ++ l') where
  candidate := h'.candidate
  candidates d hd := (h'.candidates d hd).trans (h.candidates d hd)
  service := h'.service
  services j hj := (h'.services j hj).trans (h.services j hj)
  inFlight := by rw [h'.inFlight, h.inFlight, List.append_assoc]
  mask := h'.mask.trans h.mask
  now := h'.now.trans h.now

theorem clock (h : Rewritten s t c k y w l) : t.clock = s.clock := clock_of_rankMask h.mask h.now

variable (h : Rewritten s t c k y w l)
include h

theorem gradeOf (hy : y.grade = (s.candidate c).grade) (d : Nat) : t.gradeOf d = s.gradeOf d := by
  unfold State.gradeOf
  by_cases hd : d = c
  · rw [hd, h.candidate, hy]
  · rw [h.candidates d hd]

variable (hw : w.cfg.minGrade = (s.service k).cfg.minGrade)
include hw

/-- A candidate whose configuration, grade and quarantine stand is judged as before. -/
theorem eligible_same (hcfg : y.cfg = (s.candidate c).cfg) (hg : y.grade = (s.candidate c).grade)
    (hq : y.quarantine = (s.candidate c).quarantine) : t.eligible = s.eligible := by
  funext d
  by_cases hd : d = c
  · have hmin (j : Nat) : (t.service j).cfg.minGrade = (s.service j).cfg.minGrade := by
      by_cases hj : j = k
      · rw [hj, h.service, hw]
      · rw [h.services j hj]
    unfold State.eligible State.isReady State.gradePasses State.inOutage State.minimumGrade
    simp only [hd, h.candidate, hcfg, hg, hq, h.port, hmin]
  · exact h.eligible hw hd

/-- A candidate that is eligible in neither state. -/
theorem eligible_neither (hs : s.eligible c = false) (ht : t.eligible c = false) : t.eligible = s.eligible := by
  funext d
  by_cases hd : d = c
  · rw [hd, hs, ht]
  · exact h.eligible hw hd

end Rewritten

theorem State.firstEligible_congr {s t : State} (h : t.eligible = s.eligible) (order except : List Nat) :
    t.firstEligible order except = s.firstEligible order except := by
  unfold State.firstEligible
  rw [h]

/-! ### Step 4: the dark flag (R82) -/

/-- The notice of step 4. -/
def darkNotice (k : Nat) (v : Service) (none : Bool) (z : IntervalStamp) : List Instr :=
  if none && !v.dark then [.noticePost (.dark k v.cfg.broadcast) z]
  else if !none && v.dark then [.noticePost (.restored k v.cfg.broadcast) z] else []

theorem darkAtRanking_rewrites {s : State} {k : Nat} (hs : (s.service k).cfg.state = .active) :
    Rewritten s (darkAtRanking k s) 0 k (s.candidate 0)
      { s.service k with dark := (s.firstEligible (s.service k).rank []).isNone }
      (darkNotice k (s.service k) (s.firstEligible (s.service k).rank []).isNone s.clock) := by
  have start := Rewritten.refl s 0 k
  have kept {b : Bool} (hd : (s.service k).dark = b) : { s.service k with dark := b } = s.service k := by rw [← hd]
  cases hf : s.firstEligible (s.service k).rank [] with
  | none =>
    have step : darkAtRanking k s = goDark k s := by simp only [darkAtRanking, hf]
    rw [step]
    cases hd : (s.service k).dark with
    | false =>
      rw [goDark_lit hs hd, darkNotice, hd]
      exact (start.setService _).post _
    | true =>
      rw [goDark_of_dark (.inr hd), darkNotice, hd, Option.isNone_none, kept hd]
      exact start
  | some e =>
    cases hd : (s.service k).dark with
    | false =>
      have step : darkAtRanking k s = s := by simp [darkAtRanking, hf, hd]
      rw [step, darkNotice, hd, Option.isNone_some, kept hd]
      exact start
    | true =>
      have step : darkAtRanking k s =
          (s.setService k { s.service k with dark := false }).post (.restored k (s.service k).cfg.broadcast) := by
        simp [darkAtRanking, hf, hd]
      rw [step, darkNotice, hd]
      exact (start.setService _).post _

/-! ### Step 5: the decision (R83 to R85) -/

section
variable {s : State} {k c e : Nat}

theorem decideSelection_pinned (h : (s.service k).pinned.isSome = true) :
    decideSelection k s = (s.setService k (s.service k).clearChallenge, []) := if_pos h

section
variable (hp : (s.service k).pinned = none)
include hp

theorem decideSelection_armed (h : (s.service k).armed.isSome = true) : decideSelection k s = (s, []) := by
  simp [decideSelection, hp, h]

variable (ha : (s.service k).armed = none)
include ha

theorem decideSelection_steady : decideSelection k s = selectionDecision k s := by
  simp [decideSelection, hp, ha]

theorem decideSelection_nobody (h : s.firstEligible (s.service k).rank [] = none) :
    decideSelection k s = (s.setService k (s.service k).clearChallenge, []) := by
  rw [decideSelection_steady hp ha]
  unfold selectionDecision
  cases hs : (s.service k).selected <;> simp only [hs, h]

theorem decideSelection_first (hs : (s.service k).selected = none) (h : s.firstEligible (s.service k).rank [] = some e) :
    decideSelection k s = (s.setService k (s.service k).clearChallenge, [.switchRequest k e .first]) := by
  rw [decideSelection_steady hp ha]
  unfold selectionDecision
  simp only [hs, h]

variable (hs : (s.service k).selected = some c) (h : s.firstEligible (s.service k).rank [] = some e)
include hs h

theorem decideSelection_urgent (hc : s.eligible c = false) : decideSelection k s =
    (if failsByGrade s c then countFlap c (s.setService k (s.service k).clearChallenge)
      else s.setService k (s.service k).clearChallenge, [.switchRequest k e .urgent]) := by
  rw [decideSelection_steady hp ha]
  unfold selectionDecision
  simp only [hs, h, hc, Bool.false_eq_true, if_false]

/-- Whether the first eligible member challenges the selection at this ranking (R84). -/
def State.challenges (s : State) (k c e : Nat) : Bool :=
  e != c && decide (s.gradeOf c + (s.service k).cfg.hysteresis ≤ s.gradeOf e)

theorem decideSelection_challenge (hc : s.eligible c = true) : decideSelection k s =
    (s.setService k ((s.service k).challengeTest (s.challenges k c e) e),
      if s.challenges k c e = true ∧ ((s.service k).challengeTest (s.challenges k c e) e).cfg.confirm ≤
        ((s.service k).challengeTest (s.challenges k c e) e).streak then [.switchRequest k e .challenge] else []) := by
  rw [decideSelection_steady hp ha]
  unfold selectionDecision
  simp only [hs, h, hc, if_true]
  rfl

end

end

/-! ### A flap against the selection (R87) -/

/-- The record of a candidate against which a ranking has counted a flap, below the flap limit or at it. -/
def Candidate.charged (x : Candidate) (limit duration : Nat) : Candidate :=
  if limit ≤ x.flaps + 1 then x.flapped.quarantined .flap duration else x.flapped

/-- The selection fails by its grade while another member is eligible: a flap is counted against it (R83, R87). -/
def State.Charged (s : State) (k c : Nat) : Prop :=
  (s.service k).pinned = none ∧ (s.service k).armed = none ∧ (s.service k).selected = some c ∧
    s.firstEligible (s.service k).rank [] ≠ none ∧ s.eligible c = false ∧ failsByGrade s c = true

section
variable {s : State} {k c e : Nat}

theorem failsByGrade_iff (hq : (s.candidate c).quarantine = none) (ho : (s.candidate c).cfg.owner = some k) :
    failsByGrade s c = true ↔ s.inOutage c = false ∧ ∃ g, (s.candidate c).grade = some g ∧
      (g.grade < (s.service k).cfg.minGrade ∨ g.silent = true ∨ g.unlocked = true) := by
  unfold failsByGrade State.gradePasses State.minimumGrade
  cases hg : (s.candidate c).grade with
  | none => simp [hg]
  | some g =>
    simp only [hg, ho, hq, Option.isSome_some, Option.isNone_none, Bool.true_and, Bool.and_true, Bool.and_eq_true,
      Bool.not_eq_true', Option.some.injEq, exists_eq_left', and_comm (a := s.inOutage c = false)]
    refine and_congr_left fun _ => ?_
    rw [Bool.and_eq_false_iff, Bool.and_eq_false_iff, decide_eq_false_iff_not, Nat.not_le, Bool.not_eq_false', Bool.not_eq_false',
      or_assoc]

theorem countFlap_rewrites (hq : (s.candidate c).quarantine = none) (ho : (s.candidate c).cfg.owner = some k)
    (ha : (s.service k).armed = none) : Rewritten s (countFlap c s) c k
      ((s.candidate c).charged s.settings.flapLimit s.settings.quarantineDuration)
      (if s.settings.flapLimit ≤ (s.candidate c).flaps + 1 then (s.service k).released c else s.service k)
      (if s.settings.flapLimit ≤ (s.candidate c).flaps + 1 then [.noticePost (.quarantined c .flap) s.clock] else []) := by
  have flapped := Rewritten.flapped s c k
  by_cases hf : s.settings.flapLimit ≤ (s.candidate c).flaps + 1
  · rw [countFlap_quarantined hq hf, Candidate.charged, if_pos hf, if_pos hf, if_pos hf]
    have entered := enterQuarantine_flap (s := s.setCandidate c (s.candidate c).flapped) (c := c) (k := k)
      (by rw [flapped.candidate]; exact ho) (fun a h => nomatch ha.symm.trans h) s.settings.quarantineDuration
    rw [flapped.candidate] at entered
    exact flapped.trans entered
  · rw [countFlap_counted hq (Nat.not_le.mp hf), Candidate.charged, if_neg hf, if_neg hf, if_neg hf]
    exact flapped

/-! ### What step 5 leaves -/

theorem Service.challengeTest_frame (v : Service) (b : Bool) (e : Nat) : v.challengeTest b e = { v with
    challenger := (v.challengeTest b e).challenger, streak := (v.challengeTest b e).streak
    attempts := (v.challengeTest b e).attempts } := by
  unfold Service.challengeTest
  split
  · rfl
  · split <;> rfl

/-- Where no flap is counted the decision rewrites the challenge and nothing else. -/
theorem decideSelection_calm (h : ∀ c, ¬s.Charged k c) : ∃ w, Rewritten s (decideSelection k s).1 0 k (s.candidate 0) w [] ∧
    w = { s.service k with challenger := w.challenger, streak := w.streak, attempts := w.attempts } := by
  have start := Rewritten.refl s 0 k
  have cleared := start.setService (s.service k).clearChallenge
  cases hp : (s.service k).pinned with
  | some d =>
    rw [decideSelection_pinned (by rw [hp]; rfl)]
    exact ⟨_, cleared, rfl⟩
  | none =>
    cases ha : (s.service k).armed with
    | some a =>
      rw [decideSelection_armed hp (by rw [ha]; rfl)]
      exact ⟨_, start, rfl⟩
    | none =>
      cases hf : s.firstEligible (s.service k).rank [] with
      | none =>
        rw [decideSelection_nobody hp ha hf]
        exact ⟨_, cleared, rfl⟩
      | some e =>
        cases hs : (s.service k).selected with
        | none =>
          rw [decideSelection_first hp ha hs hf]
          exact ⟨_, cleared, rfl⟩
        | some c =>
          cases hc : s.eligible c with
          | true =>
            rw [decideSelection_challenge hp ha hs hf hc]
            exact ⟨_, start.setService _, Service.challengeTest_frame ..⟩
          | false =>
            have hfits : ¬failsByGrade s c = true := fun hg => h c ⟨hp, ha, hs, by rw [hf]; exact nofun, hc, hg⟩
            rw [decideSelection_urgent hp ha hs hf hc, if_neg hfits]
            exact ⟨_, cleared, rfl⟩

theorem decideSelection_charged (h : s.Charged k c) (hq : (s.candidate c).quarantine = none)
    (ho : (s.candidate c).cfg.owner = some k) : Rewritten s (decideSelection k s).1 c k
      ((s.candidate c).charged s.settings.flapLimit s.settings.quarantineDuration)
      (if s.settings.flapLimit ≤ (s.candidate c).flaps + 1 then (s.service k).clearChallenge.released c
        else (s.service k).clearChallenge)
      (if s.settings.flapLimit ≤ (s.candidate c).flaps + 1 then [.noticePost (.quarantined c .flap) s.clock] else []) := by
  obtain ⟨hp, ha, hs, hf, hc, hg⟩ := h
  obtain ⟨e, he⟩ := Option.ne_none_iff_exists'.mp hf
  have cleared := (Rewritten.refl s c k).setService (s.service k).clearChallenge
  have counted := countFlap_rewrites (s := s.setService k (s.service k).clearChallenge) (c := c) (k := k) hq ho
    (by rw [cleared.service]; exact ha)
  rw [cleared.service] at counted
  rw [decideSelection_urgent hp ha hs he hc, if_pos hg]
  exact cleared.trans counted

/-- What the decision leaves of a service: a cleared challenge. -/
def Service.Unchallenged (v : Service) : Prop := v.challenger = none ∧ v.streak = 0 ∧ v.attempts = 0

theorem Service.released_unchallenged (v : Service) : (v.clearChallenge.released c).Unchallenged := by
  rw [Service.released_eq]
  exact ⟨rfl, rfl, rfl⟩

theorem decideSelection_urgent_unchallenged (hp : (s.service k).pinned = none) (ha : (s.service k).armed = none)
    (hs : (s.service k).selected = some c) (hf : s.firstEligible (s.service k).rank [] = some e) (hc : s.eligible c = false)
    (hq : (s.candidate c).quarantine = none) (ho : (s.candidate c).cfg.owner = some k) :
    ((decideSelection k s).1.service k).Unchallenged := by
  by_cases hg : failsByGrade s c = true
  · rw [(decideSelection_charged ⟨hp, ha, hs, by rw [hf]; exact nofun, hc, hg⟩ hq ho).service]
    split
    · exact Service.released_unchallenged _
    · exact ⟨rfl, rfl, rfl⟩
  · rw [decideSelection_urgent hp ha hs hf hc, if_neg hg, State.service_setService_same]
    exact ⟨rfl, rfl, rfl⟩

end

/-- What the decision on the selection of service `k` leaves. -/
structure Decided (s t : State) (k : Nat) (l : List Instr) : Prop where
  eligible : t.eligible = s.eligible
  gradeOf : t.gradeOf = s.gradeOf
  charged : ∀ c, s.Charged k c →
    t.candidate c = (s.candidate c).charged s.settings.flapLimit s.settings.quarantineDuration
  uncharged : ∀ c, ¬s.Charged k c → t.candidate c = s.candidate c
  service : t.service k = { s.service k with
    challenger := (t.service k).challenger, streak := (t.service k).streak, attempts := (t.service k).attempts
    advisory := (t.service k).advisory }
  advisory : ∀ c, (t.candidate c).quarantine = none → ((t.service k).advisory = some c ↔ (s.service k).advisory = some c)
  services : ∀ j, j ≠ k → t.service j = s.service j
  inFlight : t.inFlight = s.inFlight ++ l
  posts : ∀ i ∈ l, ∃ c, i = .noticePost (.quarantined c .flap) s.clock
  posted : ∀ c, s.Charged k c → s.settings.flapLimit ≤ (s.candidate c).flaps + 1 →
    .noticePost (.quarantined c .flap) s.clock ∈ l
  mask : rankMask t = rankMask s
  now : t.now = s.now

section
variable {s t : State} {k c : Nat} {w : Service} {l : List Instr}

/-- A rewriting that rewrites no candidate. -/
theorem Rewritten.candidate_same (h : Rewritten s t c k (s.candidate c) w l) (d : Nat) : t.candidate d = s.candidate d := by
  by_cases hd : d = c
  · rw [hd, h.candidate]
  · exact h.candidates d hd

theorem Decided.calm (h : ∀ c, ¬s.Charged k c) (hr : Rewritten s t 0 k (s.candidate 0) w [])
    (hw : w = { s.service k with challenger := w.challenger, streak := w.streak, attempts := w.attempts }) :
    Decided s t k [] := by
  have hmin : w.cfg.minGrade = (s.service k).cfg.minGrade := by rw [hw]
  have hadvisory : w.advisory = (s.service k).advisory := by rw [hw]
  refine ⟨hr.eligible_same hmin rfl rfl rfl, funext (hr.gradeOf rfl), fun c hc => absurd hc (h c),
    fun c _ => hr.candidate_same c, ?service, fun c _ => ?advisory, hr.services, hr.inFlight, nofun, fun c hc => absurd hc (h c),
    hr.mask, hr.now⟩
  case service =>
    rw [hr.service]
    refine hw.trans ?_
    rw [hadvisory]
  case advisory => rw [hr.service, hadvisory]

end

section
variable {s t : State} {k c : Nat} {l : List Instr}

theorem Candidate.charged_below {x : Candidate} {limit duration : Nat} (h : ¬limit ≤ x.flaps + 1) :
    x.charged limit duration = x.flapped := if_neg h

theorem Candidate.charged_full {x : Candidate} {limit duration : Nat} (h : limit ≤ x.flaps + 1) :
    x.charged limit duration = x.flapped.quarantined .flap duration := if_pos h

theorem Candidate.charged_grade (x : Candidate) (limit duration : Nat) : (x.charged limit duration).grade = x.grade := by
  unfold Candidate.charged
  split <;> rfl

theorem eligible_quarantined (h : (s.candidate c).quarantine.isSome = true) : s.eligible c = false := by
  obtain ⟨q, hq⟩ := Option.isSome_iff_exists.mp h
  simp [State.eligible, State.isReady, hq]

theorem Decided.flap (h : s.Charged k c) (hr : Rewritten s t c k
      ((s.candidate c).charged s.settings.flapLimit s.settings.quarantineDuration)
      (if s.settings.flapLimit ≤ (s.candidate c).flaps + 1 then (s.service k).clearChallenge.released c
        else (s.service k).clearChallenge)
      (if s.settings.flapLimit ≤ (s.candidate c).flaps + 1 then [.noticePost (.quarantined c .flap) s.clock] else [])) :
    Decided s t k
      (if s.settings.flapLimit ≤ (s.candidate c).flaps + 1 then [.noticePost (.quarantined c .flap) s.clock] else []) := by
  obtain ⟨hp, -, hs, -, hc, -⟩ := id h
  have only {d : Nat} (hd : s.Charged k d) : d = c := by
    obtain ⟨-, -, hsel, -⟩ := hd
    exact Option.some.inj (hsel.symm.trans hs)
  have grade : t.gradeOf = s.gradeOf := funext (hr.gradeOf (Candidate.charged_grade ..))
  have charged (d : Nat) (hd : s.Charged k d) :
      t.candidate d = (s.candidate d).charged s.settings.flapLimit s.settings.quarantineDuration := by
    obtain rfl := only hd
    exact hr.candidate
  have uncharged (d : Nat) (hd : ¬s.Charged k d) : t.candidate d = s.candidate d :=
    hr.candidates d fun hdc => hd (hdc ▸ h)
  by_cases hf : s.settings.flapLimit ≤ (s.candidate c).flaps + 1
  · rw [Candidate.charged_full hf, if_pos hf, if_pos hf, Service.released_eq] at hr
    rw [if_pos hf]
    have out : t.eligible c = false := eligible_quarantined (by rw [hr.candidate]; rfl)
    refine ⟨hr.eligible_neither rfl hc out, grade, charged, uncharged, ?_, fun d hd => ?_, hr.services, hr.inFlight,
      fun i hi => ⟨c, List.mem_singleton.mp hi⟩, fun d hd _ => ?_, hr.mask, hr.now⟩
    · rw [hr.service]
      have unpinned : (if (s.service k).clearChallenge.pinned = some c then none else (s.service k).clearChallenge.pinned) =
          (s.service k).pinned := if_neg (by rw [show (s.service k).clearChallenge.pinned = none from hp]; exact nofun)
      rw [unpinned]
      rfl
    · have hne : d ≠ c := by
        rintro rfl
        rw [hr.candidate] at hd
        exact nomatch hd
      rw [hr.service]
      by_cases ha : (s.service k).advisory = some c
      · simp [Service.clearChallenge, ha, hne.symm]
      · simp [Service.clearChallenge, ha]
    · obtain rfl := only hd
      exact List.mem_singleton_self _
  · rw [Candidate.charged_below hf, if_neg hf, if_neg hf] at hr
    rw [if_neg hf]
    refine ⟨hr.eligible_same rfl rfl rfl rfl, grade, charged, uncharged, ?_, fun d hd => ?_, hr.services, hr.inFlight, nofun,
      fun d hd hfull => ?_, hr.mask, hr.now⟩
    · rw [hr.service]
      rfl
    · rw [hr.service]
      rfl
    · obtain rfl := only hd
      exact absurd hfull hf

end

/-- The decision, where the selection is a member that is not quarantined. -/
theorem decideSelection_decided {s : State} {k : Nat} (h : ∀ c, (s.service k).selected = some c →
    (s.candidate c).quarantine = none ∧ (s.candidate c).cfg.owner = some k) : ∃ l, Decided s (decideSelection k s).1 k l := by
  by_cases hcharged : ∃ c, s.Charged k c
  · obtain ⟨c, hc⟩ := hcharged
    obtain ⟨-, -, hs, -⟩ := id hc
    obtain ⟨hq, ho⟩ := h c hs
    exact ⟨_, .flap hc (decideSelection_charged hc hq ho)⟩
  · have calm := not_exists.mp hcharged
    obtain ⟨w, hr, hw⟩ := decideSelection_calm calm
    exact ⟨[], .calm calm hr hw⟩

/-! ### Step 6: the advisory check (R131) -/

theorem advisoryCheck_rewrites (k : Nat) (s : State) : ∃ a l,
    Rewritten s (advisoryCheck k s) 0 k (s.candidate 0) { s.service k with advisory := a } l ∧
      ∀ i ∈ l, ∃ b c x g o, i = .noticePost (.advisory k b c x g o) s.clock := by
  have start := Rewritten.refl s 0 k
  unfold advisoryCheck
  dsimp only
  split
  · exact ⟨_, [], start.setService _, nofun⟩
  · split
    · exact ⟨(s.service k).advisory, [], start, nofun⟩
    · refine ⟨_, _, (start.setService _).post _, fun i hi => ?_⟩
      exact ⟨_, _, _, _, _, List.mem_singleton.mp hi⟩

end Sys2Proof.Machine
end

section
/-! PROOFS. A ranking of an ACTIVE service whose members are not quarantined (O26). -/

namespace Sys2Proof.Machine

/-! ### Steps 1 to 3 without a quarantine -/

section
variable {s : State} {k c : Nat}

theorem foldl_countDown_free {l : List Nat} (h : ∀ c ∈ l, (s.candidate c).quarantine = none) : l.foldl countDown s = s := by
  induction l with
  | nil => rfl
  | cons c l ih =>
    rw [List.foldl_cons, countDown_free s c (h c List.mem_cons_self)]
    exact ih fun d hd => h d (List.mem_cons_of_mem c hd)

variable (h : ∀ c ∈ (s.service k).rank, (s.candidate c).quarantine = none)
include h

theorem rankMembers_silent : (rankMembers k s).inFlight = s.inFlight := by
  rw [rankMembers_inFlight, foldl_countDown_free h]

theorem rankMembers_decayed (hn : (s.service k).rank.Nodup) (c : Nat) : (rankMembers k s).candidate c =
    if c ∈ (s.service k).rank then (s.candidate c).decayed s.settings.flapDecay else s.candidate c := by
  rw [rankMembers_candidate, membersCounted_candidate k s hn]
  split
  next hc => rw [Candidate.countedDown_free (h c hc)]
  next => rfl

end

/-! ### Steps 4 to 6 together -/

theorem decideSelection_requests (k : Nat) (s : State) {i : Instr} (h : i ∈ (decideSelection k s).2) :
    ∃ x q, i = .switchRequest k x q := by
  unfold decideSelection selectionDecision at h
  dsimp only at h
  split at h
  · exact nomatch h
  split at h
  · exact nomatch h
  split at h
  · exact ⟨_, _, List.mem_singleton.mp h⟩
  · exact nomatch h
  · split at h
    · dsimp only at h
      split at h
      · exact ⟨_, _, List.mem_singleton.mp h⟩
      · exact nomatch h
    · exact ⟨_, _, List.mem_singleton.mp h⟩
  · exact nomatch h

/-- The states of steps 4 to 6, and what each sends: `d` after the dark flag, `e` after the decision, `a` after the
advisory check, `t` after the requests of the decision. -/
structure ActiveSteps (s d e a t : State) (k : Nat) (told advised : List Instr) (w : Service) : Prop where
  dark : Rewritten s d 0 k (s.candidate 0) { s.service k with dark := (s.firstEligible (s.service k).rank []).isNone }
    (darkNotice k (s.service k) (s.firstEligible (s.service k).rank []).isNone s.clock)
  decision : e = (decideSelection k d).1
  decided : Decided d e k told
  check : a = advisoryCheck k e
  checked : Rewritten e a 0 k (e.candidate 0) w advised
  service : w = { e.service k with advisory := w.advisory }
  advisories : ∀ i ∈ advised, ∃ b c x g o, i = .noticePost (.advisory k b c x g o) e.clock
  final : t = a.send (decideSelection k d).2

theorem rankActive_steps {s : State} {k : Nat} (hs : (s.service k).cfg.state = .active)
    (h : ∀ c, (s.service k).selected = some c → (s.candidate c).quarantine = none ∧ (s.candidate c).cfg.owner = some k) :
    ∃ d e a told advised w, ActiveSteps s d e a (rankActive k s) k told advised w := by
  have dark := darkAtRanking_rewrites (s := s) (k := k) hs
  obtain ⟨told, decided⟩ := decideSelection_decided (s := darkAtRanking k s) (k := k) fun c hc => by
    rw [dark.candidate_same]
    rw [dark.service] at hc
    exact h c hc
  obtain ⟨x, advised, checked, advisories⟩ := advisoryCheck_rewrites k (decideSelection k (darkAtRanking k s)).1
  exact ⟨_, _, _, told, advised, _, dark, rfl, decided, rfl, checked, rfl, advisories, rfl⟩

namespace ActiveSteps
variable {s d e a t : State} {k : Nat} {told advised : List Instr} {w : Service}
variable (h : ActiveSteps s d e a t k told advised w)
include h

theorem eligible_dark : d.eligible = s.eligible := h.dark.eligible_same rfl rfl rfl rfl

theorem eligible_decided : e.eligible = s.eligible := h.decided.eligible.trans h.eligible_dark

theorem eligible : t.eligible = s.eligible := by
  have hmin : w.cfg.minGrade = (e.service k).cfg.minGrade := by rw [h.service]
  rw [h.final]
  exact (h.checked.eligible_same hmin rfl rfl rfl).trans h.eligible_decided

theorem gradeOf_dark : d.gradeOf = s.gradeOf := funext (h.dark.gradeOf rfl)

theorem gradeOf_decided : e.gradeOf = s.gradeOf := h.decided.gradeOf.trans h.gradeOf_dark

theorem gradeOf : t.gradeOf = s.gradeOf := by
  rw [h.final]
  exact (funext (h.checked.gradeOf rfl)).trans h.gradeOf_decided

theorem settings : e.settings = s.settings :=
  (congrArg State.settings (h.decided.mask.trans h.dark.mask) :)

theorem clock_dark : d.clock = s.clock := h.dark.clock

theorem clock_decided : e.clock = s.clock := (clock_of_rankMask h.decided.mask h.decided.now).trans h.clock_dark

theorem candidate (c : Nat) : t.candidate c = e.candidate c := by
  rw [h.final]
  exact h.checked.candidate_same c

theorem service_checked : t.service k = w := by
  rw [h.final]
  exact h.checked.service

theorem challenge : (t.service k).challenger = (e.service k).challenger ∧ (t.service k).streak = (e.service k).streak ∧
    (t.service k).attempts = (e.service k).attempts := by
  rw [h.service_checked, h.service]
  exact ⟨rfl, rfl, rfl⟩

theorem service_decided : e.service k = { s.service k with
    dark := (s.firstEligible (s.service k).rank []).isNone
    challenger := (e.service k).challenger, streak := (e.service k).streak, attempts := (e.service k).attempts
    advisory := (e.service k).advisory } := by
  refine h.decided.service.trans ?_
  rw [h.dark.service]

theorem service_left : t.service k = { s.service k with
    dark := (s.firstEligible (s.service k).rank []).isNone
    challenger := (t.service k).challenger, streak := (t.service k).streak, attempts := (t.service k).attempts
    advisory := (t.service k).advisory } := by
  have hw := h.service
  rw [h.service_decided] at hw
  obtain ⟨hchallenger, hstreak, hattempts⟩ := h.challenge
  rw [hchallenger, hstreak, hattempts, h.service_checked]
  exact hw

theorem services (j : Nat) (hj : j ≠ k) : t.service j = s.service j := by
  rw [h.final]
  exact (h.checked.services j hj).trans ((h.decided.services j hj).trans (h.dark.services j hj))

theorem frame : rankMask t = rankMask s ∧ t.now = s.now := by
  rw [h.final]
  exact ⟨h.checked.mask.trans (h.decided.mask.trans h.dark.mask), h.checked.now.trans (h.decided.now.trans h.dark.now)⟩

theorem inFlight : t.inFlight = s.inFlight ++ darkNotice k (s.service k) (s.firstEligible (s.service k).rank []).isNone s.clock ++
    told ++ advised ++ (decideSelection k d).2 := by
  rw [← h.dark.inFlight, ← h.decided.inFlight, ← h.checked.inFlight, h.final]
  rfl

theorem requests : ∃ l, t.inFlight = l ++ (decideSelection k d).2 := ⟨_, h.inFlight⟩

theorem mem_inFlight {i : Instr} : i ∈ t.inFlight ↔ i ∈ s.inFlight ∨
    i ∈ darkNotice k (s.service k) (s.firstEligible (s.service k).rank []).isNone s.clock ∨ i ∈ told ∨ i ∈ advised ∨
      i ∈ (decideSelection k d).2 := by
  rw [h.inFlight]
  simp only [List.mem_append, or_assoc]

end ActiveSteps

theorem mem_darkNotice {k : Nat} {v : Service} {b : Bool} {z : IntervalStamp} {i : Instr} (h : i ∈ darkNotice k v b z) :
    i = .noticePost (.dark k v.cfg.broadcast) z ∨ i = .noticePost (.restored k v.cfg.broadcast) z := by
  unfold darkNotice at h
  split at h
  · exact .inl (List.mem_singleton.mp h)
  · split at h
    · exact .inr (List.mem_singleton.mp h)
    · exact nomatch h

namespace ActiveSteps
variable {s d e a t : State} {k : Nat} {told advised : List Instr} {w : Service}
variable (h : ActiveSteps s d e a t k told advised w)
include h

/-- A request that the ranking did not find in flight is the decision's. -/
theorem request_mem {x : Nat} {q : SwitchCause} (hi : .switchRequest k x q ∈ t.inFlight) :
    .switchRequest k x q ∈ s.inFlight ∨ .switchRequest k x q ∈ (decideSelection k d).2 := by
  rcases h.mem_inFlight.mp hi with hi | hi | hi | hi | hi
  · exact .inl hi
  · rcases mem_darkNotice hi with hn | hn <;> exact nomatch hn
  · obtain ⟨c, hn⟩ := h.decided.posts _ hi
    exact nomatch hn
  · obtain ⟨b, c, x, g, o, hn⟩ := h.advisories _ hi
    exact nomatch hn
  · exact .inr hi

/-- An advisory that the ranking did not find in flight is the check's. -/
theorem advisory_mem {j b c x g : Nat} {o : Option Nat} {z : IntervalStamp}
    (hi : .noticePost (.advisory j b c x g o) z ∈ t.inFlight) :
    .noticePost (.advisory j b c x g o) z ∈ s.inFlight ∨ .noticePost (.advisory j b c x g o) z ∈ advised := by
  rcases h.mem_inFlight.mp hi with hi | hi | hi | hi | hi
  · exact .inl hi
  · rcases mem_darkNotice hi with hn | hn <;> exact nomatch hn
  · obtain ⟨c, hn⟩ := h.decided.posts _ hi
    exact nomatch hn
  · exact .inr hi
  · obtain ⟨y, q, hn⟩ := decideSelection_requests k d hi
    exact nomatch hn

end ActiveSteps

end Sys2Proof.Machine
end

section
/-! PROOFS. The outcomes of a ranking of an ACTIVE service, and O26. -/

namespace Sys2Proof.Machine

/-! ### The challenge test (R84) -/

section
variable {v : Service} {e : Nat}

theorem Service.challengeTest_fails : v.challengeTest false e = v.clearChallenge := rfl

theorem Service.challengeTest_again (h : v.challenger = some e) :
    v.challengeTest true e = { v with streak := min 15 (v.streak + 1) } := by simp [challengeTest, h]

theorem Service.challengeTest_new (h : v.challenger ≠ some e) :
    v.challengeTest true e = { v with challenger := some e, streak := 1, attempts := 0 } := by simp [challengeTest, h]

theorem Service.challengeTest_challenger (v : Service) (e : Nat) : (v.challengeTest true e).challenger = some e := by
  by_cases h : v.challenger = some e
  · rw [Service.challengeTest_again h]
    exact h
  · rw [Service.challengeTest_new h]

theorem State.challenges_iff {s : State} {k c : Nat} : s.challenges k c e = true ↔
    e ≠ c ∧ s.gradeOf c + (s.service k).cfg.hysteresis ≤ s.gradeOf e := by
  rw [State.challenges, Bool.and_eq_true, bne_iff_ne, decide_eq_true_iff]

end

/-! ### The outcome of step 5, by the state of the service -/

namespace ActiveSteps
variable {s d e a t : State} {k c x : Nat} {told advised : List Instr} {w : Service}
variable (h : ActiveSteps s d e a t k told advised w)
include h

theorem first_dark : d.firstEligible (d.service k).rank [] = s.firstEligible (s.service k).rank [] := by
  rw [h.dark.service]
  exact State.firstEligible_congr h.eligible_dark _ _

theorem first_decided : e.firstEligible (e.service k).rank [] = s.firstEligible (s.service k).rank [] := by
  rw [h.service_decided]
  exact State.firstEligible_congr h.eligible_decided _ _

theorem first : t.firstEligible (t.service k).rank [] = s.firstEligible (s.service k).rank [] := by
  rw [h.service_left]
  exact State.firstEligible_congr h.eligible _ _

/-- The challenge of the service after the decision is its challenge after the ranking. -/
theorem unchallenged (hu : (e.service k).Unchallenged) : (t.service k).Unchallenged := by
  obtain ⟨hchallenger, hstreak, hattempts⟩ := h.challenge
  rw [Service.Unchallenged, hchallenger, hstreak, hattempts]
  exact hu

theorem unchallenged_cleared (hd : (decideSelection k d).1 = d.setService k (d.service k).clearChallenge) :
    (t.service k).Unchallenged := by
  refine h.unchallenged ?_
  rw [h.decision, hd, State.service_setService_same]
  exact ⟨rfl, rfl, rfl⟩

theorem pinned (hp : (s.service k).pinned.isSome = true) : (t.service k).Unchallenged ∧ (decideSelection k d).2 = [] := by
  have step := decideSelection_pinned (s := d) (k := k) (by rw [h.dark.service]; exact hp)
  exact ⟨h.unchallenged_cleared (congrArg Prod.fst step), congrArg Prod.snd step⟩

variable (hp : (s.service k).pinned = none)
include hp

theorem armed (ha : (s.service k).armed.isSome = true) : (t.service k).challenger = (s.service k).challenger ∧
    (t.service k).streak = (s.service k).streak ∧ (t.service k).attempts = (s.service k).attempts ∧
      (decideSelection k d).2 = [] := by
  have step := decideSelection_armed (s := d) (k := k) (by rw [h.dark.service]; exact hp) (by rw [h.dark.service]; exact ha)
  obtain ⟨hchallenger, hstreak, hattempts⟩ := h.challenge
  rw [hchallenger, hstreak, hattempts, h.decision, step, h.dark.service]
  exact ⟨rfl, rfl, rfl, rfl⟩

variable (ha : (s.service k).armed = none)
include ha

theorem nobody (hf : s.firstEligible (s.service k).rank [] = none) :
    (t.service k).Unchallenged ∧ (decideSelection k d).2 = [] := by
  have step := decideSelection_nobody (s := d) (k := k) (by rw [h.dark.service]; exact hp) (by rw [h.dark.service]; exact ha)
    (h.first_dark.trans hf)
  exact ⟨h.unchallenged_cleared (congrArg Prod.fst step), congrArg Prod.snd step⟩

variable (hf : s.firstEligible (s.service k).rank [] = some x)
include hf

theorem unselected (hs : (s.service k).selected = none) :
    (t.service k).Unchallenged ∧ (decideSelection k d).2 = [.switchRequest k x .first] := by
  have step := decideSelection_first (s := d) (k := k) (by rw [h.dark.service]; exact hp) (by rw [h.dark.service]; exact ha)
    (by rw [h.dark.service]; exact hs) (h.first_dark.trans hf)
  exact ⟨h.unchallenged_cleared (congrArg Prod.fst step), congrArg Prod.snd step⟩

variable (hs : (s.service k).selected = some c)
include hs

theorem urgent (hc : s.eligible c = false) (hq : (s.candidate c).quarantine = none)
    (ho : (s.candidate c).cfg.owner = some k) :
    (t.service k).Unchallenged ∧ (decideSelection k d).2 = [.switchRequest k x .urgent] := by
  have hp' : (d.service k).pinned = none := by rw [h.dark.service]; exact hp
  have ha' : (d.service k).armed = none := by rw [h.dark.service]; exact ha
  have hs' : (d.service k).selected = some c := by rw [h.dark.service]; exact hs
  have hc' : d.eligible c = false := by rw [h.eligible_dark]; exact hc
  have hf' := h.first_dark.trans hf
  refine ⟨h.unchallenged ?_, congrArg Prod.snd (decideSelection_urgent hp' ha' hs' hf' hc')⟩
  rw [h.decision]
  exact decideSelection_urgent_unchallenged hp' ha' hs' hf' hc' (by rw [h.dark.candidate_same]; exact hq)
    (by rw [h.dark.candidate_same]; exact ho)

/-- The challenge test and its request, judged in the state before the dark flag. -/
theorem tested (hc : s.eligible c = true) :
    (t.service k).challenger = ((s.service k).challengeTest (s.challenges k c x) x).challenger ∧
    (t.service k).streak = ((s.service k).challengeTest (s.challenges k c x) x).streak ∧
    (t.service k).attempts = ((s.service k).challengeTest (s.challenges k c x) x).attempts ∧
    (decideSelection k d).2 =
      if s.challenges k c x = true ∧ (s.service k).cfg.confirm ≤ (t.service k).streak then [.switchRequest k x .challenge] else [] := by
  have step := decideSelection_challenge (s := d) (k := k) (by rw [h.dark.service]; exact hp) (by rw [h.dark.service]; exact ha)
    (by rw [h.dark.service]; exact hs) (h.first_dark.trans hf) (by rw [h.eligible_dark]; exact hc)
  have same : d.challenges k c x = s.challenges k c x := by
    unfold State.challenges
    rw [h.gradeOf_dark, h.dark.service]
  obtain ⟨hchallenger, hstreak, hattempts⟩ := h.challenge
  rw [same, h.dark.service] at step
  rw [hchallenger, hstreak, hattempts, h.decision, step, State.service_setService_same]
  cases s.challenges k c x with
  | false => exact ⟨rfl, rfl, rfl, rfl⟩
  | true =>
    by_cases hr : (s.service k).challenger = some x
    · simp [Service.challengeTest_again, hr]
    · simp [Service.challengeTest_new, hr]

end ActiveSteps

/-! ### The outcome of step 6 -/

namespace ActiveSteps
variable {s d e a t : State} {k c : Nat} {told advised : List Instr} {w : Service}
variable (h : ActiveSteps s d e a t k told advised w)
include h

theorem shown_iff (c : Nat) : e.Shown c ↔ t.Shown c := by
  unfold State.Shown
  rw [h.candidate]

theorem rank_decided : (e.service k).rank = (t.service k).rank := by
  rw [h.service_left, h.service_decided]

theorem best_iff : e.Best (e.service k).rank c ↔ t.Best (t.service k).rank c := by
  unfold State.Best
  simp only [h.shown_iff, h.rank_decided, h.gradeOf, h.gradeOf_decided]

theorem leads_iff : e.Leads k c ↔ match t.firstEligible (t.service k).rank [] with
    | some f => t.gradeOf f + s.settings.advisoryMargin ≤ t.gradeOf c
    | none => (s.service k).cfg.minGrade ≤ t.gradeOf c := by
  have hcfg : (e.service k).cfg = (s.service k).cfg := by rw [h.service_decided]
  unfold State.Leads
  rw [h.first_decided, h.first, h.gradeOf, h.gradeOf_decided, h.settings, hcfg] <;> rfl

/-- A check that only rewrites the service advises nobody. -/
theorem unadvised (hs : a = e.setService k { e.service k with advisory := none }) :
    (t.service k).advisory = none ∧ advised = [] := by
  have hservice : w = { e.service k with advisory := none } := by
    rw [← h.checked.service, hs, State.service_setService_same]
  have hflight : e.inFlight = e.inFlight ++ advised := by
    rw [← h.checked.inFlight, hs]
    rfl
  rw [h.service_checked, hservice]
  exact ⟨rfl, List.self_eq_append_right.mp hflight⟩

theorem nobody_shown (hn : ∀ c ∈ (t.service k).rank, ¬t.Shown c) : (t.service k).advisory = none ∧ advised = [] := by
  refine h.unadvised (h.check.trans (advisoryCheck_none fun c hc => ?_))
  rw [h.shown_iff]
  exact hn c (h.rank_decided ▸ hc)

theorem lags (hb : t.Best (t.service k).rank c) (hl : ¬e.Leads k c) : (t.service k).advisory = none ∧ advised = [] :=
  h.unadvised (h.check.trans (advisoryCheck_lags (h.best_iff.mpr hb) hl))

theorem advisory_decided (hq : t.Shown c) : (e.service k).advisory = some c ↔ (s.service k).advisory = some c := by
  obtain ⟨-, hnone, -⟩ := (h.shown_iff c).mpr hq
  rw [h.decided.advisory c hnone, h.dark.service]

theorem leads_stands (hb : t.Best (t.service k).rank c) (hl : e.Leads k c) (hs : (s.service k).advisory = some c) :
    (t.service k).advisory = some c ∧ advised = [] := by
  obtain ⟨-, -, -, hshown, -⟩ := id hb
  have hadv := (h.advisory_decided hshown).mpr hs
  have hstep : a = e := h.check.trans (advisoryCheck_stands (h.best_iff.mpr hb) hl hadv)
  have hflight : e.inFlight = e.inFlight ++ advised := by
    rw [← h.checked.inFlight, hstep]
  rw [h.service_checked, ← h.checked.service, hstep]
  exact ⟨hadv, List.self_eq_append_right.mp hflight⟩

theorem leads_raised (hb : t.Best (t.service k).rank c) (hl : e.Leads k c) (hs : (s.service k).advisory ≠ some c) :
    (t.service k).advisory = some c ∧ .noticePost (.advisory k (s.service k).cfg.broadcast c
      ((t.candidate c).cfg.source.getD 64 - 64) (t.gradeOf c) ((t.firstEligible (t.service k).rank []).map t.gradeOf)) s.clock
        ∈ t.inFlight := by
  obtain ⟨-, -, -, hshown, -⟩ := id hb
  have hstep := h.check.trans (advisoryCheck_raised (h.best_iff.mpr hb) hl (mt (h.advisory_decided hshown).mp hs))
  have hcfg : (e.service k).cfg = (s.service k).cfg := by rw [h.service_decided]
  refine ⟨?_, ?_⟩
  · rw [h.service_checked, ← h.checked.service, hstep]
    exact congrArg Service.advisory (State.service_setService_same ..)
  · have hsent : .noticePost (.advisory k (s.service k).cfg.broadcast c ((t.candidate c).cfg.source.getD 64 - 64) (t.gradeOf c)
        ((t.firstEligible (t.service k).rank []).map t.gradeOf)) s.clock ∈ a.inFlight := by
      rw [h.candidate, h.gradeOf, h.first, ← h.first_decided, ← h.gradeOf_decided, ← hcfg, ← h.clock_decided, hstep]
      exact List.mem_append_right _ (List.mem_singleton_self _)
    have hkept : a.inFlight ⊆ t.inFlight := by
      rw [h.final]
      exact List.subset_append_left _ _
    exact hkept hsent

end ActiveSteps

end Sys2Proof.Machine
end

section
/-! PROOFS. A ranking of an ACTIVE service, from the state it finds (O26). -/

namespace Sys2Proof.Machine

theorem rankService_active {s : State} {k : Nat} (h : (s.service k).cfg.state = .active) :
    rankService k s = rankActive k (rankMembers k s) := by
  simp [rankService, h]

section
variable (x : Candidate) (limit : Nat)

theorem Candidate.decayed_cfg : (x.decayed limit).cfg = x.cfg := by
  unfold decayed
  split
  · rfl
  split
  · rfl
  split <;> rfl

theorem Candidate.decayed_grade : (x.decayed limit).grade = x.grade := by
  unfold decayed
  split
  · rfl
  split
  · rfl
  split <;> rfl

end

section
variable {s : State} {k c : Nat}

theorem rankMembers_port (k : Nat) (s : State) (p : Nat) : (rankMembers k s).port p = s.port p :=
  (congrArg (fun u => State.port u p) (rankMembers_rankMask s k) :)

variable (h : ∀ c ∈ (s.service k).rank, (s.candidate c).quarantine = none) (hn : (s.service k).rank.Nodup)
include h hn

theorem rankMembers_cfg (c : Nat) : ((rankMembers k s).candidate c).cfg = (s.candidate c).cfg := by
  rw [rankMembers_decayed h hn]
  split
  · exact Candidate.decayed_cfg _ _
  · rfl

theorem rankMembers_grade (c : Nat) : ((rankMembers k s).candidate c).grade = (s.candidate c).grade := by
  rw [rankMembers_decayed h hn]
  split
  · exact Candidate.decayed_grade _ _
  · rfl

theorem rankMembers_quarantine (hc : c ∈ (s.service k).rank) : ((rankMembers k s).candidate c).quarantine = none := by
  rw [rankMembers_decayed h hn, if_pos hc, Candidate.decayed_quarantine]
  exact h c hc

theorem rankMembers_inOutage (c : Nat) : (rankMembers k s).inOutage c = s.inOutage c := by
  unfold State.inOutage
  simp only [rankMembers_cfg h hn, rankMembers_port]

end

/-- A flap is counted against the selection, in the terms of the state before the dark flag. -/
theorem ActiveSteps.charged_iff {s d e a t : State} {k c : Nat} {told advised : List Instr} {w : Service}
    (h : ActiveSteps s d e a t k told advised w) (hq : (s.service k).selected = some c →
      (s.candidate c).quarantine = none ∧ (s.candidate c).cfg.owner = some k) :
    d.Charged k c ↔ (s.service k).pinned = none ∧ (s.service k).armed = none ∧ (s.service k).selected = some c ∧
      t.firstEligible (t.service k).rank [] ≠ none ∧ t.eligible c = false ∧ s.inOutage c = false ∧
      ∃ g, (s.candidate c).grade = some g ∧ (g.grade < (s.service k).cfg.minGrade ∨ g.silent = true ∨ g.unlocked = true) := by
  have outage : d.inOutage c = s.inOutage c := by
    unfold State.inOutage
    simp only [h.dark.candidate_same, h.dark.port]
  unfold State.Charged
  rw [h.first_dark, h.first, h.eligible, h.eligible_dark, h.dark.service]
  refine and_congr_right fun _ => and_congr_right fun _ => and_congr_right fun hs => and_congr_right fun _ =>
    and_congr_right fun _ => ?_
  obtain ⟨hnone, howner⟩ := hq hs
  rw [failsByGrade_iff (by rw [h.dark.candidate_same]; exact hnone) (by rw [h.dark.candidate_same]; exact howner), outage,
    h.dark.candidate_same, h.dark.service]

/-- Settles O26: the order is rebuilt from the decayed members, and steps 4 to 6 judge every candidate alike. -/
theorem selectionDecision_spec : Obligations.SelectionDecision := by
  intro s k n hr hk hactive hn hquarantine hselected
  set u := s.take (.serviceGraded k n) with hu
  have hfree : ∀ c ∈ (u.service k).rank, (u.candidate c).quarantine = none := hquarantine
  have ranked : (rankMembers k u).service k = { s.service k with rank := ((rankMembers k u).service k).rank } := by
    rw [rankMembers_service]
    rfl
  obtain ⟨perm, byGrade, stable, others⟩ := rankMembers_order k u
  have members (c : Nat) : (rankMembers k u).candidate c =
      if c ∈ (s.service k).rank then (s.candidate c).decayed s.settings.flapDecay else s.candidate c :=
    rankMembers_decayed hfree hn c
  have owner (c : Nat) (hc : (s.service k).selected = some c) :
      ((rankMembers k u).candidate c).quarantine = none ∧ ((rankMembers k u).candidate c).cfg.owner = some k := by
    obtain ⟨hmem, howner⟩ := hselected c hc
    exact ⟨rankMembers_quarantine hfree hn hmem, by rw [rankMembers_cfg hfree hn]; exact howner⟩
  have outage (c : Nat) : (rankMembers k u).inOutage c = s.inOutage c := rankMembers_inOutage hfree hn c
  have grade (c : Nat) : ((rankMembers k u).candidate c).grade = (s.candidate c).grade := rankMembers_grade hfree hn c
  have flight : (rankMembers k u).inFlight = s.inFlight.erase (.serviceGraded k n) := rankMembers_silent (s := u) hfree
  have services (j : Nat) (hj : j ≠ k) : (rankMembers k u).service j = s.service j := rankMembers_service_other k u hj
  have mask : rankMask (rankMembers k u) = rankMask s := rankMembers_rankMask u k
  have now : (rankMembers k u).now = s.now := rankMembers_now k u
  obtain ⟨d, e, a, told, advised, w, h⟩ := rankActive_steps (s := rankMembers k u) (k := k) (by rw [ranked]; exact hactive)
    fun c hc => owner c (by rw [ranked] at hc; exact hc)
  have hexec : exec (.serviceGraded k n) s = .next (rankActive k (rankMembers k u)) :=
    (exec_serviceGraded hk hr n).trans (congrArg _ (rankService_active (s := u) hactive))
  generalize rankMembers k u = r at ranked perm byGrade stable others members owner outage grade flight services mask now h hexec
  generalize rankActive k r = t at h hexec
  have clock : r.clock = s.clock := clock_of_rankMask mask now
  have settings : r.settings = s.settings := (congrArg State.settings mask :)
  refine ⟨t, hexec, ?_⟩
  intro v w' first asks silent cleared decayed charged shown best leads unadvised
  have firstEq : first = r.firstEligible (r.service k).rank [] := h.first
  have left := h.service_left
  rw [← firstEq, ranked] at left
  have rankEq : w'.rank = (r.service k).rank := by rw [show w' = _ from left]
  have darkEq : w'.dark = first.isNone := by rw [show w' = _ from left]
  have found {x : Option Nat} (hf : first = x) : r.firstEligible (r.service k).rank [] = x := firstEq.symm.trans hf
  have sentBefore {i : Instr} (hi : i ∈ r.inFlight) : i ∈ s.inFlight := List.mem_of_mem_erase (flight ▸ hi)
  have chargedIff (c : Nat) : d.Charged k c ↔ charged c := by
    rw [h.charged_iff fun hc => owner c (by rw [ranked] at hc; exact hc), outage, grade, ranked]
  have silentBy (hreqs : (decideSelection k d).2 = []) : silent := by
    intro x q hi
    rcases h.request_mem hi with hi | hi
    · exact sentBefore hi
    · rw [hreqs] at hi
      exact nomatch hi
  have asksBy {i : Instr} (hreqs : (decideSelection k d).2 = [i]) : asks i := by
    obtain ⟨l, hl⟩ := h.requests
    exact ⟨l, hreqs ▸ hl⟩
  have unadvisedBy (hadv : advised = []) : unadvised := by
    intro _ _ _ _ _ _ _ hi
    rcases h.advisory_mem hi with hi | hi
    · exact sentBefore hi
    · rw [hadv] at hi
      exact nomatch hi
  have config : (r.service k).cfg = v.cfg := by rw [ranked]
  have pinnedEq : (r.service k).pinned = v.pinned := by rw [ranked]
  have armedEq : (r.service k).armed = v.armed := by rw [ranked]
  have selectedEq : (r.service k).selected = v.selected := by rw [ranked]
  have challengerEq : (r.service k).challenger = v.challenger := by rw [ranked]
  have streakEq : (r.service k).streak = v.streak := by rw [ranked]
  have attemptsEq : (r.service k).attempts = v.attempts := by rw [ranked]
  have advisoryEq : (r.service k).advisory = v.advisory := by rw [ranked]
  have darkBefore : (r.service k).dark = v.dark := by rw [ranked]
  have step4 (c : Nat) : d.candidate c = r.candidate c := h.dark.candidate_same c
  have settingsDark : d.settings = s.settings := h.dark.settings.trans settings
  have clockDark : d.clock = s.clock := h.clock_dark.trans clock
  have member {c : Nat} (hc : charged c) : d.candidate c = decayed c := by
    obtain ⟨-, -, hs, -⟩ := hc
    rw [step4, members, if_pos (hselected c hs).1]
    rfl
  have leading {c : Nat} : e.Leads k c ↔ leads c := by
    rw [h.leads_iff, settings, config] <;> rfl
  refine ⟨fun c hc => ?uncharged, fun c hc hf => ?flapped, fun c hc hf => ?quarantined, rankEq ▸ perm, ?sorted, ?stable, ?others,
    ?dark, fun hf hd => ?darkens, fun hf hd => ?restores, ?cfg, ?selected, ?pinned, ?armed, fun hp => ?whilePinned,
    fun hp ha => ?whileArmed, fun hp ha hf => ?nobody, fun x hp ha hs hf => ?unselected, fun x c hp ha hs hf hc => ?urgent,
    fun x c hp ha hs hf hc => ⟨fun hlow => ?unchallenged, fun hne hhigh => ?challenged⟩, fun hn => ?noneShown,
    fun c hb hl => ?lags, fun c hb hl => ⟨?advised, fun ha => ?stands, fun x ha hsource => ?raised⟩, ?service, fun j hj => ?services,
    ?frame⟩
  case uncharged =>
    rw [h.candidate, h.decided.uncharged c (mt (chargedIff c).mp hc), step4, members]
    rfl
  case flapped =>
    rw [h.candidate, h.decided.charged c ((chargedIff c).mpr hc), member hc, settingsDark,
      Candidate.charged_below (Nat.not_le.mpr hf)]
    rfl
  case quarantined =>
    have full : d.settings.flapLimit ≤ (d.candidate c).flaps + 1 := by
      rw [settingsDark, member hc]
      exact hf
    have told := h.decided.posted c ((chargedIff c).mpr hc) full
    rw [clockDark] at told
    refine ⟨?_, h.mem_inFlight.mpr (.inr (.inr (.inl told)))⟩
    rw [h.candidate, h.decided.charged c ((chargedIff c).mpr hc), member hc, settingsDark, Candidate.charged_full hf]
    rfl
  case sorted =>
    rw [rankEq, h.eligible, h.gradeOf]
    exact byGrade
  case stable =>
    rw [rankEq, h.eligible, h.gradeOf]
    exact stable
  case others =>
    rw [rankEq, h.eligible]
    exact others
  case dark => exact darkEq
  case darkens =>
    refine h.mem_inFlight.mpr (.inr (.inl ?_))
    rw [found hf, darkNotice, darkBefore, hd, config, clock]
    exact List.mem_singleton_self _
  case restores =>
    obtain ⟨x, hx⟩ := Option.ne_none_iff_exists'.mp hf
    refine h.mem_inFlight.mpr (.inr (.inl ?_))
    rw [found hx, darkNotice, darkBefore, hd, config, clock]
    exact List.mem_singleton_self _
  case cfg => rw [show w' = _ from left]
  case selected => rw [show w' = _ from left]
  case pinned => rw [show w' = _ from left]
  case armed => rw [show w' = _ from left]
  case whilePinned =>
    obtain ⟨hclear, hreqs⟩ := h.pinned (by rw [pinnedEq]; exact hp)
    exact ⟨hclear, silentBy hreqs⟩
  case whileArmed =>
    obtain ⟨hchallenger, hstreak, hattempts, hreqs⟩ := h.armed (pinnedEq.trans hp) (by rw [armedEq]; exact ha)
    exact ⟨hchallenger.trans challengerEq, hstreak.trans streakEq, hattempts.trans attemptsEq, silentBy hreqs⟩
  case nobody =>
    obtain ⟨hclear, hreqs⟩ := h.nobody (pinnedEq.trans hp) (armedEq.trans ha) (found hf)
    exact ⟨hclear, silentBy hreqs⟩
  case unselected =>
    obtain ⟨hclear, hreqs⟩ := h.unselected (pinnedEq.trans hp) (armedEq.trans ha) (found hf) (selectedEq.trans hs)
    exact ⟨hclear, asksBy hreqs⟩
  case urgent =>
    obtain ⟨hnone, howner⟩ := owner c hs
    obtain ⟨hclear, hreqs⟩ := h.urgent (pinnedEq.trans hp) (armedEq.trans ha) (found hf) (selectedEq.trans hs)
      (h.eligible ▸ hc) hnone howner
    exact ⟨hclear, asksBy hreqs⟩
  case unchallenged =>
    have hno : r.challenges k c x = false := by
      refine Bool.eq_false_iff.mpr fun hyes => ?_
      obtain ⟨hne, hhigh⟩ := State.challenges_iff.mp hyes
      rw [config, ← h.gradeOf] at hhigh
      exact hlow.elim hne (Nat.not_lt.mpr hhigh)
    obtain ⟨hchallenger, hstreak, hattempts, hreqs⟩ := h.tested (pinnedEq.trans hp) (armedEq.trans ha) (found hf)
      (selectedEq.trans hs) (h.eligible ▸ hc)
    rw [hno, Service.challengeTest_fails] at hchallenger hstreak hattempts
    exact ⟨⟨hchallenger, hstreak, hattempts⟩, silentBy (hreqs.trans (if_neg fun hy => absurd hy.1 (Bool.eq_false_iff.mp hno)))⟩
  case challenged =>
    have hyes : r.challenges k c x = true := State.challenges_iff.mpr ⟨hne, by rw [config, ← h.gradeOf]; exact hhigh⟩
    obtain ⟨hchallenger, hstreak, hattempts, hreqs⟩ := h.tested (pinnedEq.trans hp) (armedEq.trans ha) (found hf)
      (selectedEq.trans hs) (h.eligible ▸ hc)
    rw [config] at hreqs
    rw [hyes] at hchallenger hstreak hattempts
    refine ⟨hchallenger.trans (Service.challengeTest_challenger _ _), fun hsame => ?again, fun hnew => ?anew,
      fun hfull => asksBy (hreqs.trans (if_pos ⟨hyes, hfull⟩)),
      fun hlow => silentBy (hreqs.trans (if_neg fun hy => absurd hy.2 (Nat.not_le.mpr hlow)))⟩
    case again =>
      rw [Service.challengeTest_again (challengerEq.trans hsame)] at hstreak hattempts
      exact ⟨hstreak.trans (by rw [streakEq]), hattempts.trans attemptsEq⟩
    case anew =>
      rw [Service.challengeTest_new (by rw [challengerEq]; exact hnew)] at hstreak hattempts
      exact ⟨hstreak, hattempts⟩
  case noneShown =>
    obtain ⟨hnone, hadv⟩ := h.nobody_shown hn
    exact ⟨hnone, unadvisedBy hadv⟩
  case lags =>
    obtain ⟨hnone, hadv⟩ := h.lags hb (mt leading.mp hl)
    exact ⟨hnone, unadvisedBy hadv⟩
  case advised =>
    by_cases ha : v.advisory = some c
    · exact (h.leads_stands hb (leading.mpr hl) (advisoryEq.trans ha)).1
    · exact (h.leads_raised hb (leading.mpr hl) (by rw [advisoryEq]; exact ha)).1
  case stands => exact unadvisedBy (h.leads_stands hb (leading.mpr hl) (advisoryEq.trans ha)).2
  case raised =>
    obtain ⟨-, hraised⟩ := h.leads_raised hb (leading.mpr hl) (by rw [advisoryEq]; exact ha)
    rw [hsource, Option.getD_some, Nat.add_sub_cancel_left, config, clock] at hraised
    exact hraised
  case service => exact left.trans (by rw [rankEq, darkEq])
  case services => exact (h.services j hj).trans (services j hj)
  case frame =>
    obtain ⟨hmask, hnow⟩ := h.frame
    exact eq_of_rankMask (hmask.trans mask) (hnow.trans now)

end Sys2Proof.Machine
end

section
/-! PROOFS. From lane-0 packets to sections (O43). -/

namespace Sys2Proof.Machine

/-! ### The octets of a section (R136, R137) -/

/-- The tag and the length with which a section is received to its end (R137). -/
def SectionFits (sec : List Byte) : Prop :=
  octetAt sec 0 = 0 ∧ 9 ≤ sectionLength sec ∧ sectionLength sec ≤ 1021 ∧ (sectionLength sec - 9) % 4 = 0

section
variable {l m sec rest d : List Byte}

theorem octetAt_prefix (h : l <+: sec) (hl : 3 ≤ l.length) : octetAt l 0 = octetAt sec 0 := by
  obtain ⟨m, rfl⟩ := h
  unfold octetAt
  rw [List.getD_append _ _ _ _ (by omega)]

theorem sectionLength_prefix (h : l <+: sec) (hl : 3 ≤ l.length) : sectionLength l = sectionLength sec := by
  obtain ⟨m, rfl⟩ := h
  unfold sectionLength beAt
  rw [List.drop_append_of_le_length (by omega), List.take_append_of_le_length (by rw [List.length_drop]; omega)]

theorem judgeOctets_short (h : l.length < 3) : judgeOctets l = .more := if_pos h

theorem judgeOctets_more (h : SectionFits l) (hl : 3 ≤ l.length) (hn : l.length < sectionLength l + 3) :
    judgeOctets l = .more := by
  obtain ⟨htag, hmin, hmax, hmod⟩ := h
  unfold judgeOctets
  dsimp only
  rw [if_neg (Nat.not_lt.mpr hl), if_neg (not_not_intro htag), if_neg (show ¬(_ ∨ _ ∨ _) by omega), if_pos hn, ite_self]

theorem judgeOctets_done (h : SectionFits l) (hn : l.length = sectionLength l + 3) : judgeOctets l = .done := by
  obtain ⟨-, hmin, -, -⟩ := h
  unfold judgeOctets
  dsimp only
  rw [if_neg (by omega), if_neg (by omega), if_neg (by omega)]

theorem SectionFits.prefix (h : SectionFits sec) (hp : l <+: sec) (hl : 3 ≤ l.length) : SectionFits l := by
  unfold SectionFits
  rw [octetAt_prefix hp hl, sectionLength_prefix hp hl]
  exact h

/-- The octets of a section before its last are not judged. -/
theorem judgeOctets_prefix (h : SectionFits sec) (hp : l <+: sec) (hl : l.length < sectionLength sec + 3) :
    judgeOctets l = .more := by
  rcases Nat.lt_or_ge l.length 3 with h3 | h3
  · exact judgeOctets_short h3
  · exact judgeOctets_more (h.prefix hp h3) h3 (by rw [sectionLength_prefix hp h3]; exact hl)

theorem feed_more {chain : Bool} {o : Byte} (h : judgeOctets (l ++ [o]) = .more) :
    feed chain (.receiving l) (o :: d) = feed chain (.receiving (l ++ [o])) d := by
  rw [feed]
  simp only [h]

/-- A section received in part. -/
theorem feed_part {chain : Bool} (h : sec.length < 3 ∨ SectionFits sec ∧ sec.length < sectionLength sec + 3)
    (hd : l ++ d = sec) : feed chain (.receiving l) d = (.receiving sec, []) := by
  induction d generalizing l with
  | nil => rw [← hd, List.append_nil, feed]
  | cons o d ih =>
    have hsec : (l ++ [o]) ++ d = sec := by rw [← hd, List.append_assoc, List.singleton_append]
    have hprefix : l ++ [o] <+: sec := ⟨d, hsec⟩
    have hmore : judgeOctets (l ++ [o]) = .more := by
      rcases h with h3 | ⟨hfits, hshort⟩
      · exact judgeOctets_short (hprefix.length_le.trans_lt h3)
      · exact judgeOctets_prefix hfits hprefix (hprefix.length_le.trans_lt hshort)
    rw [feed_more hmore, ih hsec]

/-- After a section nothing begins where the octets end or stuffing follows. -/
theorem feed_nextSection (h : rest = [] ∨ rest.head? = some 0xFF) : feed true (nextSection true rest) rest = (.none, []) := by
  cases rest with
  | nil => rfl
  | cons o rest =>
    obtain rfl : o = 0xFF := Option.some.inj (h.resolve_left (List.cons_ne_nil _ _))
    rfl

/-- A section received whole. -/
theorem feed_whole (hfits : SectionFits sec) (hlen : sec.length = sectionLength sec + 3)
    (hrest : rest = [] ∨ rest.head? = some 0xFF) (hl : l.length < sec.length) (hd : l ++ d = sec ++ rest) :
    feed true (.receiving l) d = (.none, [.complete sec]) := by
  induction d generalizing l with
  | nil =>
    have := congrArg List.length hd
    rw [List.length_append, List.length_append, List.length_nil] at this
    omega
  | cons o d ih =>
    have hsec : (l ++ [o]) ++ d = sec ++ rest := by rw [← hd, List.append_assoc, List.singleton_append]
    have hlength : (l ++ [o]).length = l.length + 1 := List.length_append
    rcases Nat.lt_or_ge (l.length + 1) sec.length with hlt | hge
    · have hprefix : l ++ [o] <+: sec :=
        List.prefix_of_prefix_length_le ⟨d, hsec⟩ (List.prefix_append sec rest) (by omega)
      rw [feed_more (judgeOctets_prefix hfits hprefix (by omega)), ih (by omega) hsec]
    · obtain ⟨hl', hd'⟩ := List.append_inj hsec (by omega)
      rw [feed, hl', judgeOctets_done hfits hlen, hd']
      dsimp only
      rw [feed_nextSection hrest]

/-- The reading of a packet in which a section begins at a pointer of 0, with nothing in hand. -/
theorem readPayload_begins (h : d ≠ []) : readPayload .none true (0 :: d) = feed true (.receiving []) d := by
  have hlength : ¬d.length ≤ (0 : Byte).toNat := by
    have := List.length_pos_iff.mpr h
    have hzero : (0 : Byte).toNat = 0 := rfl
    omega
  unfold readPayload
  simp only [Bool.not_true, Bool.false_eq_true, if_false, hlength]
  rfl

end

/-! ### The sequence check (R135) -/

section
variable {last : Option Nat} {packet : Packet}

theorem checkSequence_silent (h : saysNoPayload packet = true) : checkSequence last packet = (false, last, false) := if_pos h

variable (hp : saysNoPayload packet = false)
include hp

theorem checkSequence_repeat (hd : isDiscontinuous packet = false) (hl : last = some (seqOf packet)) :
    checkSequence last packet = (false, last, false) := by
  simp [checkSequence, hp, hd, hl]

theorem checkSequence_breaks (h : isDiscontinuous packet = true ∨
      ∃ k, last = some k ∧ seqOf packet ≠ k ∧ seqOf packet ≠ (k + 1) % 16) :
    checkSequence last packet = (true, some (seqOf packet), true) := by
  cases hd : isDiscontinuous packet with
  | true => simp [checkSequence, hp, hd]
  | false =>
    obtain ⟨k, hk, hne, hnext⟩ := h.resolve_left (hd ▸ nofun)
    simp [checkSequence, hp, hd, hk, hne, hnext]

theorem checkSequence_follows (hd : isDiscontinuous packet = false)
    (h : ∀ k, last = some k → seqOf packet = (k + 1) % 16) :
    checkSequence last packet = (false, some (seqOf packet), true) := by
  cases hl : last with
  | none => simp [checkSequence, hp, hd]
  | some k =>
    have hnext := h k hl
    have hne : seqOf packet ≠ k := by omega
    simp [checkSequence, hp, hd, hnext]
    omega

/-- A packet that is no repeat is read, whether or not the sequence breaks. -/
theorem checkSequence_reads (h : isDiscontinuous packet = true ∨ last ≠ some (seqOf packet)) :
    ∃ b, checkSequence last packet = (b, some (seqOf packet), true) := by
  by_cases hb : isDiscontinuous packet = true ∨ ∃ k, last = some k ∧ seqOf packet ≠ k ∧ seqOf packet ≠ (k + 1) % 16
  · exact ⟨true, checkSequence_breaks hp hb⟩
  · obtain ⟨hd, hn⟩ := not_or.mp hb
    have hlast := h.resolve_left hd
    refine ⟨false, checkSequence_follows hp (Bool.eq_false_iff.mpr hd) fun k hk => ?_⟩
    by_contra hnext
    exact hn ⟨k, hk, fun heq => hlast (heq ▸ hk), hnext⟩

end

/-! ### A packet at a context (R134 to R136) -/

section
variable {s : State} {p x : Nat} {packet : Packet} {sec rest l : List Byte}

/-- The octets of `sec`, and `rest` after them, begin at a pointer of 0 or follow those in hand. -/
def DirContext.Reads (c : DirContext) (packet : Packet) (sec rest l : List Byte) : Prop :=
  (c.section_ = .none ∧ saysNoPayload packet = false ∧
      (isDiscontinuous packet = true ∨ c.lastSeq ≠ some (seqOf packet)) ∧ isStart packet = true ∧ sec ≠ [] ∧
      payloadOf packet = 0 :: sec ++ rest) ∨
    (c.section_ = .receiving l ∧ saysNoPayload packet = false ∧ isDiscontinuous packet = false ∧
      (∀ k, c.lastSeq = some k → seqOf packet = (k + 1) % 16) ∧ isStart packet = false ∧
      l.length < sec.length ∧ l ++ payloadOf packet = sec ++ rest)

theorem exec_directoryPacket (hr : s.phase = .running) (hp : p < 15) (hl : packet.length = 188) :
    exec (.directoryPacket p x packet) s = .next (directoryPacket p x packet (s.take (.directoryPacket p x packet))) :=
  onPort_onPacket_running hp hl hr fun u => directoryPacket p x packet (u.take (.directoryPacket p x packet))

theorem directoryPacket_elsewhere (h : (s.dirContext p).source ≠ some x) : directoryPacket p x packet s = s := if_pos h

variable (h : (s.dirContext p).source = some x)
include h

theorem directoryPacket_passes (hq : checkSequence (s.dirContext p).lastSeq packet = (false, (s.dirContext p).lastSeq, false)) :
    directoryPacket p x packet s = s.setDirContext p (s.dirContext p) := by
  unfold directoryPacket
  dsimp only
  rw [if_neg (not_not_intro h), hq]
  rfl

/-- A sequence break drops the section in hand, and a packet that starts no section brings none. -/
theorem directoryPacket_drops (hq : checkSequence (s.dirContext p).lastSeq packet = (true, some (seqOf packet), true))
    (hs : (s.dirContext p).section_ = .receiving l) (hstart : isStart packet = false) :
    directoryPacket p x packet s = countDiscard p
      (s.setDirContext p { s.dirContext p with lastSeq := some (seqOf packet), section_ := .none }) := by
  have hnone (d : List Byte) : feed true .none d = (.none, []) := by cases d <;> rw [feed]
  have hread : readPayload .none false (payloadOf packet) = (.none, []) := hnone _
  unfold directoryPacket
  dsimp only
  rw [if_neg (not_not_intro h), hq, hs, hstart]
  simp only [if_true, hread]
  rfl

theorem directoryPacket_reads {b : Bool} {r : SectionInHand × List DirItem}
    (hq : checkSequence (s.dirContext p).lastSeq packet = (b, some (seqOf packet), true))
    (hb : b = false ∨ (s.dirContext p).section_ = .none)
    (hread : readPayload (s.dirContext p).section_ (isStart packet) (payloadOf packet) = r) : directoryPacket p x packet s =
      r.2.foldl (takeItem p) (s.setDirContext p { s.dirContext p with lastSeq := some (seqOf packet), section_ := r.1 }) := by
  have hdrop : (if b = true then dropItems (s.dirContext p).section_ else []) = [] := by
    rcases hb with rfl | hnone
    · rfl
    · rw [hnone]
      exact ite_self _
  have hhand : (if b = true then SectionInHand.none else (s.dirContext p).section_) = (s.dirContext p).section_ := by
    rcases hb with rfl | hnone
    · rfl
    · rw [hnone]
      exact ite_self _
  unfold directoryPacket
  dsimp only
  rw [if_neg (not_not_intro h), hq]
  simp only [hdrop, hhand, hread, if_true, List.nil_append]

/-- A section begun or continued is fed octet by octet. -/
theorem directoryPacket_feeds (hr : (s.dirContext p).Reads packet sec rest l) : ∃ l' d, l'.length < sec.length ∧
    l' ++ d = sec ++ rest ∧ ∀ r, feed true (.receiving l') d = r → directoryPacket p x packet s =
      r.2.foldl (takeItem p) (s.setDirContext p { s.dirContext p with lastSeq := some (seqOf packet), section_ := r.1 }) := by
  rcases hr with ⟨hnone, hp, hseq, hstart, hsec, hpayload⟩ | ⟨hs, hp, hd, hseq, hstart, hl, hpayload⟩
  · obtain ⟨b, hq⟩ := checkSequence_reads hp hseq
    refine ⟨[], sec ++ rest, List.length_pos_iff.mpr hsec, rfl, fun r hfeed => directoryPacket_reads h hq (.inr hnone) ?_⟩
    rw [hnone, hstart, hpayload]
    exact (readPayload_begins (List.append_ne_nil_of_left_ne_nil hsec rest)).trans hfeed
  · refine ⟨l, payloadOf packet, hl, hpayload,
      fun r hfeed => directoryPacket_reads h (checkSequence_follows hp hd hseq) (.inl rfl) ?_⟩
    rw [hs, hstart]
    exact hfeed

theorem directoryPacket_part (hr : (s.dirContext p).Reads packet sec [] l)
    (hsec : sec.length < 3 ∨ SectionFits sec ∧ sec.length < sectionLength sec + 3) : directoryPacket p x packet s =
      s.setDirContext p { s.dirContext p with lastSeq := some (seqOf packet), section_ := .receiving sec } := by
  obtain ⟨l', d, -, hd, hfeeds⟩ := directoryPacket_feeds h hr
  exact hfeeds _ (feed_part hsec (hd.trans (List.append_nil sec)))

theorem directoryPacket_whole (hr : (s.dirContext p).Reads packet sec rest l) (hfits : SectionFits sec)
    (hlen : sec.length = sectionLength sec + 3) (hrest : rest = [] ∨ rest.head? = some 0xFF) :
    directoryPacket p x packet s = takeItem p
      (s.setDirContext p { s.dirContext p with lastSeq := some (seqOf packet), section_ := .none }) (.complete sec) := by
  obtain ⟨l', d, hl, hd, hfeeds⟩ := directoryPacket_feeds h hr
  exact hfeeds _ (feed_whole hfits hlen hrest hl hd)

end

end Sys2Proof.Machine
end

section
/-! PROOFS. A complete directory: candidate checks, discoveries and the Discovery Log (O43). -/

namespace Sys2Proof.Machine

/-! ### The candidate checks (R141) -/

section
variable {s : State} {x m : Nat} {entries : List (Nat × Nat)} {v : Candidate}

theorem expectedFrom_iff : expectedFrom x v = some m ↔
    v.cfg.state ≠ .free ∧ v.cfg.source = some x ∧ v.cfg.expected = some m := by
  unfold expectedFrom
  split
  next h => exact ⟨fun he => ⟨h.1, h.2, he⟩, fun he => he.2.2⟩
  next h => exact ⟨nofun, fun he => absurd ⟨he.1, he.2.1⟩ h⟩

theorem checkedCandidate_unexpected (h : expectedFrom x v = none) : checkedCandidate x entries v = v := by
  simp only [checkedCandidate, h]

theorem checkedCandidate_confirmed (h : expectedFrom x v = some m) (hm : m ∈ entries.map Prod.fst) :
    checkedCandidate x entries v = { v with directory := .confirmed, misses := 0 } := by
  obtain ⟨e, he, rfl⟩ := List.mem_map.mp hm
  have hany : (entries.any fun d => d.1 == e.1) = true := List.any_eq_true.mpr ⟨e, he, beq_self_eq_true _⟩
  simp only [checkedCandidate, h, hany, if_true]

theorem any_number_eq_false (hm : m ∉ entries.map Prod.fst) : (entries.any fun d => d.1 == m) = false := by
  refine Bool.eq_false_iff.mpr fun hany => hm ?_
  obtain ⟨e, he, hn⟩ := List.any_eq_true.mp hany
  exact List.mem_map.mpr ⟨e, he, beq_iff_eq.mp hn⟩

theorem checkedCandidate_missing (h : expectedFrom x v = some m) (hm : m ∉ entries.map Prod.fst) :
    checkedCandidate x entries v = { v with directory := .missing, misses := if v.misses = 0 then 1 else 0 } := by
  simp only [checkedCandidate, h, any_number_eq_false hm, Bool.false_eq_true, if_false]

theorem missesTwice_missing (h : expectedFrom x v = some m) (hm : m ∉ entries.map Prod.fst) (hv : v.misses ≠ 0) :
    missesTwice x entries v = true := by
  simp only [missesTwice, h, any_number_eq_false hm, Bool.not_false, Bool.true_and, bne_iff_ne, ne_eq, hv, not_false_eq_true]

theorem checkedCandidate_cfg (x : Nat) (entries : List (Nat × Nat)) (v : Candidate) :
    (checkedCandidate x entries v).cfg = v.cfg := by
  unfold checkedCandidate
  split
  · rfl
  · split <;> rfl

theorem expectedFrom_checked : expectedFrom x (checkedCandidate x entries v) = expectedFrom x v := by
  unfold expectedFrom
  rw [checkedCandidate_cfg]

theorem expectedFrom_default (c : Nat) : expectedFrom x (Candidate.default c) = none := rfl

end

/-! ### The first entry of each service number (R142) -/

/-- An entry is put last, unless its number is listed. -/
def addEntry (l : List (Nat × Nat)) (e : Nat × Nat) : List (Nat × Nat) :=
  if l.any fun d => d.1 == e.1 then l else l ++ [e]

theorem discoveriesIn_eq (s : State) (x : Nat) (entries : List (Nat × Nat)) : discoveriesIn s x entries =
    (entries.foldl addEntry []).filter fun e => !(s.candidates.any fun c => expectedFrom x c.2 == some e.1) := rfl

theorem foldl_addEntry (l pre acc : List (Nat × Nat)) (h : ∀ m, (acc.any fun d => d.1 == m) = pre.any fun d => d.1 == m) :
    l.foldl addEntry acc = acc ++ ((l.zipIdx pre.length).filter fun z =>
      !(((pre ++ l).take z.2).any fun y => y.1 == z.1.1)).map Prod.fst := by
  induction l generalizing pre acc with
  | nil => exact (List.append_nil acc).symm
  | cons e l ih =>
    have hsplit : pre ++ e :: l = (pre ++ [e]) ++ l := by rw [List.append_assoc, List.singleton_append]
    have hlength : (pre ++ [e]).length = pre.length + 1 := List.length_append
    have htake : (pre ++ e :: l).take pre.length = pre := List.take_left
    have hany (m : Nat) : ((pre ++ [e]).any fun d => d.1 == m) = ((pre.any fun d => d.1 == m) || e.1 == m) := by
      rw [List.any_append, List.any_cons, List.any_nil, Bool.or_false]
    rw [List.foldl_cons, List.zipIdx_cons, List.filter_cons, htake]
    unfold addEntry
    rw [h e.1]
    cases hp : pre.any fun d => d.1 == e.1 with
    | true =>
      have hkeys (m : Nat) : (acc.any fun d => d.1 == m) = (pre ++ [e]).any fun d => d.1 == m := by
        rw [hany, h m]
        by_cases hm : e.1 = m
        · rw [← hm, hp, Bool.true_or]
        · rw [beq_false_of_ne hm, Bool.or_false]
      have hrest := ih (pre ++ [e]) acc hkeys
      rw [hlength, ← hsplit] at hrest
      exact hrest
    | false =>
      have hkeys (m : Nat) : ((acc ++ [e]).any fun d => d.1 == m) = (pre ++ [e]).any fun d => d.1 == m := by
        rw [hany, List.any_append, List.any_cons, List.any_nil, Bool.or_false, h m]
      have hrest := ih (pre ++ [e]) (acc ++ [e]) hkeys
      rw [hlength, ← hsplit, List.append_assoc, List.singleton_append] at hrest
      exact hrest

theorem foldl_addEntry_nodup (l acc : List (Nat × Nat)) (h : (acc.map Prod.fst).Nodup) :
    ((l.foldl addEntry acc).map Prod.fst).Nodup := by
  induction l generalizing acc with
  | nil => exact h
  | cons e l ih =>
    rw [List.foldl_cons]
    refine ih _ ?_
    unfold addEntry
    split
    next => exact h
    next hnew =>
      rw [List.map_append, List.nodup_append]
      refine ⟨h, List.nodup_singleton _, fun a ha b hb => ?_⟩
      rintro rfl
      obtain ⟨d, hd, hde⟩ := List.mem_map.mp ha
      exact hnew (List.any_eq_true.mpr ⟨d, hd, beq_iff_eq.mpr (hde.trans (List.mem_singleton.mp hb))⟩)

theorem discoveriesIn_nodup (s : State) (x : Nat) (entries : List (Nat × Nat)) :
    ((discoveriesIn s x entries).map Prod.fst).Nodup := by
  rw [discoveriesIn_eq]
  exact (foldl_addEntry_nodup entries [] List.nodup_nil).sublist ((List.filter_sublist).map _)

/-! ### The Discovery Log (R142) -/

/-- A logged discovery after those of a directory of source `x`. -/
def loggedAs (x : Nat) (now : BitVec 32) (l : List (Nat × Nat)) (d : Discovery) : Discovery :=
  match l.find? fun z => d.source == x && z.1 == d.number with
  | some z => { d with lastSeen := now, mapLane := z.2, times := min 255 (d.times + 1) }
  | none => d

/-- The discoveries of a directory that the log does not list. -/
def unlogged (x : Nat) (log : List Discovery) (l : List (Nat × Nat)) : List (Nat × Nat) :=
  l.filter fun z => !(log.any fun d => d.source == x && d.number == z.1)

/-- A discovery as it enters the log. -/
def newDiscovery (x : Nat) (now : BitVec 32) (z : Nat × Nat) : Discovery := ⟨x, z.1, z.2, now, now, 1⟩

section
variable {x : Nat} {now : BitVec 32} {l : List (Nat × Nat)} {z : Nat × Nat} {d : Discovery} {log : List Discovery}

theorem loggedAs_absent (h : ¬(d.source = x ∧ d.number ∈ l.map Prod.fst)) : loggedAs x now l d = d := by
  have hnone : (l.find? fun z => d.source == x && z.1 == d.number) = none := by
    refine List.find?_eq_none.mpr fun z hz hkey => h ?_
    obtain ⟨hs, hn⟩ := Bool.and_eq_true_iff.mp hkey
    exact ⟨beq_iff_eq.mp hs, List.mem_map.mpr ⟨z, hz, beq_iff_eq.mp hn⟩⟩
  simp only [loggedAs, hnone]

theorem loggedAs_key (x : Nat) (now : BitVec 32) (l : List (Nat × Nat)) (d : Discovery) :
    (loggedAs x now l d).source = d.source ∧ (loggedAs x now l d).number = d.number := by
  unfold loggedAs
  split <;> exact ⟨rfl, rfl⟩

theorem loggedAs_cons_other (h : ¬(d.source = x ∧ d.number = z.1)) : loggedAs x now (z :: l) d = loggedAs x now l d := by
  have hkey : (d.source == x && z.1 == d.number) = false := by
    refine Bool.eq_false_iff.mpr fun hk => h ?_
    obtain ⟨hs, hn⟩ := Bool.and_eq_true_iff.mp hk
    exact ⟨beq_iff_eq.mp hs, (beq_iff_eq.mp hn).symm⟩
  unfold loggedAs
  rw [List.find?_cons_of_neg (by rw [hkey]; exact nofun)]

theorem loggedAs_cons_own (h : d.source = x ∧ d.number = z.1) : loggedAs x now (z :: l) d =
    { d with lastSeen := now, mapLane := z.2, times := min 255 (d.times + 1) } := by
  obtain ⟨rfl, hn⟩ := h
  unfold loggedAs
  rw [List.find?_cons_of_pos (by rw [hn]; simp)]

/-- One discovery after another. -/
theorem loggedAs_cons (h : z.1 ∉ l.map Prod.fst) : loggedAs x now l (loggedAs x now [z] d) = loggedAs x now (z :: l) d := by
  by_cases hk : d.source = x ∧ d.number = z.1
  · rw [loggedAs_cons_own hk, loggedAs_cons_own hk]
    exact loggedAs_absent fun hm => h (hk.2 ▸ hm.2)
  · have hnil : loggedAs x now [] d = d := loggedAs_absent fun hm => nomatch hm.2
    rw [loggedAs_cons_other hk, loggedAs_cons_other hk, hnil]

theorem any_key_map (log : List Discovery) (m : Nat) : ((log.map (loggedAs x now l)).any fun d => d.source == x && d.number == m) =
    log.any fun d => d.source == x && d.number == m := by
  rw [List.any_map]
  refine congrArg _ (funext fun d => ?_)
  obtain ⟨hs, hn⟩ := loggedAs_key x now l d
  rw [Function.comp_apply, hs, hn]

theorem unlogged_map (log : List Discovery) (m : List (Nat × Nat)) :
    unlogged x (log.map (loggedAs x now m)) l = unlogged x log l := by
  unfold unlogged
  simp only [any_key_map]

theorem unlogged_cons_known (h : (log.any fun d => d.source == x && d.number == z.1) = true) :
    unlogged x log (z :: l) = unlogged x log l := by
  rw [unlogged, List.filter_cons_of_neg (by rw [h]; exact nofun), unlogged]

theorem unlogged_cons_new (h : (log.any fun d => d.source == x && d.number == z.1) = false) :
    unlogged x log (z :: l) = z :: unlogged x log l := by
  rw [unlogged, List.filter_cons_of_pos (by rw [h]; rfl), unlogged]

/-- A discovery of another number does not make one logged. -/
theorem unlogged_append (h : z.1 ∉ l.map Prod.fst) : unlogged x (log ++ [newDiscovery x now z]) l = unlogged x log l := by
  refine List.filter_congr fun y hy => ?_
  have hne : z.1 ≠ y.1 := fun heq => h (heq ▸ List.mem_map_of_mem hy)
  have hother : (newDiscovery x now z).number ≠ y.1 := hne
  rw [List.any_append, List.any_cons, List.any_nil, beq_false_of_ne hother, Bool.and_false, Bool.or_false, Bool.or_false]

end

section
variable {s : State} {x : Nat} {z : Nat × Nat}

theorem logDiscovery_known (h : (s.discoveries.any fun d => d.source == x && d.number == z.1) = true) :
    logDiscovery x s z = { s with discoveries := s.discoveries.map (loggedAs x s.intervalNumber [z]) } := by
  have hnil (d : Discovery) : loggedAs x s.intervalNumber [] d = d := rfl
  have hlogged (d : Discovery) : (if d.source = x ∧ d.number = z.1 then
      { d with lastSeen := s.intervalNumber, mapLane := z.2, times := satAdd 255 d.times 1 } else d) =
        loggedAs x s.intervalNumber [z] d := by
    split
    next hk => exact (loggedAs_cons_own hk).symm
    next hk => exact (loggedAs_cons_other (l := []) hk).symm
  rw [logDiscovery, if_pos h]
  simp only [hlogged]

variable (h : (s.discoveries.any fun d => d.source == x && d.number == z.1) = false)
include h

theorem logDiscovery_new (hl : s.discoveries.length < 128) :
    logDiscovery x s z = { s with discoveries := s.discoveries ++ [newDiscovery x s.intervalNumber z] } := by
  rw [logDiscovery, if_neg (by rw [h]; exact nofun), if_pos hl]
  rfl

theorem logDiscovery_lost (hl : ¬s.discoveries.length < 128) :
    logDiscovery x s z = { s with discoveryOverflow := min 0xFFFFFFFF (s.discoveryOverflow + 1) } := by
  rw [logDiscovery, if_neg (by rw [h]; exact nofun), if_neg hl]
  rfl

end

/-- The Discovery Log after the discoveries of a directory. -/
structure Logged (s t : State) (x : Nat) (l : List (Nat × Nat)) : Prop where
  discoveries : t.discoveries = s.discoveries.map (loggedAs x s.intervalNumber l) ++
    ((unlogged x s.discoveries l).take (128 - s.discoveries.length)).map (newDiscovery x s.intervalNumber)
  overflow : t.discoveryOverflow = if (unlogged x s.discoveries l).length ≤ 128 - s.discoveries.length then s.discoveryOverflow
    else min 0xFFFFFFFF (s.discoveryOverflow + ((unlogged x s.discoveries l).length - (128 - s.discoveries.length)))
  frame : t = { s with discoveries := t.discoveries, discoveryOverflow := t.discoveryOverflow }

theorem foldl_logDiscovery {x : Nat} {l : List (Nat × Nat)} (hl : (l.map Prod.fst).Nodup) (s : State) :
    Logged s (l.foldl (logDiscovery x) s) x l := by
  induction l generalizing s with
  | nil =>
    have hmap : s.discoveries.map (loggedAs x s.intervalNumber []) = s.discoveries := List.map_id _
    refine ⟨?_, rfl, rfl⟩
    have hnone : unlogged x s.discoveries [] = [] := rfl
    rw [List.foldl_nil, hmap, hnone, List.take_nil, List.map_nil, List.append_nil]
  | cons z l ih =>
    obtain ⟨hz, hl⟩ := List.nodup_cons.mp hl
    obtain ⟨discoveries, overflow, frame⟩ := ih hl (logDiscovery x s z)
    rw [List.foldl_cons]
    generalize l.foldl (logDiscovery x) (logDiscovery x s z) = t at discoveries overflow frame
    have interval : (logDiscovery x s z).intervalNumber = s.intervalNumber := by
      unfold logDiscovery
      split
      · rfl
      · split <;> rfl
    rw [interval] at discoveries
    cases hk : s.discoveries.any fun d => d.source == x && d.number == z.1 with
    | true =>
      rw [logDiscovery_known hk] at discoveries overflow frame
      dsimp only at discoveries overflow
      rw [List.length_map, unlogged_map, List.map_map] at discoveries
      rw [List.length_map, unlogged_map] at overflow
      refine ⟨?_, ?_, frame⟩
      · rw [discoveries, unlogged_cons_known hk]
        exact congrArg (· ++ _) (List.map_congr_left fun d _ => loggedAs_cons hz)
      · rw [overflow, unlogged_cons_known hk]
    | false =>
      have others : s.discoveries.map (loggedAs x s.intervalNumber l) = s.discoveries.map (loggedAs x s.intervalNumber (z :: l)) := by
        refine List.map_congr_left fun d hd => (loggedAs_cons_other fun hkey => ?_).symm
        have hany : (s.discoveries.any fun d => d.source == x && d.number == z.1) = true :=
          List.any_eq_true.mpr ⟨d, hd, by rw [hkey.1, hkey.2]; simp⟩
        exact nomatch hk.symm.trans hany
      by_cases hroom : s.discoveries.length < 128
      · rw [logDiscovery_new hk hroom] at discoveries overflow frame
        dsimp only at discoveries overflow
        have hsize : 128 - s.discoveries.length = 128 - (s.discoveries.length + 1) + 1 := by omega
        have hown : loggedAs x s.intervalNumber l (newDiscovery x s.intervalNumber z) = newDiscovery x s.intervalNumber z :=
          loggedAs_absent fun hm => hz hm.2
        rw [List.length_append, List.length_singleton, unlogged_append hz] at discoveries overflow
        refine ⟨?_, ?_, frame⟩
        · rw [discoveries, unlogged_cons_new hk, hsize, List.take_succ_cons, List.map_append, List.map_cons, List.map_nil, hown,
            others, List.append_assoc, List.singleton_append, List.map_cons]
        · rw [overflow, unlogged_cons_new hk, List.length_cons, hsize]
          simp only [Nat.add_le_add_iff_right, Nat.add_sub_add_right]
      · rw [logDiscovery_lost hk hroom] at discoveries overflow frame
        dsimp only at discoveries overflow
        have hnone : 128 - s.discoveries.length = 0 := by omega
        rw [hnone] at discoveries overflow
        refine ⟨?_, ?_, frame⟩
        · rw [discoveries, others, hnone]
          rfl
        · rw [overflow, unlogged_cons_new hk, hnone, List.length_cons]
          split
          · next hempty =>
            rw [if_neg (by omega)]
            omega
          · rw [if_neg (by omega)]
            omega

end Sys2Proof.Machine
end

section
/-! PROOFS. A complete directory taken in one step (O43). -/

namespace Sys2Proof.Machine

section
variable {s : State} {x m : Nat} {entries : List (Nat × Nat)}

/-- Whether a candidate of the source expects a number, by the table and by its records. -/
theorem any_expected_iff (h : Table.wf Candidate.default s.candidates) :
    (s.candidates.any fun c => expectedFrom x c.2 == some m) = true ↔ ∃ c, expectedFrom x (s.candidate c) = some m := by
  rw [Table.any_iff h (p := fun _ v => expectedFrom x v == some m) fun _ => rfl]
  exact exists_congr fun c => beq_iff_eq

/-- The state after the snapshot and the candidate checks (R140, R141). -/
def checkedDirectory (x : Nat) (i : SetIdentity) (entries : List (Nat × Nat)) (s : State) : State :=
  { replaceSnapshot x i entries s with
    candidates := Table.remap Candidate.default (fun _ v => checkedCandidate x entries v) s.candidates }

variable (i : SetIdentity) (h : Table.wf Candidate.default s.candidates)
include h

theorem checkedDirectory_candidate (c : Nat) :
    (checkedDirectory x i entries s).candidate c = checkedCandidate x entries (s.candidate c) :=
  Table.get_remap Candidate.default Candidate.default (fun _ v => checkedCandidate x entries v) s.candidates h.1 c
    (checkedCandidate_unexpected (expectedFrom_default c))

theorem checkedDirectory_discoveriesIn :
    discoveriesIn (checkedDirectory x i entries s) x entries = discoveriesIn s x entries := by
  have hwf : Table.wf Candidate.default (checkedDirectory x i entries s).candidates := 
    Table.wf_remap Candidate.default (fun _ v => checkedCandidate x entries v) s.candidates h.1
  have hany (m : Nat) : ((checkedDirectory x i entries s).candidates.any fun c => expectedFrom x c.2 == some m) =
      s.candidates.any fun c => expectedFrom x c.2 == some m := by
    rw [Bool.eq_iff_iff, any_expected_iff hwf, any_expected_iff h]
    simp only [checkedDirectory_candidate i h, expectedFrom_checked]
  rw [discoveriesIn_eq, discoveriesIn_eq]
  exact List.filter_congr fun e _ => by rw [hany]

end

/-- The quarantine requests of the candidates missed twice, in the order of their indices (R141). -/
def quarantineRequests (x : Nat) (entries : List (Nat × Nat)) (s : State) : List Instr :=
  (s.candidateIndices.filter fun c => missesTwice x entries (s.candidate c)).map Instr.directoryQuarantineRequest

/-- What a complete directory of source `x` leaves (R139 to R142). -/
structure DirectoryTaken (s t : State) (x : Nat) (i : SetIdentity) (entries : List (Nat × Nat)) : Prop where
  snapshot : t.snapshot x = some ⟨i.stream, i.version, entries.length, entries.take 64, s.intervalNumber,
    match s.snapshot x with | none => 1 | some w => w.completions + 1⟩
  snapshots : ∀ y, y ≠ x → t.snapshot y = s.snapshot y
  candidate : ∀ c, t.candidate c = checkedCandidate x entries (s.candidate c)
  discoveries : t.discoveries = s.discoveries.map (loggedAs x s.intervalNumber (discoveriesIn s x entries)) ++
    ((unlogged x s.discoveries (discoveriesIn s x entries)).take (128 - s.discoveries.length)).map
      (newDiscovery x s.intervalNumber)
  overflow : t.discoveryOverflow =
    if (unlogged x s.discoveries (discoveriesIn s x entries)).length ≤ 128 - s.discoveries.length then s.discoveryOverflow
    else min 0xFFFFFFFF (s.discoveryOverflow +
      ((unlogged x s.discoveries (discoveriesIn s x entries)).length - (128 - s.discoveries.length)))
  inFlight : t.inFlight = s.inFlight ++ quarantineRequests x entries s ++
    if s.discoveries = [] ∧ t.discoveries ≠ [] then [.noticePost (.discovery t.discoveries.length) s.clock] else []
  frame : t = { s with
    snapshots := t.snapshots, candidates := t.candidates, discoveries := t.discoveries
    discoveryOverflow := t.discoveryOverflow, inFlight := t.inFlight }

section
variable {s : State} {x : Nat} {i : SetIdentity} {entries : List (Nat × Nat)}

/-- The quarantine requests and the notice, the last part of the step. -/
theorem completeDirectory_eq : completeDirectory x i entries s =
    let t := ((discoveriesIn (checkedDirectory x i entries s) x entries).foldl (logDiscovery x)
      (checkedDirectory x i entries s)).send (quarantineRequests x entries s)
    if s.discoveries.isEmpty && !t.discoveries.isEmpty then t.post (.discovery t.discoveries.length) else t := rfl

theorem completeDirectory_taken (h : Table.wf Candidate.default s.candidates) :
    DirectoryTaken s (completeDirectory x i entries s) x i entries := by
  have hfound := checkedDirectory_discoveriesIn (x := x) (entries := entries) i h
  have checked := checkedDirectory_candidate (x := x) (entries := entries) i h
  obtain ⟨discoveries, overflow, frame⟩ :=
    foldl_logDiscovery (discoveriesIn_nodup (checkedDirectory x i entries s) x entries) (checkedDirectory x i entries s)
  rw [completeDirectory_eq]
  rw [hfound] at discoveries overflow frame ⊢
  generalize (discoveriesIn s x entries).foldl (logDiscovery x) (checkedDirectory x i entries s) = t at discoveries overflow frame
  have clock : t.clock = s.clock := by
    rw [frame]
    rfl
  have final : (if s.discoveries.isEmpty && !t.discoveries.isEmpty then (t.send (quarantineRequests x entries s)).post (.discovery t.discoveries.length)
      else t.send (quarantineRequests x entries s)) = (t.send (quarantineRequests x entries s)).send
        (if s.discoveries = [] ∧ t.discoveries ≠ [] then [.noticePost (.discovery t.discoveries.length) s.clock] else []) := by
    rw [← clock, State.post]
    by_cases hs : s.discoveries = []
    · by_cases ht : t.discoveries = []
      · simp [hs, ht]
      · simp [hs, ht]
    · simp [hs]
  dsimp only
  rw [State.send_discoveries, final]
  have flight : t.inFlight = s.inFlight := by
    rw [frame]
    rfl
  refine ⟨?snapshot, fun y hy => ?snapshots, fun c => ?candidate, discoveries, overflow, ?inFlight, ?frame⟩
  case snapshot =>
    have kept : t.snapshot x = (replaceSnapshot x i entries s).snapshot x := by rw [frame]; rfl
    refine (kept.trans (State.snapshot_setSnapshot_same s x _)).trans ?_
    cases s.snapshot x <;> rfl
  case snapshots =>
    have kept : t.snapshot y = (replaceSnapshot x i entries s).snapshot y := by rw [frame]; rfl
    exact kept.trans (State.snapshot_setSnapshot_other s x y _ hy)
  case candidate =>
    have kept : t.candidate c = (checkedDirectory x i entries s).candidate c := by rw [frame]; rfl
    exact kept.trans (checked c)
  case inFlight =>
    rw [← flight]
    rfl
  case frame =>
    exact congrArg (fun u : State => { u with
      snapshots := t.snapshots, candidates := t.candidates, inFlight := ((t.send (quarantineRequests x entries s)).send
        (if s.discoveries = [] ∧ t.discoveries ≠ [] then [.noticePost (.discovery t.discoveries.length) s.clock] else [])).inFlight }) frame

end

end Sys2Proof.Machine
end

section
/-! PROOFS. A section taken into its set, and O43. -/

namespace Sys2Proof.Machine

/-! ### A section received whole (R138) -/

/-- What identifies the set of a section, and its entries. -/
def sectionIdentity (sec : List Byte) : SetIdentity := ⟨beAt sec 3 2, octetAt sec 5 % 32, octetAt sec 7⟩

def entriesOf (sec : List Byte) : List (Nat × Nat) := sectionEntries ((sectionLength sec - 9) / 4) (sec.drop 8)

/-- The sections of a set that a section of the set `i` finds. -/
def SetInProgress.kept (w : SetInProgress) (i : SetIdentity) : List (Nat × List (Nat × Nat)) :=
  match w.identity with
  | .none => w.held
  | .some j => if j = i then w.held else []

/-- Whether a section of the set `i` abandons sections held. -/
def SetInProgress.abandons (w : SetInProgress) (i : SetIdentity) : Bool :=
  match w.identity with
  | .none => false
  | .some j => decide (j ≠ i) && decide (w.held ≠ [])

/-- A discard is counted where sections are abandoned. -/
def discardIf (b : Bool) (p : Nat) (s : State) : State := if b then countDiscard p s else s

section
variable {s : State} {p x n : Nat} {sec : List Byte} {i : SetIdentity} {held : List (Nat × List (Nat × Nat))}
  {entries : List (Nat × Nat)}

theorem discardIf_frame (b : Bool) : discardIf b p s = { s with ports := (discardIf b p s).ports } := by
  cases b <;> rfl

theorem discardIf_port (b : Bool) : (discardIf b p s).port p = if b then { s.port p with
    counters := { (s.port p).counters with discards := min 0xFFFFFFFF ((s.port p).counters.discards + 1) } } else s.port p := by
  cases b with
  | false => rfl
  | true => exact State.port_setPort_same ..

theorem discardIf_port_other (b : Bool) {j : Nat} (hj : j ≠ p) : (discardIf b p s).port j = s.port j := by
  cases b with
  | false => rfl
  | true => exact State.port_setPort_other _ _ _ _ hj

theorem setComplete_iff : setComplete i held = true ↔ ∀ j ≤ i.last, j ∈ held.map Prod.fst := by
  unfold setComplete
  simp only [List.all_eq_true, List.mem_range, Nat.lt_succ_iff, List.any_eq_true, beq_iff_eq, List.mem_map]

theorem offeredEntries_eq (i : SetIdentity) (held : List (Nat × List (Nat × Nat))) : offeredEntries i held =
    (List.range (i.last + 1)).flatMap fun j => ((held.find? fun z => z.1 == j).map Prod.snd).getD [] := by
  unfold offeredEntries
  refine congrArg (List.flatMap · _) (funext fun j => ?_)
  cases held.find? fun z => z.1 == j <;> rfl

theorem holdSection_part (h : ¬∀ j ≤ i.last, j ∈ (held ++ [(n, entries)]).map Prod.fst) :
    holdSection p i n entries held s = s.setDirContext p { s.dirContext p with set := ⟨some i, held ++ [(n, entries)]⟩ } :=
  if_neg (mt setComplete_iff.mp h)

theorem holdSection_whole (h : ∀ j ≤ i.last, j ∈ (held ++ [(n, entries)]).map Prod.fst)
    (hx : (s.dirContext p).source = some x) : holdSection p i n entries held s =
      completeDirectory x i (offeredEntries i (held ++ [(n, entries)])) (abandonSet p s) := by
  unfold holdSection
  dsimp only
  rw [if_pos (setComplete_iff.mpr h)]
  simp only [hx]

theorem takeItem_crc (h : crc32 sec ≠ 0) : takeItem p s (.complete sec) = countCrcFailure p s := if_neg h

theorem takeItem_good (h : crc32 sec = 0) : takeItem p s (.complete sec) = takeGoodSection p sec s := if_pos h

theorem takeGoodSection_next (h : octetAt sec 5 < 128) : takeGoodSection p sec s = s := if_pos h

theorem takeGoodSection_eq : takeGoodSection p sec s =
    if octetAt sec 5 < 128 then s
    else if 3 < octetAt sec 7 ∨ octetAt sec 7 < octetAt sec 6 then countDiscard p (abandonSet p s)
    else match (s.dirContext p).set.identity with
      | none => holdSection p (sectionIdentity sec) (octetAt sec 6) (entriesOf sec) (s.dirContext p).set.held s
      | some j =>
        if j ≠ sectionIdentity sec then holdSection p (sectionIdentity sec) (octetAt sec 6) (entriesOf sec) []
          (if (s.dirContext p).set.held.isEmpty then s else countDiscard p s)
        else if (s.dirContext p).set.held.any fun z => z.1 == octetAt sec 6 then s
        else holdSection p (sectionIdentity sec) (octetAt sec 6) (entriesOf sec) (s.dirContext p).set.held s := rfl

variable (h : 128 ≤ octetAt sec 5)
include h

theorem takeGoodSection_bad (hb : 3 < octetAt sec 7 ∨ octetAt sec 7 < octetAt sec 6) :
    takeGoodSection p sec s = countDiscard p (abandonSet p s) := by
  rw [takeGoodSection_eq, if_neg (Nat.not_lt.mpr h), if_pos hb]

variable (hn : octetAt sec 6 ≤ octetAt sec 7) (hl : octetAt sec 7 ≤ 3)
include hn hl

theorem takeGoodSection_again (hi : (s.dirContext p).set.identity = some (sectionIdentity sec))
    (hm : octetAt sec 6 ∈ (s.dirContext p).set.held.map Prod.fst) : takeGoodSection p sec s = s := by
  obtain ⟨e, he, hne⟩ := List.mem_map.mp hm
  have hany : ((s.dirContext p).set.held.any fun z => z.1 == octetAt sec 6) = true :=
    List.any_eq_true.mpr ⟨e, he, beq_iff_eq.mpr hne⟩
  rw [takeGoodSection_eq, if_neg (Nat.not_lt.mpr h), if_neg (by omega), hi]
  dsimp only
  rw [if_neg (not_not_intro rfl), if_pos hany]

/-- A section of another set, or of a number that the set does not hold. -/
theorem takeGoodSection_placed (hm : (s.dirContext p).set.identity = some (sectionIdentity sec) →
      octetAt sec 6 ∉ (s.dirContext p).set.held.map Prod.fst) : takeGoodSection p sec s =
    holdSection p (sectionIdentity sec) (octetAt sec 6) (entriesOf sec) ((s.dirContext p).set.kept (sectionIdentity sec))
      (discardIf ((s.dirContext p).set.abandons (sectionIdentity sec)) p s) := by
  rw [takeGoodSection_eq, if_neg (Nat.not_lt.mpr h), if_neg (by omega), SetInProgress.kept, SetInProgress.abandons]
  cases hi : (s.dirContext p).set.identity with
  | none => rfl
  | some j =>
    by_cases hj : j = sectionIdentity sec
    · subst hj
      have hany : ((s.dirContext p).set.held.any fun z => z.1 == octetAt sec 6) = false := by
        refine Bool.eq_false_iff.mpr fun hany => hm hi ?_
        obtain ⟨e, he, hne⟩ := List.any_eq_true.mp hany
        exact List.mem_map.mpr ⟨e, he, beq_iff_eq.mp hne⟩
      dsimp only
      rw [if_neg (not_not_intro rfl), if_neg (by rw [hany]; exact nofun), if_pos rfl]
      simp [discardIf]
    · dsimp only
      rw [if_pos hj, if_neg hj]
      cases (s.dirContext p).set.held <;> simp [discardIf, hj]

end

/-! ### The discoveries and the requests, by the candidates' table -/

section
variable {s : State} {x : Nat} {entries : List (Nat × Nat)}

/-- Whether a candidate of source `x` expects the service number `m`. -/
def Candidate.expects (x m : Nat) (d : Candidate) : Bool :=
  decide (d.cfg.state ≠ .free ∧ d.cfg.source = some x ∧ d.cfg.expected = some m)

theorem expectedFrom_beq (m : Nat) (d : Candidate) : (expectedFrom x d == some m) = d.expects x m := by
  rw [Bool.eq_iff_iff, beq_iff_eq, expectedFrom_iff]
  exact decide_eq_true_iff.symm

theorem discoveriesIn_firsts (s : State) (x : Nat) (entries : List (Nat × Nat)) : discoveriesIn s x entries =
    (entries.zipIdx.filter fun z => !(s.candidates.any fun d => d.2.expects x z.1.1) &&
      !((entries.take z.2).any fun y => y.1 == z.1.1)).map Prod.fst := by
  have firsts := foldl_addEntry entries [] [] fun _ => rfl
  rw [List.nil_append, List.nil_append, List.length_nil] at firsts
  rw [discoveriesIn_eq, firsts, List.filter_map, List.filter_filter]
  simp only [expectedFrom_beq, Function.comp_def]

theorem missesTwice_eq (d : Candidate) : missesTwice x entries d = (d.misses != 0 && match d.cfg.expected with
    | some m => d.expects x m && !(entries.any fun z => z.1 == m)
    | none => false) := by
  cases he : d.cfg.expected with
  | none =>
    have hnone : expectedFrom x d = none := by
      refine Option.eq_none_iff_forall_ne_some.mpr fun m hm => ?_
      exact nomatch he.symm.trans (expectedFrom_iff.mp hm).2.2
    simp only [missesTwice, hnone, Bool.and_false]
  | some m =>
    cases hx : d.expects x m with
    | true =>
      have hsome : expectedFrom x d = some m := beq_iff_eq.mp ((expectedFrom_beq m d).trans hx)
      simp only [missesTwice, hsome, hx, Bool.true_and, Bool.and_comm]
    | false =>
      have hnone : expectedFrom x d = none := by
        refine Option.eq_none_iff_forall_ne_some.mpr fun m' hm => ?_
        obtain rfl : m = m' := Option.some.inj (he.symm.trans (expectedFrom_iff.mp hm).2.2)
        exact nomatch hx.symm.trans ((expectedFrom_beq m d).symm.trans (beq_iff_eq.mpr hm))
      simp only [missesTwice, hnone, hx, Bool.false_and, Bool.and_false]

theorem quarantineRequests_eq (h : Table.wf Candidate.default s.candidates) : quarantineRequests x entries s =
    (s.candidates.filter fun d => d.2.misses != 0 && match d.2.cfg.expected with
      | some m => d.2.expects x m && !(entries.any fun z => z.1 == m)
      | none => false).map fun d => .directoryQuarantineRequest d.1 := by
  unfold quarantineRequests State.candidateIndices Table.keys
  rw [List.filter_map, List.map_map]
  refine congrArg (List.map _) (List.filter_congr fun e he => ?_)
  rw [Function.comp_apply, missesTwice_eq, show s.candidate e.1 = e.2 from Table.get_of_mem h.1 he]

/-- A number that a candidate expects is no discovery. -/
theorem not_mem_discoveriesIn (h : Table.wf Candidate.default s.candidates) {d m : Nat}
    (he : (s.candidate d).expects x m = true) : m ∉ (discoveriesIn s x entries).map Prod.fst := by
  intro hm
  obtain ⟨z, hz, rfl⟩ := List.mem_map.mp hm
  rw [discoveriesIn_eq] at hz
  have hany := (any_expected_iff h).mpr ⟨d, beq_iff_eq.mp ((expectedFrom_beq z.1 _).trans he)⟩
  have hnot := (List.mem_filter.mp hz).2
  rw [hany] at hnot
  exact nomatch hnot

end

end Sys2Proof.Machine
end

section
/-! PROOFS. A lane-0 packet at a context (O43). -/

namespace Sys2Proof.Machine

/-! ### What a complete directory leaves, part by part -/

namespace DirectoryTaken
variable {s t : State} {x m d : Nat} {i : SetIdentity} {entries : List (Nat × Nat)}
variable (h : DirectoryTaken s t x i entries)
include h

theorem unexpected (hd : (s.candidate d).cfg.state = .free ∨ (s.candidate d).cfg.source ≠ some x ∨
    (s.candidate d).cfg.expected = none) : t.candidate d = s.candidate d := by
  rw [h.candidate]
  refine checkedCandidate_unexpected (Option.eq_none_iff_forall_ne_some.mpr fun m hm => ?_)
  obtain ⟨hstate, hsource, hexpected⟩ := expectedFrom_iff.mp hm
  rcases hd with hd | hd | hd
  · exact hstate hd
  · exact hd hsource
  · exact nomatch hexpected.symm.trans hd

theorem missed_first (hd : expectedFrom x (s.candidate d) = some m) (hm : m ∉ entries.map Prod.fst)
    (h0 : (s.candidate d).misses = 0) : t.candidate d = { s.candidate d with directory := .missing, misses := 1 } := by
  rw [h.candidate, checkedCandidate_missing hd hm, if_pos h0]

theorem missed_again (hd : expectedFrom x (s.candidate d) = some m) (hm : m ∉ entries.map Prod.fst)
    (h0 : (s.candidate d).misses ≠ 0) : t.candidate d = { s.candidate d with directory := .missing, misses := 0 } := by
  rw [h.candidate, checkedCandidate_missing hd hm, if_neg h0]

theorem requested (hd : expectedFrom x (s.candidate d) = some m) (hm : m ∉ entries.map Prod.fst)
    (hmisses : (s.candidate d).misses ≠ 0) : .directoryQuarantineRequest d ∈ t.inFlight := by
  have listed : d ∈ s.candidateIndices := by
    have hne : s.candidate d ≠ Candidate.default d := fun heq => by
      rw [heq, expectedFrom_default] at hd
      exact nomatch hd
    exact List.mem_map.mpr ⟨_, Table.mem_of_get_ne hne, rfl⟩
  rw [h.inFlight]
  exact List.mem_append_left _ (List.mem_append_right _
    (List.mem_map.mpr ⟨d, List.mem_filter.mpr ⟨listed, missesTwice_missing hd hm hmisses⟩, rfl⟩))

theorem kept_discoveries : t.discoveries.take s.discoveries.length =
    s.discoveries.map (loggedAs x s.intervalNumber (discoveriesIn s x entries)) := by
  rw [h.discoveries]
  exact List.take_left' (List.length_map _)

theorem new_discoveries : t.discoveries.drop s.discoveries.length =
    ((unlogged x s.discoveries (discoveriesIn s x entries)).take (128 - s.discoveries.length)).map
      (newDiscovery x s.intervalNumber) := by
  rw [h.discoveries]
  exact List.drop_left' (List.length_map _)

/-- A number that a candidate of the source expects is not logged as new. -/
theorem expected_not_new (hwf : Table.wf Candidate.default s.candidates) (hd : (s.candidate d).expects x m = true) :
    m ∉ (discoveriesIn s x entries).map Prod.fst ∧ ∀ z ∈ t.discoveries.drop s.discoveries.length, z.number ≠ m := by
  have hout := not_mem_discoveriesIn (entries := entries) hwf hd
  refine ⟨hout, fun z hz => ?_⟩
  rw [h.new_discoveries] at hz
  obtain ⟨y, hy, rfl⟩ := List.mem_map.mp hz
  have hfound : y ∈ discoveriesIn s x entries := (List.mem_filter.mp (List.mem_of_mem_take hy)).1
  rintro rfl
  exact hout (List.mem_map_of_mem hfound)

end DirectoryTaken

theorem discardIf_dirContext {s : State} {p : Nat} (b : Bool) (j : Nat) :
    (discardIf b p s).dirContext j = s.dirContext j := by cases b <;> rfl

/-- A context written again over a discard. -/
theorem discardIf_setDirContext {s : State} {p : Nat} (b : Bool) (v w : DirContext) :
    (discardIf b p (s.setDirContext p v)).setDirContext p w = if b then (s.setDirContext p w).setPort p { s.port p with
      counters := { (s.port p).counters with discards := min 0xFFFFFFFF ((s.port p).counters.discards + 1) } }
    else s.setDirContext p w := by
  cases b with
  | false => exact State.setDirContext_setDirContext ..
  | true =>
    exact congrArg (fun r : State => r.setPort p { s.port p with
      counters := { (s.port p).counters with discards := min 0xFFFFFFFF ((s.port p).counters.discards + 1) } })
        (State.setDirContext_setDirContext s p v w)

/-- A state with other tables of ports and of contexts. -/
def State.withTables (s : State) (ports : Table Port) (contexts : Table DirContext) : State :=
  { s with ports := ports, contexts := contexts }

/-- The state from which a complete directory is taken: its set is over. -/
theorem abandonSet_discardIf (s : State) (p : Nat) (b : Bool) : ∃ ports contexts,
    abandonSet p (discardIf b p s) = s.withTables ports contexts := by
  rw [abandonSet, discardIf_frame]
  exact ⟨_, _, rfl⟩

/-- Settles O43: the packet is read, and a section received whole is taken by the row of R138 that fits. -/
theorem directoryPacket_spec : Obligations.DirectoryPacket := by
  intro s p x packet sec rest l hr hcan hp hlen c i u n breaks size fits begins follows carries after dropped entries number ident
    good kept abandons held placed whole offered
  have hexec : exec i s = .next (directoryPacket p x packet u) := exec_directoryPacket hr hp hlen
  have next {t : State} (h : directoryPacket p x packet u = t) : exec i s = .next t := hexec.trans (congrArg _ h)
  have reads : begins ∨ follows → c.source = some x ∧ (u.dirContext p).Reads packet sec rest l := by
    rintro (⟨hsource, hreads⟩ | ⟨hsource, hreads⟩)
    · exact ⟨hsource, .inl hreads⟩
    · exact ⟨hsource, .inr hreads⟩
  have received (h : carries) : exec i s = .next (takeItem p after (.complete sec)) := by
    obtain ⟨hreads, hfits, hlength, hrest⟩ := h
    obtain ⟨hsource, hreads⟩ := reads hreads
    exact next (directoryPacket_whole (s := u) hsource hreads hfits hlength hrest)
  have taken (h : good) : exec i s = .next (takeGoodSection p sec after) := by
    obtain ⟨hcarries, hcrc, -⟩ := h
    exact (received hcarries).trans (congrArg _ (takeItem_good hcrc))
  have context : after.dirContext p = { c with lastSeq := some n, section_ := .none } :=
    State.dirContext_setDirContext_same ..
  have setSame : (after.dirContext p).set = c.set := by rw [context]
  have holds (h : placed) : exec i s = .next (holdSection p ident number entries kept (discardIf abandons p after)) := by
    obtain ⟨hgood, hn, hl, hm⟩ := h
    have step := takeGoodSection_placed (p := p) (s := after) hgood.2.2 hn hl (by rw [setSame]; exact hm)
    rw [setSame] at step
    exact (taken hgood).trans (congrArg _ step)
  refine ⟨fun h => next (directoryPacket_elsewhere (s := u) h),
    fun h hs => next (directoryPacket_passes (s := u) h (checkSequence_silent hs)),
    fun h hs hd hl => next (directoryPacket_passes (s := u) h (checkSequence_repeat hs hd hl)),
    fun h hb hl hstart => next (directoryPacket_drops (s := u) h (checkSequence_breaks hb.1 hb.2) hl hstart),
    fun h hrest hsec => ?part, fun h hcrc => (received h).trans (congrArg _ (takeItem_crc hcrc)),
    fun h hcrc hnext => (received h).trans (congrArg _ ((takeItem_good hcrc).trans (takeGoodSection_next hnext))),
    fun h hbad => (taken h).trans (congrArg _ ((takeGoodSection_bad h.2.2 hbad).trans ?bad)),
    fun h hn hl hi hm => (taken h).trans (congrArg _ (takeGoodSection_again h.2.2 hn hl (by rw [setSame]; exact hi)
      (by rw [setSame]; exact hm))), fun h hw => ?held, fun h hw => ?whole⟩
  case part =>
    subst hrest
    obtain ⟨hsource, hreads⟩ := reads h
    exact next (directoryPacket_part (s := u) hsource hreads hsec)
  case bad =>
    rw [abandonSet, context, State.setDirContext_setDirContext]
    rfl
  case held =>
    rw [holds h, holdSection_part hw, discardIf_dirContext, context]
    exact congrArg _ (discardIf_setDirContext ..)
  case whole =>
    have hsource : c.source = some x := by
      obtain ⟨⟨⟨hreads, -⟩, -⟩, -⟩ := h
      exact (reads hreads).1
    have hcomplete : exec i s = .next (completeDirectory x ident (offeredEntries ident held)
        (abandonSet p (discardIf abandons p after))) :=
      (holds h).trans (congrArg _ (holdSection_whole hw (by rw [discardIf_dirContext, context]; exact hsource)))
    rw [offeredEntries_eq] at hcomplete
    have contextAt : (abandonSet p (discardIf abandons p after)).dirContext p =
        { c with lastSeq := some n, section_ := .none, set := ⟨none, []⟩ } := by
      rw [abandonSet, State.dirContext_setDirContext_same, discardIf_dirContext, context]
      rfl
    have contexts (j : Nat) (hj : j ≠ p) : (abandonSet p (discardIf abandons p after)).dirContext j = s.dirContext j := by
      rw [abandonSet, State.dirContext_setDirContext_other _ _ _ _ hj, discardIf_dirContext]
      exact State.dirContext_setDirContext_other _ _ _ _ hj
    have portAt : (abandonSet p (discardIf abandons p after)).port p = if abandons then dropped else s.port p :=
      discardIf_port (s := after) abandons
    have ports (j : Nat) (hj : j ≠ p) : (abandonSet p (discardIf abandons p after)).port j = s.port j :=
      discardIf_port_other (s := after) abandons hj
    obtain ⟨portTable, contextTable, hframe⟩ := abandonSet_discardIf after p abandons
    rw [hframe] at hcomplete contextAt contexts portAt ports
    have hwf : Table.wf Candidate.default s.candidates := by
      obtain ⟨-, -, -, hcandidates, -⟩ := hcan
      exact hcandidates
    have directory := completeDirectory_taken (s := after.withTables portTable contextTable) (x := x)
      (i := ident) (entries := offered) hwf
    have hrun : exec i s = .next (completeDirectory x ident offered (after.withTables portTable contextTable)) :=
      hcomplete
    generalize completeDirectory x ident offered (after.withTables portTable contextTable) = t at hrun directory
    have frame := directory.frame
    have contextKept (j : Nat) : t.dirContext j =
        State.dirContext (after.withTables portTable contextTable) j := by
      rw [frame]
      rfl
    have portKept (j : Nat) : t.port j = State.port (after.withTables portTable contextTable) j := by
      rw [frame]
      rfl
    refine ⟨t, hrun, (contextKept p).trans contextAt, fun j hj => (contextKept j).trans (contexts j hj),
      (portKept p).trans portAt, fun j hj => (portKept j).trans (ports j hj), ?snapshot, directory.snapshots,
      fun d hd => directory.unexpected hd, fun d m hstate hsrc hexp => ?checks, ⟨?kept, ?new, ?overflow, ?expected,
      ?flight⟩, ?frame⟩
    case snapshot => exact directory.snapshot
    case checks =>
      have hd := expectedFrom_iff.mpr ⟨hstate, hsrc, hexp⟩
      refine ⟨fun hm => ?_, fun hm h0 => directory.missed_first hd hm h0,
        fun hm h0 => ⟨directory.missed_again hd hm h0, directory.requested hd hm h0⟩⟩
      rw [directory.candidate]
      exact checkedCandidate_confirmed hd hm
    case kept => exact directory.kept_discoveries.trans (by rw [discoveriesIn_firsts]; rfl)
    case new => exact directory.new_discoveries.trans (by rw [discoveriesIn_firsts]; rfl)
    case overflow => exact directory.overflow.trans (by rw [discoveriesIn_firsts]; rfl)
    case expected =>
      intro d m hd
      have hout := directory.expected_not_new hwf (d := d) (m := m) hd
      rw [discoveriesIn_firsts] at hout
      exact hout
    case flight => exact directory.inFlight.trans (by rw [quarantineRequests_eq (s := after.withTables portTable contextTable) hwf]; rfl)
    case frame => exact congrArg (fun r : State => { r with ports := t.ports, contexts := t.contexts }) frame

end Sys2Proof.Machine
end
